-- ==== Sys2Proof/Word.lean ====
section
/-!
DEFINITION. The plain types of the UW-240's values: bytes, numbered layers, streams, slots and levels
(00_scope.md, 3.1; R156; R178).
-/

namespace Sys2Proof

/-- A byte of a command message, a result, a link frame or a reply (R178). -/
abbrev Byte := BitVec 8

/-- The code FMON is converted to, 0..4095 (R144). -/
abbrev MonitorCode := BitVec 12

/-- A recording layer, 0..3 (00_scope.md, 3.1). -/
abbrev LayerNo := Fin 4

/-- A stream context, 0..3 (R99). -/
abbrev StreamNo := Fin 4

/-- A slot of the zone table, 0..127 (R1). -/
abbrev ZoneSlot := Fin 128

/-- A slot of the strategy table, 0..15 (R46). -/
abbrev StrategySlot := Fin 16

/-- The privilege level of a client: 0 drive controller, 1 edit bridge, 2 observers (R156). -/
abbrev Level := Fin 3

end Sys2Proof
end

