-- ==== Sys2Proof/Config.lean ====
section
/-!
DEFINITION. The fixed capacities and limits of the part (00_scope.md 1 and 3.1; R59, R61, R101, R106, R175).
No rule of the spec leaves the value of a result open, so this file declares no free value.
-/

namespace Sys2Proof.Config

/-- The greatest block number, 2^30 - 1 (00_scope.md, 3.1). -/
abbrev maxBlock : Nat := 1073741823

/-- A zone holds at least 256 blocks (R2). -/
abbrev minZoneBlocks : Nat := 256

/-- The greatest power code (00_scope.md, 3.1). -/
abbrev maxPower : Nat := 2000

/-- Entries the announce queue holds (R61). -/
abbrev queueDepth : Nat := 8

/-- Replies the reply store holds (R59). -/
abbrev replyStoreDepth : Nat := 32

/-- Ranges the guard list holds (R106). -/
abbrev guardCapacity : Nat := 16

/-- Where the stream counters stop (R101). -/
abbrev counterMax : Nat := 4294967295

/-- Mismatched samples that fault the laser (R149, R150). -/
abbrev mismatchLimit : Nat := 8

/-- Coldest and hottest whole degree the laser-mount sensor gives (R133). -/
abbrev tempMin : Int := -40
abbrev tempMax : Int := 125

/-- Durations in microseconds: ALERT pulse (R173), block sample (R145), idle sample (R147),
temperature sample (R133). -/
abbrev pulseMicros : Nat := 2
abbrev blockSampleMicros : Nat := 4
abbrev idleSampleMicros : Nat := 100
abbrev tempSampleMicros : Nat := 10000

/-- The vendor code of INQUIRE page 0 (R175). -/
abbrev vendorCode : Nat := 0x0E24

end Sys2Proof.Config
end

