-- ==== Sys2Proof/Syntax.lean ====
section
/-!
DEFINITION. The commands and events of the part: one constructor of `Instr` per row of spec/opcode_table.json.
The table gives no row an operand; a constructor has one only where the event brings a value from outside the part
(pins, a byte, a frame, a monitor code, a temperature). The parameters of an executor command are the bytes of the
message the executor holds (R158, R160; assumption log 6).
-/

namespace Sys2Proof

/-- The levels the part finds on its inputs at the end of power-on or of a low level on RSTN. -/
structure Pins where
  /-- Strap value k, ADR1 the more significant bit (R156). -/
  straps : BitVec 2
  /-- Level of BGATE (R80). -/
  bgate : Bool
  /-- LOFF is low, so asserted (R131). -/
  loff : Bool
  /-- The PLL reports lock (R138). -/
  pllLock : Bool
  /-- What the laser-mount sensor reads, whole degrees (R133). -/
  temp : Int
  /-- Level of LFRM: high while a frame that began before the reset was complete is open on LDI (R57). -/
  lfrm : Bool
deriving DecidableEq, Repr

/-- What the part finds at the end of a RESET command, beside the levels it has followed all along. -/
structure ResetLevels where
  /-- What the laser-mount sensor reads, whole degrees (R133). -/
  temp : Int
  /-- Level of LFRM: high while a frame that began before the reset is open on LDI (R57). -/
  lfrm : Bool
deriving DecidableEq, Repr

/-- What an entry does with its blocks (section 4.2). -/
inductive Intent where
  | read
  | write
  | calibrate
deriving DecidableEq, Repr

/-- One constructor per row of spec/opcode_table.json; the rule named is the row's own. -/
inductive Instr where
  /-- POWER_ON (R156). -/
  | powerOn (pins : Pins)
  /-- RSTN_LOW (R142). -/
  | rstnLow
  /-- RSTN_RELEASE (R165). -/
  | rstnRelease (pins : Pins)
  /-- ADDRESS_BYTE (R163): the first byte after a START, address in bits 7..1, read/write in bit 0 (R157). -/
  | addressByte (byte : Byte)
  /-- WRITE_TRANSFER_END (R158). -/
  | writeTransferEnd
  /-- ALL_STOP (R159). -/
  | allStop
  /-- BUS_TIMEOUT (R164). -/
  | busTimeout
  /-- COMMAND_COMPLETION (R160). -/
  | commandCompletion
  /-- LOAD_ZONE (R9). -/
  | loadZone
  /-- SET_POWERS (R11). -/
  | setPowers
  /-- SET_TRIM_ABSOLUTE (R12). -/
  | setTrimAbsolute
  /-- SET_TRIM_SHORT (R12). -/
  | setTrimShort
  /-- SET_AUTOTRIM (R14). -/
  | setAutotrim
  /-- MARK_ABSENT (R16). -/
  | markAbsent
  /-- MARK_PRESENT (R17). -/
  | markPresent
  /-- CLOSE_ZONE (R18). -/
  | closeZone
  /-- REOPEN_ZONE (R19). -/
  | reopenZone
  /-- RELEASE_ZONE (R20). -/
  | releaseZone
  /-- READ_ZONE (R24). -/
  | readZone
  /-- FIND_ZONE (R25). -/
  | findZone
  /-- SWEEP (R26). -/
  | sweep
  /-- LOAD_STRATEGY (R48). -/
  | loadStrategy
  /-- RELEASE_STRATEGY (R50). -/
  | releaseStrategy
  /-- READ_STRATEGY (R51). -/
  | readStrategy
  /-- OPEN_STREAM (R100). -/
  | openStream
  /-- CLOSE_STREAM (R102). -/
  | closeStream
  /-- READ_STREAM (R104). -/
  | readStream
  /-- ADD_GUARD (R107). -/
  | addGuard
  /-- REMOVE_GUARD (R111). -/
  | removeGuard
  /-- LIST_GUARDS (R112). -/
  | listGuards
  /-- LOAD_LAYER (R117). -/
  | loadLayer
  /-- READ_PICKUP (R122). -/
  | readPickup
  /-- LOAD_LASER_MODEL (R126). -/
  | loadLaserModel
  /-- LOAD_CEILINGS (R127). -/
  | loadCeilings
  /-- LASER_ON (R128). -/
  | laserOn
  /-- LASER_OFF (R130). -/
  | laserOff
  /-- CLEAR_FAULT (R136). -/
  | clearFault
  /-- READ_LASER (R141). -/
  | readLaser
  /-- ACK_EVENTS (R169). -/
  | ackEvents
  /-- SET_PERMISSIONS (R170). -/
  | setPermissions
  /-- SET_ALERT_MODE (R171). -/
  | setAlertMode
  /-- READ_EVENTS (R174). -/
  | readEvents
  /-- INQUIRE (R175). -/
  | inquire
  /-- RESET (R176), with what the part finds at the end of the reset. -/
  | reset (found : ResetLevels)
  /-- UNMOUNT (R177). -/
  | unmount
  /-- ANNOUNCE (R62): the fields after the type byte, whole bytes as sent (section 12.2). -/
  | announce (tag packed step : Byte) (start : BitVec 32) (run : Byte)
  /-- ABORT (R69): the scope byte. -/
  | abort (scope : Byte)
  /-- QUALITY (R153): layer byte, block, signed beta byte. -/
  | quality (layer : Byte) (block : BitVec 32) (beta : Byte)
  /-- MALFORMED_MESSAGE (R58): the whole bytes of a frame, and whether it ended on a byte boundary. -/
  | malformedMessage (bytes : List Byte) (wholeBytes : Bool)
  /-- REPLY_SEND (R59): LCK clocks one byte out on LDO (assumption log 11). -/
  | replySend
  /-- TRANSLATION_COMPLETE (R64). -/
  | translationComplete
  /-- LEVEL_COMPUTATION_COMPLETE (R33). -/
  | levelComputationComplete
  /-- IDLE_COMPUTATION_COMPLETE (R42). -/
  | idleComputationComplete
  /-- BGATE_RISE (R81). -/
  | bgateRise
  /-- BGATE_FALL (R91). -/
  | bgateFall
  /-- WDATA_TRANSITION (R52), with the whole periods of CHCLK since the transition before it. -/
  | wdataTransition (periods : Nat)
  /-- MARK_START (R53), with the highest code FMON gave since the last event that carried one. -/
  | markStart (fmon : MonitorCode)
  /-- PATTERN_STEP_END (R53), with the highest code FMON gave since the last event that carried one. -/
  | patternStepEnd (fmon : MonitorCode)
  /-- SETTLE_END (R119). -/
  | settleEnd
  /-- WARM_UP_EXPIRY (R129). -/
  | warmUpExpiry
  /-- LOFF_ASSERTED (R131). -/
  | loffAsserted
  /-- LOFF_RELEASED (R131). -/
  | loffReleased
  /-- TEMPERATURE_SAMPLE (R133), whole degrees. -/
  | temperatureSample (temp : Int)
  /-- GATE_LIMIT_EXPIRY (R134). -/
  | gateLimitExpiry
  /-- PLL_LOSES_LOCK (R138). -/
  | pllLosesLock
  /-- PLL_REGAINS_LOCK (R138). -/
  | pllRegainsLock
  /-- LOSS_TIMER_EXPIRY (R138). -/
  | lossTimerExpiry
  /-- BLOCK_SAMPLE (R145), with FMON's code (R146 for a write sample: the highest since the last event). -/
  | blockSample (fmon : MonitorCode)
  /-- IDLE_SAMPLE_TIMER_EXPIRY (R147), with FMON's code. -/
  | idleSampleTimerExpiry (fmon : MonitorCode)
  /-- CONVERSION_COMPLETE (R148). -/
  | conversionComplete
  /-- ALERT_PULSE_END (R173). -/
  | alertPulseEnd
  /-- COMMAND_MESSAGE_BYTE (R158): a data byte of a write transfer. -/
  | commandMessageByte (byte : Byte)
deriving DecidableEq, Repr

end Sys2Proof
end

