-- ==== Sys2Proof/Machine/State.lean ====
section
/-!
DEFINITION. The state of the UW-240: every piece the spec gives each of its twelve blocks (00_scope.md, section 2), as
plain data, and the state after reset. Each field's docstring names the rule that gives it.
-/

namespace Sys2Proof.Machine

open Sys2Proof

/-! ### Zone table (R1, section 1.1) -/

inductive ZoneState where
  | free
  | loaded
  | absent
  | closed
  | retiring
deriving DecidableEq, Repr

/-- The five types of zone (section 1.1). -/
inductive ZoneKind where
  | lead
  | test
  | spare
  | once
  | rewrite
deriving DecidableEq, Repr

/-- The six powers of a zone, power codes (section 1.1). -/
structure Powers where
  pr : Nat
  pwi : Nat
  pwo : Nat
  pei : Nat
  peo : Nat
  pb : Nat
deriving DecidableEq, Repr

/-- A zone descriptor (section 1.1). -/
structure Zone where
  state : ZoneState
  layer : LayerNo
  first : Nat
  last : Nat
  kind : ZoneKind
  /-- 0 system zone, 1 user zone. -/
  level : Nat
  powers : Powers
  strategy : Option StrategySlot
  trim : Int
  autoTrim : Bool
  target : Int
  deadband : Nat
  written : Bool
  trimLimit : Bool
  pins : Nat
deriving DecidableEq, Repr

/-- The Free content (R1). -/
def Zone.freeContent : Zone :=
  { state := .free, layer := 0, first := 0, last := 0, kind := .lead, level := 0,
    powers := ⟨0, 0, 0, 0, 0, 0⟩, strategy := none, trim := 0, autoTrim := false, target := 0, deadband := 0,
    written := false, trimLimit := false, pins := 0 }

/-! ### Strategy table (R46, section 3.1) -/

/-- The five widths of a mark class, in sixteenths of T (section 3.1). -/
structure ClassWidths where
  dF : Nat
  wF : Nat
  wM : Nat
  wL : Nat
  wC : Nat
deriving DecidableEq, Repr

/-- The twenty widths of a strategy record (section 3.1). -/
structure StrategyRecord where
  c2 : ClassWidths
  c3 : ClassWidths
  c4 : ClassWidths
  c5 : ClassWidths
deriving DecidableEq, Repr

/-- All twenty widths 0 (R46). -/
def StrategyRecord.freeContent : StrategyRecord :=
  ⟨⟨0, 0, 0, 0, 0⟩, ⟨0, 0, 0, 0, 0⟩, ⟨0, 0, 0, 0, 0⟩, ⟨0, 0, 0, 0, 0⟩⟩

/-- A slot of the strategy table (R46). -/
structure Strategy where
  loaded : Bool
  refs : Nat
  record : StrategyRecord
deriving DecidableEq, Repr

/-- A Free strategy slot (R46). -/
def Strategy.freeContent : Strategy := ⟨false, 0, StrategyRecord.freeContent⟩

/-! ### Laser model and ceiling set (section 2.7) -/

structure LaserModel where
  /-- Threshold current at 25 degrees, 0.1 mA. -/
  ith25 : Nat
  /-- Temperature coefficient of the threshold. -/
  kth : Nat
  /-- Slope efficiency at 25 degrees, 0.001 mW/mA. -/
  eta25 : Nat
  /-- Temperature coefficient of the slope. -/
  keta : Nat
  /-- Monitor gain, /1024. -/
  gain : Nat
  /-- Warm-up time, ms. -/
  warmUpMs : Nat
  /-- Temperature limit. -/
  tlim : Nat
deriving DecidableEq, Repr

structure Ceilings where
  pmax : Nat
  imax : Nat
  pdef : Nat
  twarn : Nat
  /-- Gate limit in steps of 10 µs. -/
  gateSteps : Nat
  /-- Clock tolerance, µs. -/
  clockTol : Nat
  /-- Monitor tolerance, percent. -/
  monTol : Nat
deriving DecidableEq, Repr

/-! ### Level computer (R29, section 2.1) -/

/-- One level of a level set (section 2.1). -/
structure DriveLevel where
  /-- Target power, after the power ceiling. -/
  power : Nat
  /-- Power-clamp mark. -/
  powerClamp : Bool
  /-- Current; for a read level before the APC offset and the current ceiling. -/
  current : Nat
  /-- Current-clamp mark; clear for a read level. -/
  currentClamp : Bool
deriving DecidableEq, Repr

/-- The levels a Write or Calibrate set holds beside the read level (section 2.1). -/
structure WriteLevels where
  peak : DriveLevel
  bias : DriveLevel
  bottom : DriveLevel
deriving DecidableEq, Repr

/-- A completed level set (section 2.1). -/
structure LevelSet where
  tag : Byte
  block : Nat
  intent : Intent
  /-- The layer of the block: the entry's (R30, section 2.1). -/
  layer : LayerNo
  /-- The zone slot it was computed from; none only with the translation removed (R30; assumption log 18). -/
  slot : Option ZoneSlot
  read : DriveLevel
  /-- Absent for a Read set. -/
  write : Option WriteLevels
deriving DecidableEq, Repr

/-- What a computation reads at the instant it starts (R33). -/
structure LevelInputs where
  tag : Byte
  block : Nat
  intent : Intent
  layer : LayerNo
  /-- The target's zone slot. -/
  slot : Option ZoneSlot
  step : Option Int
  first : Nat
  last : Nat
  powers : Powers
  trim : Int
  model : LaserModel
  ceilings : Ceilings
  temp : Int
deriving DecidableEq, Repr

/-- The prepared set: absent, in flight, or present with its ready mark set (R29). -/
inductive Prepared where
  | absent
  | computing (inputs : LevelInputs)
  | ready (set : LevelSet)
deriving DecidableEq, Repr

/-- What an idle computation reads at its start (R42). -/
structure IdleInputs where
  model : LaserModel
  ceilings : Ceilings
  temp : Int
deriving DecidableEq, Repr

/-- The idle set (R42). -/
structure IdleSet where
  ith : Nat
  power : Nat
  powerClamp : Bool
  readCurrent : Nat
  standby : Nat
  /-- The Standby value was greater than Imax (R44). -/
  standbyClamp : Bool
deriving DecidableEq, Repr

structure LevelComputer where
  prepared : Prepared
  standIn : Option LevelSet
  idleSet : Option IdleSet
  idleComp : Option IdleInputs
  /-- A sample came during an idle computation: another starts at its completion (R42). -/
  idleAgain : Bool
  /-- The set handed to the output at the last rise that served a block (R34). -/
  handedOff : Option LevelSet
  /-- A block has been served since LASER ON (R41, R45). -/
  servedSinceOn : Bool
deriving DecidableEq, Repr

/-! ### Write path (R52 to R55) -/

/-- The level code LSEL1, LSEL0 (R124). -/
inductive LevelCode where
  | read
  | peak
  | bias
  | bottom
deriving DecidableEq, Repr

/-- A step of a pattern: a level and its width in sixteenths of T (R53). -/
structure PatternStep where
  level : LevelCode
  width : Nat
deriving DecidableEq, Repr

structure WritePath where
  record : StrategyRecord
  peak : Nat
  bias : Nat
  bottom : Nat
  /-- WDATA stands in a mark (R52). -/
  inMark : Bool
  /-- Marks opened whose pattern has not begun, oldest first, with the length they are shaped as once classified. -/
  marks : List (Option Nat)
  /-- Steps of the pattern being driven, the present one first; empty is the bias step. -/
  steps : List PatternStep
deriving DecidableEq, Repr

/-! ### Announce queue and link (R59, R60) -/

inductive EntryState where
  | waiting
  | accepted
  | current
deriving DecidableEq, Repr

/-- An entry of the announce queue (section 4.2). -/
structure Entry where
  tag : Byte
  stream : StreamNo
  intent : Intent
  layer : LayerNo
  start : Nat
  requested : Nat
  accepted : Nat
  step : Option Int
  primary : Option ZoneSlot
  /-- Slot and split block. -/
  secondary : Option (ZoneSlot × Nat)
  next : Nat
  served : Nat
  skipped : Nat
  state : EntryState
  /-- Slots whose translation is removed at the fall of the block in service (R6). -/
  deferred : List ZoneSlot
deriving DecidableEq, Repr

/-- REFUSE reasons (section 12.2). -/
inductive RefuseReason where
  | queueFull
  | duplicateTag
  | laserOff
  | badRun
  | streamClosed
  | streamMode
  | layerMissing
  | zoneMissing
  | zoneAbsent
  | writeDenied
  | levelDenied
  | guarded
deriving DecidableEq, Repr

/-- SKIP reasons (section 12.2). -/
inductive SkipReason where
  | noEntry
  | notReady
  | layerMoving
  | unlocked
deriving DecidableEq, Repr

/-- REVOKE reasons (section 12.2). -/
inductive RevokeReason where
  | absent
  | closed
  | released
  | guarded
  | streamClosed
  | aborted
  | clockUnlock
  | fault
  | emergency
  | laserOff
  | unmount
deriving DecidableEq, Repr

/-- A reply to the formatter (R59, section 12.2). -/
inductive Reply where
  | accept (tag : Byte) (run : Nat) (split : Bool)
  | refuse (tag : Byte) (reason : RefuseReason)
  /-- The tag is absent, and the block 0, for a rise with no entry (R84). -/
  | skip (tag : Option Byte) (block : Nat) (reason : SkipReason)
  | done (tag : Byte) (served skipped : Nat)
  | revoke (tag : Byte) (remaining : Nat) (reason : RevokeReason)
deriving DecidableEq, Repr

structure Link where
  /-- The reply store, oldest first (R59). -/
  replies : List Reply
  /-- The bytes still to come of the reply that is part-way out on LDO (R59). -/
  sending : List Byte
  /-- The byte last clocked out on LDO (R59). -/
  ldo : Byte
  /-- The frame open on LDI began before the last reset was complete (R57). -/
  staleFrame : Bool
deriving DecidableEq, Repr

/-! ### Block service (R80) -/

/-- What the rise decided (R80). -/
inductive BlockOutcome where
  | served
  | skipped (reason : SkipReason)
deriving DecidableEq, Repr

/-- The block-in-service record (R80). -/
structure BlockRecord where
  /-- The record still has its entry (R79, R93). -/
  hasEntry : Bool
  tag : Byte
  stream : StreamNo
  layer : LayerNo
  block : Nat
  intent : Intent
  slot : Option ZoneSlot
  outcome : BlockOutcome
  /-- Ended mark (R94). -/
  ended : Bool
deriving DecidableEq, Repr

structure Gate where
  high : Bool
  record : Option BlockRecord
deriving DecidableEq, Repr

/-! ### Streams and guard ranges (R99, R106) -/

inductive StreamMode where
  | closed
  | playback
  | record
deriving DecidableEq, Repr

structure Stream where
  mode : StreamMode
  owner : Nat
  served : Nat
  skipped : Nat
  lastServed : Option (LayerNo × Nat)
deriving DecidableEq, Repr

/-- The reset content (R99). -/
def Stream.resetContent : Stream := ⟨.closed, 0, 0, 0, none⟩

structure Guard where
  layer : LayerNo
  first : Nat
  last : Nat
  setBy : Nat
deriving DecidableEq, Repr

/-! ### Pickup layer control (R115, R116) -/

structure LayerRecord where
  loaded : Bool
  sa : Nat
  fo : Int
  settle : Nat
deriving DecidableEq, Repr

/-- The Absent content (R115). -/
def LayerRecord.absentContent : LayerRecord := ⟨false, 0, 0, 0⟩

/-- The pickup state; Moving carries the microseconds to its settle end (R116, R119). -/
inductive Motion where
  | settled (layer : LayerNo)
  | moving (source target : LayerNo) (left : Nat)
deriving DecidableEq, Repr

structure Pickup where
  layers : Vector LayerRecord 4
  motion : Motion
  /-- Spherical-aberration output. -/
  sa : Nat
  /-- Focus-offset output. -/
  fo : Int
deriving DecidableEq, Repr

/-! ### Laser interlock (R124 to R142) -/

inductive LaserState where
  | off
  | standby
  | idle
  | reading
  | writing
  | fault
deriving DecidableEq, Repr

inductive FaultCause where
  | none
  | monitorMismatch
  | overTemp
  | gateStuck
deriving DecidableEq, Repr

/-- The fault record (section 8.6). -/
structure FaultRecord where
  cause : FaultCause
  /-- The on-state the laser left. -/
  left : Option LaserState
  /-- The served block in service, when block present is set. -/
  block : Option (LayerNo × Nat)
  further : Bool
deriving DecidableEq, Repr

/-- The cleared record (R135). -/
def FaultRecord.clear : FaultRecord := ⟨.none, Option.none, Option.none, false⟩

inductive ClockLock where
  | locked
  | unlocked
deriving DecidableEq, Repr

structure Laser where
  state : LaserState
  model : LaserModel
  modelLoaded : Bool
  ceilings : Ceilings
  ceilingsLoaded : Bool
  faultRecord : FaultRecord
  /-- Microseconds left of the warm-up (R129). -/
  warmUp : Option Nat
  /-- Microseconds left of the gate limit (R134). -/
  gateTimer : Option Nat
  clock : ClockLock
  /-- The PLL's present report (R138). -/
  pllLock : Bool
  /-- Microseconds left of the loss timer (R138). -/
  lossTimer : Option Nat
  /-- Latest temperature sample (R133). -/
  temp : Int
  overLimit : Bool
  /-- Microseconds to the next sample (R133). -/
  sampleTimer : Nat
  /-- Temperature warning armed (R137). -/
  warnArmed : Bool
  /-- LOFF asserted (R131). -/
  loff : Bool
  /-- The current code on LC10..LC0 (R124). -/
  current : Nat
  /-- The level code on LSEL1, LSEL0 (R124). -/
  lsel : LevelCode
deriving DecidableEq, Repr

/-! ### Output monitor (R143) -/

inductive SampleKind where
  | readBlock
  | write
  | idle
deriving DecidableEq, Repr

/-- A conversion in flight, with the two fields it takes at its start (R143, R144). -/
structure Conversion where
  kind : SampleKind
  code : Nat
  target : Nat
  gain : Nat
  tolerance : Nat
deriving DecidableEq, Repr

/-- A block sample set by a rise and not yet due (R145). -/
structure BlockSampleDue where
  /-- The state the rise gave the laser. -/
  state : LaserState
  /-- The block is still in service. -/
  live : Bool
  left : Nat
deriving DecidableEq, Repr

structure Monitor where
  apc : Int
  mismatch : Nat
  conversion : Option Conversion
  idleTimer : Option Nat
  peakHold : Option Nat
  blockSamples : List BlockSampleDue
deriving DecidableEq, Repr

/-! ### Control port (R156 to R165) -/

/-- Result codes (section 10.7). -/
inductive ResultCode where
  | done
  | denied
  | occupied
  | range
  | overlap
  | full
  | inUse
  | notReady
  | laserActive
  | wrongState
  | emergency
  | short
  | unknown
  | nothing
deriving DecidableEq, Repr

/-- A result: its code and its data bytes (section 10.7). -/
structure Result where
  code : ResultCode
  data : List Byte
deriving DecidableEq, Repr

/-- What a write transfer has taken so far (R158). -/
inductive PartialMessage where
  | empty
  | unknown
  | known (code : Byte) (params : List Byte)
deriving DecidableEq, Repr

/-- The transfer in progress, as far as it concerns the part (section 10.2, R159). -/
inductive Transfer where
  | idle
  | write (level : Level) (message : PartialMessage)
  | read (level : Level)
  /-- General call with the write bit; the flag says that its first data byte has been taken. -/
  | generalCall (taken : Bool)
deriving DecidableEq, Repr

/-- The command in the executor; its result is present once its change has been made (R160). -/
structure Executing where
  level : Level
  code : Byte
  params : List Byte
  result : Option Result
deriving DecidableEq, Repr

/-- A command in a holder (R160). -/
structure Held where
  level : Level
  code : Byte
  params : List Byte
deriving DecidableEq, Repr

structure Port where
  k : BitVec 2
  transfer : Transfer
  /-- The part holds SCL low (R163). -/
  stretched : Bool
  /-- The part acknowledged the last byte (R158). -/
  ack : Bool
  /-- Microseconds for which another device has held SCL low (R164). -/
  busTimer : Nat
  /-- The response slots; none is Empty (R162). -/
  slots : Vector (Option Result) 3
  executor : Option Executing
  /-- The three holders' commands, in the order their transfers ended (R160). -/
  held : List Held
deriving DecidableEq, Repr

/-! ### Alert unit (R168 to R173) -/

inductive AlertMode where
  | level
  | pulse
deriving DecidableEq, Repr

structure Alert where
  /-- Request flags, in the layout of section 12.1. -/
  requests : BitVec 16
  /-- Permission flags, in the same layout. -/
  permissions : BitVec 16
  mode : AlertMode
  /-- Microseconds left of a pulse (R173). -/
  pulse : Option Nat
deriving DecidableEq, Repr

/-! ### The machine -/

/-- The whole state. `pending` and `inReset` apart, each field is one of the blocks of 00_scope.md, section 2. -/
structure State where
  /-- RSTN is held low (R142). -/
  inReset : Bool
  zones : Vector Zone 128
  strategies : Vector Strategy 16
  guards : List Guard
  streams : Vector Stream 4
  queue : List Entry
  /-- The translation in flight, by its entry's tag (R63). -/
  translating : Option Byte
  link : Link
  gate : Gate
  writePath : Option WritePath
  levels : LevelComputer
  pickup : Pickup
  laser : Laser
  monitor : Monitor
  port : Port
  alert : Alert
  /-- Commands waiting, first in first out: the model's own field. -/
  pending : List Instr
deriving DecidableEq, Repr

/-- Reasons for which a step could fault. There is none: every row has an effect in every state, and the part's own faults
(R132) are the laser state Fault, an ordinary next state. Safe. -/
inductive Fault where
deriving DecidableEq, Repr

/-- Reasons for which a step could refuse. -/
inductive Refusal where
  /-- A command with no meaning yet, raised by its arm of exec alone. Safe. No arm raises it. -/
  | notModelled (mnemonic : String)
deriving DecidableEq, Repr

/-- The part right after power-on. The temperature sample, the straps and the levels found on the pins are the model's
choice (assumption logs 1 and 2); everything else is the spec's (R1, R29, R56, R59, R77, R80, R99, R114, R123, R142, R143,
R165, R168, R170, R171). -/
def State.reset : State :=
  { inReset := false
    zones := Vector.replicate 128 Zone.freeContent
    strategies := Vector.replicate 16 Strategy.freeContent
    guards := []
    streams := Vector.replicate 4 Stream.resetContent
    queue := []
    translating := none
    link := { replies := [], sending := [], ldo := 0x00#8, staleFrame := false }
    gate := { high := false, record := none }
    writePath := none
    levels := { prepared := .absent, standIn := none, idleSet := none, idleComp := none, idleAgain := false,
                handedOff := none, servedSinceOn := false }
    pickup := { layers := Vector.replicate 4 LayerRecord.absentContent, motion := .settled 0, sa := 0, fo := 0 }
    laser := { state := .off, model := ⟨0, 0, 0, 0, 0, 0, 0⟩, modelLoaded := false, ceilings := ⟨0, 0, 0, 0, 0, 0, 0⟩,
               ceilingsLoaded := false, faultRecord := FaultRecord.clear, warmUp := none, gateTimer := none,
               clock := .unlocked, pllLock := false, lossTimer := none, temp := 25, overLimit := false,
               sampleTimer := Config.tempSampleMicros, warnArmed := true, loff := false, current := 0, lsel := .read }
    monitor := { apc := 0, mismatch := 0, conversion := none, idleTimer := none, peakHold := none, blockSamples := [] }
    port := { k := 0#2, transfer := .idle, stretched := false, ack := false, busTimer := 0,
              slots := Vector.replicate 3 none, executor := none, held := [] }
    alert := { requests := 0#16, permissions := 0#16, mode := .level, pulse := none }
    pending := [] }

end Sys2Proof.Machine
end

