-- ==== Sys2Proof/Machine/Arith.lean ====
section
/-!
DEFINITION. The arithmetic of the level computer (R35 to R42) and of the output monitor (R144, R149, R154), exact before
the stated division and rounding, and the pulse pattern of a mark (R47, R53, R54).
-/

namespace Sys2Proof.Machine

open Sys2Proof

/-- Saturated to a range (00_scope.md, 3.2). -/
def clampInt (lo hi x : Int) : Int := max lo (min hi x)

/-! ### Stages of a level (section 2.4) -/

/-- The interpolation term's magnitude, rounded half up (R35). -/
def interpolationMagnitude (d n span : Nat) : Nat := (2 * d * n + span) / (2 * span)

/-- P1: inner power plus the term, which takes the sign of D = Po - Pi (R35). -/
def interpolate (inner outer first last block : Nat) : Nat :=
  if inner ≤ outer then inner + interpolationMagnitude (outer - inner) (block - first) (last - first)
  else inner - interpolationMagnitude (inner - outer) (block - first) (last - first)

/-- P2: scaled by (1024 + trim) / 1024, rounded half up (R36). -/
def applyTrim (p1 : Nat) (trim : Int) : Nat := ((2 * (p1 : Int) * (1024 + trim) + 1024) / 2048).toNat

/-- P3: scaled by (64 + s) / 64, rounded half up, for a Calibrate set; P2 otherwise (R37). -/
def applyStep (p2 : Nat) : Option Int → Nat
  | some s => ((2 * (p2 : Int) * (64 + s) + 64) / 128).toNat
  | none => p2

/-- P4: the power ceiling (R38). -/
def targetPower (p pmax : Nat) : Nat := min p pmax

/-- Threshold current at temperature t (R39). -/
def thresholdCurrent (m : LaserModel) (t : Int) : Nat :=
  let f := clampInt 2048 8192 (4096 + m.kth * (t - 25))
  ((2 * (m.ith25 : Int) * f + 4096) / 8192).toNat

/-- Slope efficiency at temperature t, at least 50 (R39). -/
def slopeEfficiency (m : LaserModel) (t : Int) : Nat :=
  let f := clampInt 2048 6144 (4096 - m.keta * (t - 25))
  max 50 (((m.eta25 : Int) * f / 4096).toNat)

/-- Current for a target power: Ith + round half up of 250 P / eta (R40). -/
def currentFor (ith eta p : Nat) : Nat := ith + (500 * p + eta) / (2 * eta)

/-- A read level: power ceiling, no current ceiling (R38, R40). -/
def readLevel (p pmax ith eta : Nat) : DriveLevel :=
  { power := targetPower p pmax, powerClamp := decide (pmax < p),
    current := currentFor ith eta (targetPower p pmax), currentClamp := false }

/-- A peak, bias or bottom level: power ceiling and current ceiling, with their marks (R38, R40). -/
def writeLevel (p pmax imax ith eta : Nat) : DriveLevel :=
  let i := currentFor ith eta (targetPower p pmax)
  { power := targetPower p pmax, powerClamp := decide (pmax < p), current := min i imax, currentClamp := decide (imax < i) }

/-- Peak or bias power before the ceiling: interpolate, trim, step (R35 to R37). -/
def shapedPower (i : LevelInputs) (inner outer : Nat) : Nat :=
  applyStep (applyTrim (interpolate inner outer i.first i.last i.block) i.trim) i.step

/-- The level set a computation gives from the inputs read at its start (R33, section 2.4). -/
def levelsOf (i : LevelInputs) : LevelSet :=
  let ith := thresholdCurrent i.model i.temp
  let eta := slopeEfficiency i.model i.temp
  let lv := fun p => writeLevel p i.ceilings.pmax i.ceilings.imax ith eta
  { tag := i.tag, block := i.block, intent := i.intent, layer := i.layer, slot := i.slot,
    read := readLevel i.powers.pr i.ceilings.pmax ith eta,
    write := match i.intent with
      | .read => none
      | _ => some { peak := lv (shapedPower i i.powers.pwi i.powers.pwo),
                    bias := lv (shapedPower i i.powers.pei i.powers.peo),
                    bottom := lv i.powers.pb } }

/-- Any power-clamp mark of the set is set (R44). -/
def LevelSet.powerClamped (s : LevelSet) : Bool :=
  s.read.powerClamp ||
  (match s.write with
   | some w => w.peak.powerClamp || w.bias.powerClamp || w.bottom.powerClamp
   | none => false)

/-- A current-clamp mark of peak, bias or bottom is set (R44). -/
def LevelSet.currentClamped (s : LevelSet) : Bool :=
  match s.write with
  | some w => w.peak.currentClamp || w.bias.currentClamp || w.bottom.currentClamp
  | none => false

/-- The idle set from the inputs read at the idle computation's start (R42). -/
def idleSetOf (i : IdleInputs) : IdleSet :=
  let ith := thresholdCurrent i.model i.temp
  let eta := slopeEfficiency i.model i.temp
  let p := targetPower i.ceilings.pdef i.ceilings.pmax
  let half := ith * 7 / 8
  { ith := ith, power := p, powerClamp := decide (i.ceilings.pmax < i.ceilings.pdef),
    readCurrent := currentFor ith eta p,
    standby := min half i.ceilings.imax, standbyClamp := decide (i.ceilings.imax < half) }

/-- The read drive: read current plus the APC offset, held within 0..Imax (R41). -/
def readDrive (readCurrent : Nat) (apc : Int) (imax : Nat) : Nat :=
  (clampInt 0 imax ((readCurrent : Int) + apc)).toNat

/-! ### Output monitor -/

/-- The measured power: code times gain over 1024, rounded half up (R144). -/
def measuredPower (code gain : Nat) : Nat := (2 * code * gain + 1024) / 2048

/-- The allowance of a comparison (R149). -/
def allowance (tolerance target : Nat) : Nat := tolerance * target / 100

/-- The sample is good: measured and target differ by at most the allowance (R149). -/
def sampleGood (measured target tolerance : Nat) : Bool :=
  decide (measured ≤ target + allowance tolerance target ∧ target ≤ measured + allowance tolerance target)

/-- The APC offset one code toward the target, saturated to -64..+63 (R151). -/
def stepApc (apc : Int) (measured target : Nat) : Int :=
  if measured < target then min 63 (apc + 1)
  else if target < measured then max (-64) (apc - 1)
  else apc

/-! ### Pattern of a mark (section 3.3) -/

/-- The length a mark of n periods is shaped as: 1T as 2T, above 9T as 9T (R54). -/
def shapedLength (n : Nat) : Nat := max 2 (min 9 n)

/-- The class of a mark shaped as nT (section 3.1). -/
def StrategyRecord.classFor (r : StrategyRecord) (n : Nat) : ClassWidths :=
  if n ≤ 2 then r.c2 else if n = 3 then r.c3 else if n = 4 then r.c4 else r.c5

/-- The number of multipulses (R53). -/
def multipulses (n : Nat) : Nat := if n ≤ 3 then 0 else if n = 4 then 1 else n - 3

/-- The timed steps of the pattern of a mark of nT, before the bias step; a width of 0 gives no step (R53). -/
def patternSteps (r : StrategyRecord) (n : Nat) : List PatternStep :=
  let w := r.classFor n
  let pulses := (List.replicate (multipulses n) [PatternStep.mk .peak w.wM, ⟨.bottom, 16 - w.wM⟩]).flatten
  let train : List PatternStep :=
    [⟨.bottom, w.dF⟩, ⟨.peak, w.wF⟩] ++ pulses ++ (if 3 ≤ n then [⟨.peak, w.wL⟩] else []) ++ [⟨.bottom, w.wC⟩]
  train.filter fun st => st.width ≠ 0

/-- The level the write path drives: its present step, bias when no timed step is left (R53). -/
def WritePath.level (w : WritePath) : LevelCode :=
  match w.steps with
  | st :: _ => st.level
  | [] => .bias

/-- The current of a level of the write path. -/
def WritePath.currentOf (w : WritePath) : LevelCode → Nat
  | .peak => w.peak
  | .bottom => w.bottom
  | .bias => w.bias
  | .read => 0

end Sys2Proof.Machine
end

