-- ==== Sys2Proof/Decode.lean ====
section
/-!
DEFINITION. Decoding. The rows of spec/opcode_table.json carry no bits, so `decodeTableWord` answers none for every word.
What the part itself decodes are the frames of the block announce link (R57, R58, R178 and section 12.2); their decoder
is total and answers none for a malformed frame, and their encoder stands after it. The command messages of the control
port are decoded byte by byte in Machine/Operands.lean.
-/

namespace Sys2Proof

/-- No row of the table carries bits (assumption log 25). -/
def decodeTableWord (_nbits _w : Nat) : Option Instr := none

/-- An ANNOUNCE as the part understands it (section 12.2, R60). -/
structure Announcement where
  tag : Byte
  stream : StreamNo
  layer : LayerNo
  intent : Intent
  /-- The calibrate step field, -16..+15, which every frame carries (R60). -/
  step : Int
  start : Nat
  run : Nat
deriving DecidableEq, Repr

/-- A well-formed message of the formatter (R57). -/
inductive LinkMessage where
  | announce (a : Announcement)
  /-- Scope: one stream, or all (none). -/
  | abort (scope : Option StreamNo)
  | quality (layer : LayerNo) (block : Nat) (beta : Int)
deriving DecidableEq, Repr

/-- The type bytes of the three messages (section 12.2). -/
abbrev announceType : Byte := 0x11#8
abbrev abortType : Byte := 0x12#8
abbrev qualityType : Byte := 0x13#8

/-- Four bytes as sent, most significant first (R178). -/
def be32 (a b c d : Byte) : BitVec 32 := a ++ b ++ c ++ d

/-- The intent code in bits 3-2 of an ANNOUNCE's packed byte; code 3 names no intent (section 12.2, R58). -/
def decodeIntent (code : BitVec 2) : Option Intent :=
  if code = 0#2 then some .read
  else if code = 1#2 then some .write
  else if code = 2#2 then some .calibrate
  else none

/-- A block number field: none when either of its two most significant bits is set (R58). -/
def decodeBlock (b : BitVec 32) : Option Nat :=
  if b.toNat ≤ Config.maxBlock then some b.toNat else none

/-- The fields of an ANNOUNCE; none when it is malformed (R58). -/
def decodeAnnounce (tag packed step : Byte) (start : BitVec 32) (run : Byte) : Option Announcement :=
  match decodeIntent (packed.extractLsb' 2 2), decodeBlock start with
  | some intent, some block =>
    some { tag := tag, stream := (packed.extractLsb' 6 2).toFin, layer := (packed.extractLsb' 4 2).toFin,
           intent := intent, step := (step.extractLsb' 0 5).toInt, start := block, run := run.toNat }
  | _, _ => none

/-- The scope byte of an ABORT: a stream, 0xFF for all, none when it names neither (R58). -/
def decodeAbort (scope : Byte) : Option (Option StreamNo) :=
  if h : scope.toNat < 4 then some (some ⟨scope.toNat, h⟩)
  else if scope = 0xFF#8 then some none
  else none

/-- The fields of a QUALITY; none when its block lies outside the block space (R58). -/
def decodeQuality (layer : Byte) (block : BitVec 32) (beta : Byte) : Option LinkMessage :=
  (decodeBlock block).map fun b => .quality (layer.extractLsb' 0 2).toFin b beta.toInt

/-- A whole frame: its type byte, its fixed length, its fields (R57, R58). None when the frame is malformed. -/
def decodeFrame (bytes : List Byte) (wholeBytes : Bool) : Option LinkMessage :=
  if wholeBytes then
    match bytes with
    | [t, tag, packed, step, s3, s2, s1, s0, run] =>
      if t = announceType then (decodeAnnounce tag packed step (be32 s3 s2 s1 s0) run).map .announce else none
    | [t, scope] => if t = abortType then (decodeAbort scope).map .abort else none
    | [t, layer, b3, b2, b1, b0, beta] =>
      if t = qualityType then decodeQuality layer (be32 b3 b2 b1 b0) beta else none
    | _ => none
  else none

/-- The bytes of a block number, most significant first (R178). -/
def encodeBlock (b : Nat) : List Byte :=
  let w := BitVec.ofNat 32 b
  [w.extractLsb' 24 8, w.extractLsb' 16 8, w.extractLsb' 8 8, w.extractLsb' 0 8]

/-- The intent's code (section 12.2). -/
def encodeIntent : Intent → BitVec 2
  | .read => 0#2
  | .write => 1#2
  | .calibrate => 2#2

/-- The packed byte of an ANNOUNCE: stream, layer, intent, two bits unused (section 12.2). -/
def packAnnounce (a : Announcement) : Byte :=
  BitVec.ofFin (w := 2) a.stream ++ BitVec.ofFin (w := 2) a.layer ++ encodeIntent a.intent ++ 0#2

/-- The frame that carries a message (section 12.2). -/
def encodeMessage : LinkMessage → List Byte
  | .announce a =>
    [announceType, a.tag, packAnnounce a, 0#3 ++ BitVec.ofInt 5 a.step] ++ encodeBlock a.start ++ [BitVec.ofNat 8 a.run]
  | .abort (some n) => [abortType, BitVec.ofNat 8 n.val]
  | .abort none => [abortType, 0xFF#8]
  | .quality layer block beta =>
    [qualityType, 0#6 ++ BitVec.ofFin (w := 2) layer] ++ encodeBlock block ++ [BitVec.ofInt 8 beta]

/-- The fields of a message lie in the ranges their encoding holds (section 12.2, 00_scope.md 3.1). -/
def LinkMessage.wf : LinkMessage → Bool
  | .announce a => decide (-16 ≤ a.step ∧ a.step ≤ 15 ∧ a.start ≤ Config.maxBlock ∧ a.run ≤ 255)
  | .abort _ => true
  | .quality _ block beta => decide (block ≤ Config.maxBlock ∧ -128 ≤ beta ∧ beta ≤ 127)

end Sys2Proof
end

