-- ==== Sys2Proof/Machine/Bytes.lean ====
section
/-!
DEFINITION. The byte formats of chapter 12 (R178): codes of results, states, reasons and records, fields of more than one
byte most significant byte first, signed fields in two's complement.
-/

namespace Sys2Proof.Machine

open Sys2Proof

/-! ### Fields -/

/-- A one-byte unsigned field. -/
def byte1 (n : Nat) : Byte := BitVec.ofNat 8 n

/-- A one-byte signed field. -/
def sbyte1 (i : Int) : Byte := BitVec.ofInt 8 i

/-- A one-bit field of a flag byte, in bit 0. -/
def flagByte (b : Bool) : Byte := if b then 1#8 else 0#8

/-- A two-byte field. -/
def bytes2 (n : Nat) : List Byte :=
  let w := BitVec.ofNat 16 n
  [w.extractLsb' 8 8, w.extractLsb' 0 8]

/-- A two-byte signed field. -/
def sbytes2 (i : Int) : List Byte :=
  let w := BitVec.ofInt 16 i
  [w.extractLsb' 8 8, w.extractLsb' 0 8]

/-- A four-byte field. -/
def bytes4 (n : Nat) : List Byte :=
  let w := BitVec.ofNat 32 n
  [w.extractLsb' 24 8, w.extractLsb' 16 8, w.extractLsb' 8 8, w.extractLsb' 0 8]

/-- The byte at an index of a message's parameters; a complete message has every byte its code calls for (R158). -/
def byteAt (ps : List Byte) (i : Nat) : Byte := ps.getD i 0#8

/-- Unsigned fields of one to four bytes at an index, most significant byte first (R178). -/
def u8At (ps : List Byte) (i : Nat) : Nat := (byteAt ps i).toNat
def u16At (ps : List Byte) (i : Nat) : Nat := u8At ps i * 256 + u8At ps (i + 1)
def u24At (ps : List Byte) (i : Nat) : Nat := u16At ps i * 256 + u8At ps (i + 2)
def u32At (ps : List Byte) (i : Nat) : Nat := u24At ps i * 256 + u8At ps (i + 3)

/-- Signed fields of one and two bytes, two's complement (R178). -/
def s8At (ps : List Byte) (i : Nat) : Int := (byteAt ps i).toInt
def s16At (ps : List Byte) (i : Nat) : Int := (byteAt ps i ++ byteAt ps (i + 1) : BitVec 16).toInt

/-- A number as an index below n, or none when it lies outside. -/
def below (n k : Nat) : Option (Fin n) := if h : k < n then some ⟨k, h⟩ else none

/-! ### Codes -/

def ResultCode.byte : ResultCode → Byte
  | .done => 0x00#8
  | .denied => 0x01#8
  | .occupied => 0x02#8
  | .range => 0x03#8
  | .overlap => 0x04#8
  | .full => 0x05#8
  | .inUse => 0x06#8
  | .notReady => 0x07#8
  | .laserActive => 0x08#8
  | .wrongState => 0x09#8
  | .emergency => 0x0A#8
  | .short => 0x0B#8
  | .unknown => 0x0C#8
  | .nothing => 0x0D#8

/-- What an Empty slot returns as its first byte (section 12.1). -/
def emptyMarker : Byte := 0xFE#8

def ZoneState.byte : ZoneState → Byte
  | .free => 0#8
  | .loaded => 1#8
  | .absent => 2#8
  | .closed => 3#8
  | .retiring => 4#8

def ZoneKind.byte : ZoneKind → Byte
  | .lead => 0#8
  | .test => 1#8
  | .spare => 2#8
  | .once => 3#8
  | .rewrite => 4#8

/-- The type code of LOAD ZONE; none when it names no type (R9). -/
def ZoneKind.ofCode : Nat → Option ZoneKind
  | 0 => some .lead
  | 1 => some .test
  | 2 => some .spare
  | 3 => some .once
  | 4 => some .rewrite
  | _ => none

def StreamMode.byte : StreamMode → Byte
  | .closed => 0#8
  | .playback => 1#8
  | .record => 2#8

def LaserState.byte : LaserState → Byte
  | .off => 0#8
  | .standby => 1#8
  | .idle => 2#8
  | .reading => 3#8
  | .writing => 4#8
  | .fault => 5#8

def FaultCause.byte : FaultCause → Byte
  | .none => 0#8
  | .monitorMismatch => 1#8
  | .overTemp => 2#8
  | .gateStuck => 3#8

def AlertMode.byte : AlertMode → Byte
  | .level => 0#8
  | .pulse => 1#8

/-- LSEL1, LSEL0 (R124). -/
def LevelCode.bits : LevelCode → BitVec 2
  | .read => 0#2
  | .peak => 1#2
  | .bias => 2#2
  | .bottom => 3#2

def RefuseReason.byte : RefuseReason → Byte
  | .queueFull => 1#8
  | .duplicateTag => 2#8
  | .laserOff => 3#8
  | .badRun => 4#8
  | .streamClosed => 5#8
  | .streamMode => 6#8
  | .layerMissing => 7#8
  | .zoneMissing => 8#8
  | .zoneAbsent => 9#8
  | .writeDenied => 10#8
  | .levelDenied => 11#8
  | .guarded => 12#8

def SkipReason.byte : SkipReason → Byte
  | .noEntry => 1#8
  | .notReady => 2#8
  | .layerMoving => 3#8
  | .unlocked => 5#8

def RevokeReason.byte : RevokeReason → Byte
  | .absent => 1#8
  | .closed => 2#8
  | .released => 3#8
  | .guarded => 4#8
  | .streamClosed => 5#8
  | .aborted => 6#8
  | .clockUnlock => 7#8
  | .fault => 8#8
  | .emergency => 9#8
  | .laserOff => 10#8
  | .unmount => 11#8

/-! ### Replies on the link (section 12.2) -/

/-- The idle byte of LDO. -/
def ldoIdle : Byte := 0x00#8

def Reply.bytes : Reply → List Byte
  | .accept tag run split => [0x21#8, tag, byte1 run, flagByte split]
  | .refuse tag reason => [0x22#8, tag, reason.byte]
  | .skip tag block reason => [0x23#8, flagByte tag.isSome, tag.getD 0#8] ++ bytes4 block ++ [reason.byte]
  | .done tag served skipped => [0x24#8, tag, byte1 served, byte1 skipped]
  | .revoke tag remaining reason => [0x25#8, tag, byte1 remaining, reason.byte]

/-! ### Records returned by read commands (section 12.3) -/

/-- Strategy field: 0xFF means none (R178). -/
def strategyByte : Option StrategySlot → Byte
  | some i => byte1 i.val
  | none => 0xFF#8

def Powers.bytes (p : Powers) : List Byte :=
  bytes2 p.pr ++ bytes2 p.pwi ++ bytes2 p.pwo ++ bytes2 p.pei ++ bytes2 p.peo ++ bytes2 p.pb

/-- Three flags of a flag byte in bits 0, 1, 2. -/
def flags3 (b0 b1 b2 : Bool) : Byte :=
  BitVec.ofNat 8 (b0.toNat + 2 * b1.toNat + 4 * b2.toNat)

/-- The zone record, 31 bytes. -/
def zoneRecord (slot : ZoneSlot) (z : Zone) : List Byte :=
  [byte1 slot.val, z.state.byte, byte1 z.layer.val] ++ bytes4 z.first ++ bytes4 z.last ++
  [z.kind.byte, byte1 z.level] ++ z.powers.bytes ++
  [strategyByte z.strategy, sbyte1 z.trim, flags3 z.autoTrim z.written z.trimLimit,
   sbyte1 z.target, byte1 z.deadband, byte1 z.pins]

def ClassWidths.bytes (w : ClassWidths) : List Byte :=
  [byte1 w.dF, byte1 w.wF, byte1 w.wM, byte1 w.wL, byte1 w.wC]

/-- The twenty widths in the order C2, C3, C4, C5. -/
def StrategyRecord.bytes (r : StrategyRecord) : List Byte :=
  r.c2.bytes ++ r.c3.bytes ++ r.c4.bytes ++ r.c5.bytes

/-- READ STRATEGY's data: state, count, widths. -/
def strategyData (t : Strategy) : List Byte :=
  [flagByte t.loaded, byte1 t.refs] ++ t.record.bytes

/-- READ STREAM's data. DESIGN CHOICE (assumption log 36): the last-served-present byte, of which section 12.1 gives the size only,
is 1 for present and 0 for absent. -/
def streamData (t : Stream) : List Byte :=
  [t.mode.byte, byte1 t.owner] ++ bytes4 t.served ++ bytes4 t.skipped ++
  (match t.lastServed with
   | some (layer, block) => [1#8, byte1 layer.val] ++ bytes4 block
   | none => [0#8, 0#8] ++ bytes4 0)

/-- One range of LIST GUARDS, 10 bytes. -/
def Guard.bytes (g : Guard) : List Byte :=
  [byte1 g.layer.val] ++ bytes4 g.first ++ bytes4 g.last ++ [byte1 g.setBy]

/-- LIST GUARDS' data. -/
def guardsData (gs : List Guard) : List Byte := byte1 gs.length :: gs.flatMap Guard.bytes

/-- The fault record, 8 bytes. -/
def FaultRecord.bytes (r : FaultRecord) : List Byte :=
  [r.cause.byte, (match r.left with | some l => l.byte | none => 0#8), flags3 r.block.isSome r.further false] ++
  (match r.block with
   | some (layer, block) => byte1 layer.val :: bytes4 block
   | none => 0#8 :: bytes4 0)

/-- The status byte of the laser record, bits 0 to 5. -/
def laserStatus (l : Laser) : Byte :=
  BitVec.ofNat 8 (l.overLimit.toNat + 2 * l.warnArmed.toNat + 4 * l.loff.toNat +
    8 * (decide (l.clock = .locked)).toNat + 16 * l.modelLoaded.toNat + 32 * l.ceilingsLoaded.toNat)

/-- Warm-up remaining, whole milliseconds rounded up, 1..100 in Standby and 0 otherwise (R141). -/
def warmUpRemaining (l : Laser) : Nat :=
  match l.state, l.warmUp with
  | .standby, some us => max 1 ((us + 999) / 1000)
  | _, _ => 0

/-- The laser record, 14 bytes. -/
def laserRecord (l : Laser) (m : Monitor) : List Byte :=
  [l.state.byte, sbyte1 l.temp, laserStatus l, byte1 (warmUpRemaining l), sbyte1 m.apc, byte1 m.mismatch] ++
  l.faultRecord.bytes

def LayerRecord.bytes (r : LayerRecord) : List Byte :=
  [flagByte r.loaded] ++ bytes2 r.sa ++ sbytes2 r.fo ++ bytes2 r.settle

/-- Pickup state code: Settled 0, Moving 1 (section 12.1). -/
def Motion.byte : Motion → Byte
  | .settled _ => 0#8
  | .moving _ _ _ => 1#8

/-- LRDY is high while the pickup is Settled (R116). -/
def Pickup.lrdy (p : Pickup) : Bool :=
  match p.motion with
  | .settled _ => true
  | .moving _ _ _ => false

/-- Settled or target layer, source layer and settle time remaining (R122). -/
def Motion.bytes : Motion → List Byte
  | .settled layer => [byte1 layer.val, 0#8] ++ bytes2 0
  | .moving source target left => [byte1 target.val, byte1 source.val] ++ bytes2 (max 1 left)

/-- The pickup record, 38 bytes. -/
def pickupRecord (p : Pickup) : List Byte :=
  [p.motion.byte] ++ p.motion.bytes ++ bytes2 p.sa ++ sbytes2 p.fo ++ [flagByte p.lrdy] ++
  p.layers.toList.flatMap LayerRecord.bytes

end Sys2Proof.Machine
end

