-- ==== Sys2Proof/Machine/Updates.lean ====
section
/-!
DEFINITION. One update per block of the state. Every operation writes the state through these, so that the lemmas of
Laws/State.lean (one per field and update) are all that a proof needs about record updates.
-/

namespace Sys2Proof.Machine

open Sys2Proof

/-- RSTN held low (R142). -/
def State.withInReset (s : State) (v : Bool) : State := { s with inReset := v }

/-- The zone table (R1). -/
def State.withZones (s : State) (v : Vector Zone 128) : State := { s with zones := v }

/-- The strategy table (R46). -/
def State.withStrategies (s : State) (v : Vector Strategy 16) : State := { s with strategies := v }

/-- The guard list (R106). -/
def State.withGuards (s : State) (v : List Guard) : State := { s with guards := v }

/-- The stream contexts (R99). -/
def State.withStreams (s : State) (v : Vector Stream 4) : State := { s with streams := v }

/-- The announce queue (R61). -/
def State.withQueue (s : State) (v : List Entry) : State := { s with queue := v }

/-- The translation in flight (R63). -/
def State.withTranslating (s : State) (v : Option Byte) : State := { s with translating := v }

/-- The reply store and LDO (R59). -/
def State.withLink (s : State) (v : Link) : State := { s with link := v }

/-- Gate state and block-in-service record (R80). -/
def State.withGate (s : State) (v : Gate) : State := { s with gate := v }

/-- The write path (R52). -/
def State.withWritePath (s : State) (v : Option WritePath) : State := { s with writePath := v }

/-- The level sets (R29). -/
def State.withLevels (s : State) (v : LevelComputer) : State := { s with levels := v }

/-- Layer records, motion and outputs (R115, R116). -/
def State.withPickup (s : State) (v : Pickup) : State := { s with pickup := v }

/-- The laser interlock (R124). -/
def State.withLaser (s : State) (v : Laser) : State := { s with laser := v }

/-- The output monitor (R143). -/
def State.withMonitor (s : State) (v : Monitor) : State := { s with monitor := v }

/-- The control port (R165). -/
def State.withPort (s : State) (v : Port) : State := { s with port := v }

/-- The alert unit (R168). -/
def State.withAlert (s : State) (v : Alert) : State := { s with alert := v }

/-- The waiting commands (the model's own). -/
def State.withPending (s : State) (v : List Instr) : State := { s with pending := v }

end Sys2Proof.Machine
end

