-- ==== Sys2Proof/Machine/Flags.lean ====
section
/-!
DEFINITION. Request and permission flags and the ALERT line (R168 to R173, flag masks of section 12.1).
-/

namespace Sys2Proof.Machine

open Sys2Proof

/-- The thirteen request flags, in the order of their bits (section 12.1). -/
inductive RequestFlag where
  | fault
  | unlock
  | skip
  | refuse
  | revoke
  | trimlim
  | pclamp
  | iclamp
  | twarn
  | busto
  | freed
  | linkerr
  | ready
deriving DecidableEq, Repr

/-- The flag's bit in the 16-bit layout (section 12.1). -/
def RequestFlag.mask : RequestFlag → BitVec 16
  | .fault => 0x0001#16
  | .unlock => 0x0002#16
  | .skip => 0x0004#16
  | .refuse => 0x0008#16
  | .revoke => 0x0010#16
  | .trimlim => 0x0020#16
  | .pclamp => 0x0040#16
  | .iclamp => 0x0080#16
  | .twarn => 0x0100#16
  | .busto => 0x0200#16
  | .freed => 0x0400#16
  | .linkerr => 0x0800#16
  | .ready => 0x1000#16

/-- Bits 13 to 15, the unused positions. -/
def unusedFlags : BitVec 16 := 0xE000#16

/-- A request flag is set. -/
def Alert.isSet (a : Alert) (f : RequestFlag) : Bool := a.requests &&& f.mask != 0#16

/-- The flag's permission is granted. -/
def Alert.isGranted (a : Alert) (f : RequestFlag) : Bool := a.permissions &&& f.mask != 0#16

/-- Whether ALERT is active: in Level mode while an alert is pending (R172), in Pulse mode during a pulse (R173). -/
def Alert.active (a : Alert) : Bool :=
  match a.mode with
  | .level => a.requests &&& a.permissions != 0#16
  | .pulse => a.pulse.isSome

/-- A trigger of R173 starts or extends a pulse in Pulse mode. -/
def Alert.trigger (a : Alert) : Alert :=
  match a.mode with
  | .pulse => { a with pulse := some Config.pulseMicros }
  | .level => a

/-- An event sets its flag (R168); a granted flag going from clear to set is a trigger (R173). -/
def Alert.raise (a : Alert) (f : RequestFlag) : Alert :=
  let b := { a with requests := a.requests ||| f.mask }
  if a.isGranted f && !a.isSet f then b.trigger else b

/-- A block sets a request flag in the alert unit. -/
def State.raise (s : State) (f : RequestFlag) : State := s.withAlert (s.alert.raise f)

/-- As `raise`, where the event's condition holds. -/
def State.raiseIf (s : State) (c : Bool) (f : RequestFlag) : State := if c then s.raise f else s

/-- ACK EVENTS clears the flags its mask names; a pulse in progress runs on (R169). -/
def Alert.ack (a : Alert) (mask : BitVec 16) : Alert := { a with requests := a.requests &&& ~~~mask }

/-- SET PERMISSIONS replaces the permissions; granting a set flag that was withheld is a trigger (R170, R173). -/
def Alert.grant (a : Alert) (mask : BitVec 16) : Alert :=
  let b := { a with permissions := mask }
  if a.requests &&& mask &&& ~~~a.permissions != 0#16 then b.trigger else b

/-- SET ALERT MODE (R171): a change of mode ends a pulse; the stored mode changes nothing. -/
def Alert.setMode (a : Alert) (m : AlertMode) : Alert :=
  if a.mode = m then a else { a with mode := m, pulse := none }

end Sys2Proof.Machine
end

