-- ==== Sys2Proof/Machine/Ops.lean ====
section
/-!
DEFINITION. The operations the commands share: table access, pins and the freeing of slots, replies, the level computer's
target, pickup moves, entries leaving the queue, and the one revocation rule (R1, R3 to R7, R29 to R34, R59 to R74, R79,
R118, R119).
-/

namespace Sys2Proof.Machine

open Sys2Proof

/-! ### Tables -/

/-- Replace every element of a table. -/
def mapTable {α β : Type} {n : Nat} (v : Vector α n) (f : α → β) : Vector β n :=
  ⟨⟨v.toList.map f⟩, by simp⟩

/-- The slots of the zone table in ascending order. -/
def zoneSlots : List ZoneSlot := List.finRange 128

def State.zone (s : State) (i : ZoneSlot) : Zone := s.zones[i]
def State.setZone (s : State) (i : ZoneSlot) (z : Zone) : State := s.withZones (s.zones.set i.val z)
def State.strategy (s : State) (i : StrategySlot) : Strategy := s.strategies[i]
def State.setStrategy (s : State) (i : StrategySlot) (t : Strategy) : State := s.withStrategies (s.strategies.set i.val t)
def State.stream (s : State) (i : StreamNo) : Stream := s.streams[i]
def State.setStream (s : State) (i : StreamNo) (t : Stream) : State := s.withStreams (s.streams.set i.val t)
def State.layerRecord (s : State) (i : LayerNo) : LayerRecord := s.pickup.layers[i]

/-- Loaded, Absent or Closed: a descriptor that is in use (R1). -/
def Zone.inUse (z : Zone) : Bool :=
  match z.state with
  | .loaded => true
  | .absent => true
  | .closed => true
  | .free => false
  | .retiring => false

/-- The block lies in the descriptor's range. -/
def Zone.holds (z : Zone) (b : Nat) : Bool := decide (z.first ≤ b ∧ b ≤ z.last)

/-- The descriptor covers the block (R3). -/
def Zone.covers (z : Zone) (layer : LayerNo) (b : Nat) : Bool :=
  z.inUse && decide (z.layer = layer) && z.holds b

/-- The look-up of a block: the slot that covers it (R3). -/
def State.lookUp (s : State) (layer : LayerNo) (b : Nat) : Option ZoneSlot :=
  zoneSlots.find? fun i => (s.zone i).covers layer b

/-- Two ranges overlap: each begins at or before the other's last block (R4, R106). -/
def rangesOverlap (first last first' last' : Nat) : Bool := decide (first ≤ last' ∧ first' ≤ last)

/-- A range overlaps a Loaded, Absent or Closed descriptor of the layer (R4). -/
def State.zoneOverlap (s : State) (layer : LayerNo) (first last : Nat) : Bool :=
  zoneSlots.any fun i =>
    (s.zone i).inUse && decide ((s.zone i).layer = layer) && rangesOverlap first last (s.zone i).first (s.zone i).last

/-- The block lies in a guard range of the layer (R106). -/
def Guard.holds (g : Guard) (layer : LayerNo) (b : Nat) : Bool :=
  decide (g.layer = layer ∧ g.first ≤ b ∧ b ≤ g.last)

/-- The first block from a to b on the layer that lies in a listed guard range (R67). -/
def firstGuarded (guards : List Guard) (layer : LayerNo) (a b : Nat) : Option Nat :=
  guards.foldl
    (fun found g =>
      if g.layer = layer ∧ max a g.first ≤ min b g.last then
        some (match found with
          | some c => min c (max a g.first)
          | none => max a g.first)
      else found)
    none

/-! ### Replies -/

/-- A reply joins the tail of the store; with 32 unsent it is dropped and LINKERR set (R59). -/
def State.produce (s : State) (r : Reply) : State :=
  if s.link.replies.length < Config.replyStoreDepth then s.withLink { s.link with replies := s.link.replies ++ [r] }
  else s.raise .linkerr

/-- Replies of one event, in order. -/
def State.produceAll (s : State) (rs : List Reply) : State := rs.foldl State.produce s

/-- A SKIP reply sets the SKIP request (R83, R84). -/
def State.produceSkip (s : State) (tag : Option Byte) (block : Nat) (reason : SkipReason) : State :=
  (s.produce (.skip tag block reason)).raise .skip

/-- A REFUSE reply sets the REFUSE request (R62, R64). -/
def State.produceRefuse (s : State) (tag : Byte) (reason : RefuseReason) : State :=
  (s.produce (.refuse tag reason)).raise .refuse

/-- The REVOKEs of one trigger, in queue order, set the REVOKE request (R71, R75). -/
def State.produceRevokes (s : State) (rs : List Reply) : State :=
  (s.produceAll rs).raiseIf (!rs.isEmpty) .revoke

/-! ### Pins and freed slots -/

/-- The reference count of the strategy a descriptor names falls by one (R49). -/
def State.dropRef (s : State) (strategy : Option StrategySlot) : State :=
  match strategy with
  | some i => s.setStrategy i { s.strategy i with refs := (s.strategy i).refs - 1 }
  | none => s

/-- A slot becomes Free: it takes the Free content and its strategy's count falls by one (R1, R49). -/
def State.freeZone (s : State) (i : ZoneSlot) : State :=
  (s.dropRef (s.zone i).strategy).setZone i Zone.freeContent

/-- A translation of the slot is added (R5). -/
def State.pin (s : State) (i : ZoneSlot) : State := s.setZone i { s.zone i with pins := (s.zone i).pins + 1 }

/-- A translation of the slot is removed; a Retiring slot whose last pin drops becomes Free and raises FREED (R6, R21). -/
def State.unpin (s : State) (i : ZoneSlot) : State :=
  if (s.zone i).state = .retiring ∧ (s.zone i).pins ≤ 1 then (s.freeZone i).raise .freed
  else s.setZone i { s.zone i with pins := (s.zone i).pins - 1 }

def State.unpinAll (s : State) (is : List ZoneSlot) : State := is.foldl State.unpin s

/-! ### Entries -/

/-- The block after the accepted run. -/
def Entry.stop (e : Entry) : Nat := e.start + e.accepted

/-- Length of the remaining run, never less than 0 (R60). -/
def Entry.remaining (e : Entry) : Nat := e.stop - e.next

/-- The slots the entry's translations name. -/
def Entry.slots (e : Entry) : List ZoneSlot := e.primary.toList ++ (e.secondary.map Prod.fst).toList

/-- A translation of the entry names the slot. -/
def Entry.names (e : Entry) (i : ZoneSlot) : Bool := e.slots.contains i

/-- Accepted or Current (section 4.5). -/
def Entry.translated (e : Entry) : Bool := decide (e.state ≠ .waiting)

/-- Write or Calibrate. -/
def Entry.writes (e : Entry) : Bool := decide (e.intent ≠ .read)

/-- The slot whose translation serves a block: primary before the split block or with no secondary translation (R30, R68). -/
def Entry.slotFor (e : Entry) (block : Nat) : Option ZoneSlot :=
  match e.secondary with
  | some (i, split) => if block < split then e.primary else some i
  | none => e.primary

/-- The block in service belongs to the entry (R73, R80). -/
def BlockRecord.isOf (r : BlockRecord) (e : Entry) : Bool := r.hasEntry && r.tag == e.tag

/-- The entry has a block in service. -/
def State.inService (s : State) (e : Entry) : Bool :=
  match s.gate.record with
  | some r => r.isOf e
  | none => false

/-- The entry waits for its gate fall with its ended mark set (R94). -/
def State.awaitsFall (s : State) (e : Entry) : Bool :=
  match s.gate.record with
  | some r => r.isOf e && r.ended
  | none => false

/-! ### Level computer -/

/-- The next block to be served (R30). -/
structure Target where
  tag : Byte
  block : Nat
  intent : Intent
  layer : LayerNo
  step : Option Int
  /-- The slot of the translation that serves the block; none when a zone trigger has removed that translation (R6), which
  happens to a start block taken while its entry was Waiting (R85). DESIGN CHOICE (assumption log 18): such a target has no slot. -/
  slot : Option ZoneSlot
deriving DecidableEq, Repr

/-- The target an entry gives at one of its blocks. -/
def Entry.targetAt (e : Entry) (block : Nat) : Target :=
  ⟨e.tag, block, e.intent, e.layer, e.step, e.slotFor block⟩

/-- The level computer's target, from the queue as it stands (R30). -/
def targetOf (q : List Entry) : Option Target :=
  match q.find? fun e => decide (e.state = .current ∧ e.next < e.stop) with
  | some e => some (e.targetAt e.next)
  | none =>
    match q.find? fun e => decide (e.state ≠ .current) with
    | some e => if e.state = .accepted then some (e.targetAt e.start) else none
    | none => none

/-- The descriptor of a target's zone slot. No computation starts for a target without one; it would read the Free content
(assumption log 18). -/
def State.zoneOf (s : State) (slot : Option ZoneSlot) : Zone :=
  match slot with
  | some i => s.zone i
  | none => Zone.freeContent

/-- What a computation for the target reads at this instant (R33). -/
def State.levelInputs (s : State) (t : Target) : LevelInputs :=
  let z := s.zoneOf t.slot
  { tag := t.tag, block := t.block, intent := t.intent, layer := t.layer, slot := t.slot, step := t.step,
    first := z.first, last := z.last, powers := z.powers, trim := z.trim, model := s.laser.model,
    ceilings := s.laser.ceilings, temp := s.laser.temp }

/-- Tag and block of the prepared set or of the computation in flight. -/
def Prepared.key : Prepared → Option (Byte × Nat)
  | .absent => none
  | .computing i => some (i.tag, i.block)
  | .ready l => some (l.tag, l.block)

/-- The level computer asks for its target again: the same target changes nothing; another abandons both sets and starts a
computation; none leaves both absent (R31). -/
def State.retarget (s : State) : State :=
  let t := targetOf s.queue
  if t.map (fun t => (t.tag, t.block)) = s.levels.prepared.key then s
  else s.withLevels { s.levels with
    prepared := match t with
      | some t => .computing (s.levelInputs t)
      | none => .absent
    standIn := none }

/-- A change to a descriptor is handed on: on the target's slot it makes the stand-in set and restarts the computation
(R15, R32); no slot is that of a target whose translation is gone (assumption log 18). -/
def State.handOn (s : State) (i : ZoneSlot) : State :=
  match targetOf s.queue with
  | some t =>
    if t.slot = some i then
      match s.levels.prepared with
      | .ready l => s.withLevels { s.levels with prepared := .computing (s.levelInputs t), standIn := some l }
      | .computing _ => s.withLevels { s.levels with prepared := .computing (s.levelInputs t) }
      | .absent => s
    else s
  | none => s

/-- The level computer's answer for a tag and block: the ready prepared set, else the stand-in set, else none (R34). -/
def LevelComputer.answer (l : LevelComputer) (tag : Byte) (block : Nat) : Option LevelSet :=
  let fits := fun set : LevelSet => set.tag = tag ∧ set.block = block
  match l.prepared with
  | .ready set => if fits set then some set else l.standIn.filter fun set => fits set
  | _ => l.standIn.filter fun set => fits set

/-! ### Pickup -/

/-- A move or re-settle starts: Moving, outputs at the target's record, settle end after its settle time (R119). -/
def State.startMove (s : State) (source target : LayerNo) : State :=
  let r := s.layerRecord target
  s.withPickup { s.pickup with motion := .moving source target r.settle, sa := r.sa, fo := r.fo }

/-- A move starts when the pickup is Settled, the laser Idle, no entry Current and the oldest Accepted entry is on another
layer (R118). -/
def State.maybeMove (s : State) : State :=
  match s.pickup.motion, s.queue.find? fun e => decide (e.state = .accepted) with
  | .settled layer, some e =>
    if s.laser.state = .idle ∧ ¬ (s.queue.any fun e => decide (e.state = .current)) ∧ e.layer ≠ layer then
      s.startMove layer e.layer
    else s
  | _, _ => s

/-! ### The queue after a change -/

/-- The translator works on the oldest Waiting entry whenever there is one (R63); a translation whose entry has left is
abandoned. -/
def State.startTranslator (s : State) : State :=
  s.withTranslating ((s.queue.find? fun e => decide (e.state = .waiting)).map Entry.tag)

/-- What follows every change of the queue at the same instant: translator (R63), level computer (R31), pickup (R118). -/
def State.queueChanged (s : State) : State := s.startTranslator.retarget.maybeMove

/-- Entries leave the queue: their pins drop, and a block in service loses its entry (R6, R79). -/
def State.removeEntries (s : State) (leaves : Entry → Bool) : State :=
  let gone := s.queue.filter leaves
  let s1 := s.unpinAll (gone.flatMap Entry.slots)
  let s2 := s1.withQueue (s.queue.filter fun e => !leaves e)
  match s.gate.record with
  | some r =>
    if gone.any r.isOf then s2.withGate { s.gate with record := some { r with hasEntry := false } } else s2
  | none => s2

/-! ### Revocation -/

/-- The first block of the remaining run that lies from first to last (R70). -/
def Entry.firstIn (e : Entry) (first last : Nat) : Option Nat :=
  if max e.next first < e.stop ∧ max e.next first ≤ last then some (max e.next first) else none

/-- The entry as a revocation leaves it, or none when the trigger does not revoke it: a Waiting entry given a cut block is
struck; another is cut before a cut block inside its accepted run (R71). -/
def Entry.revoked (e : Entry) (cut : Option Nat) : Option Entry :=
  match cut with
  | some c =>
    if e.state = .waiting then some { e with accepted := 0 }
    else if c < e.stop then some { e with accepted := c - e.start }
    else none
  | none => none

/-- One trigger of revocation with a reason that does not stop write output at once: `cut` gives each entry its cut block.
REVOKEs in queue order (R71); entries left with no run leave at once (R72, R73) or, Current with a block in service, get the
ended mark (R94). -/
def State.revoke (s : State) (reason : RevokeReason) (cut : Entry → Option Nat) : State :=
  let hit := s.queue.filterMap fun e => e.revoked (cut e)
  let s1 := s.produceRevokes (hit.map fun e => .revoke e.tag e.remaining reason)
  let emptied := hit.filter fun e => decide (e.remaining = 0)
  let held := emptied.filter fun e => decide (e.state = .current) && s.inService e
  let s2 := s1.withQueue (s.queue.map fun e => (e.revoked (cut e)).getD e)
  let s3 := match s.gate.record with
    | some r => if held.any r.isOf then s2.withGate { s.gate with record := some { r with ended := true } } else s2
    | none => s2
  s3.removeEntries fun e => (emptied.any fun h => h.tag == e.tag) && !(held.any fun h => h.tag == e.tag)

/-- The translation of a slot is taken from the entry. -/
def Entry.withoutSlot (e : Entry) (i : ZoneSlot) : Entry :=
  { e with primary := e.primary.filter (· ≠ i), secondary := e.secondary.filter (·.1 ≠ i),
           deferred := e.deferred.filter (· ≠ i) }

/-- The removal of the slot's translation waits for the fall (R6). -/
def Entry.deferSlot (e : Entry) (i : ZoneSlot) : Entry :=
  if e.deferred.contains i then e else { e with deferred := e.deferred ++ [i] }

/-- The entry's block in service lies in the range (R6). -/
def State.servesIn (s : State) (e : Entry) (first last : Nat) : Bool :=
  match s.gate.record with
  | some r => r.isOf e && decide (first ≤ r.block ∧ r.block ≤ last)
  | none => false

/-- The translations of a slot that a zone trigger names are removed, at once or at the fall (R6). -/
def State.dropSlot (s : State) (i : ZoneSlot) (considered : Entry → Bool) : State :=
  let z := s.zone i
  let named := fun e : Entry => considered e && e.names i
  let now := s.queue.filter fun e => named e && !s.servesIn e z.first z.last
  let q := s.queue.map fun e =>
    if named e then (if s.servesIn e z.first z.last then e.deferSlot i else e.withoutSlot i) else e
  (s.withQueue q).unpinAll (now.map fun _ => i)

/-- A zone trigger (R7): revocation of the considered entries naming the slot, then the removal of the slot's translations. -/
def State.zoneTrigger (s : State) (i : ZoneSlot) (reason : RevokeReason) (considered : Entry → Bool) : State :=
  let z := s.zone i
  let named := fun e : Entry => considered e && e.translated && e.names i
  let s1 := s.revoke reason fun e => if named e then e.firstIn z.first z.last else none
  (s1.dropSlot i fun e => considered e && e.translated).queueChanged

/-- A guard trigger (R109): Accepted and Current Write and Calibrate entries of the range's layer. -/
def State.guardTrigger (s : State) (g : Guard) : State :=
  (s.revoke .guarded fun e =>
    if e.translated && e.writes && decide (e.layer = g.layer) then e.firstIn g.first g.last else none).queueChanged

/-- A whole-entry trigger that does not stop output at once: the matching entries are cut before their next block (R70). -/
def State.entryTrigger (s : State) (reason : RevokeReason) (applies : Entry → Bool) : State :=
  (s.revoke reason fun e => if applies e then some e.next else none).queueChanged

/-- The queue is flushed: every entry leaves, with a REVOKE of remaining run 0 unless it awaits its fall (R75). -/
def State.flush (s : State) (reason : RevokeReason) : State :=
  let told := s.queue.filter fun e => !s.awaitsFall e
  ((s.produceRevokes (told.map fun e => .revoke e.tag 0 reason)).removeEntries fun _ => true).queueChanged

end Sys2Proof.Machine
end

