-- ==== Sys2Proof/Machine/LaserOps.lean ====
section
/-!
DEFINITION. The laser interlock's shared operations: the read drive, entry to Idle, the way to Off and to Fault with the
flush, the further flag, the clock unlock, the idle computation, and the reset values (R41, R42, R76, R95, R124, R128, R132,
R135, R139, R143).
-/

namespace Sys2Proof.Machine

open Sys2Proof

/-- Standby, Idle, Reading and Writing are the on-states (section 8.1). -/
def LaserState.on : LaserState → Bool
  | .standby => true
  | .idle => true
  | .reading => true
  | .writing => true
  | .off => false
  | .fault => false

/-- Idle, Reading and Writing let announcements in and let the monitor compare (R62, R148). -/
def LaserState.emits : LaserState → Bool
  | .idle => true
  | .reading => true
  | .writing => true
  | .off => false
  | .standby => false
  | .fault => false

/-- The output carries a code at a level (R124). -/
def State.drive (s : State) (current : Nat) (level : LevelCode) : State :=
  s.withLaser { s.laser with current := current, lsel := level }

/-- Read current and read target power of the set in use: the handed-off set in Reading and after the first served block,
the idle set before it (R41, R147). -/
def State.readInUse (s : State) : Option (Nat × Nat) :=
  if s.laser.state = .reading ∨ s.levels.servedSinceOn then
    s.levels.handedOff.map fun l => (l.read.current, l.read.power)
  else s.levels.idleSet.map fun l => (l.readCurrent, l.power)

/-- The read drive is formed: read current plus APC offset, held within 0..Imax, ICLAMP when the sum exceeds Imax (R41, R44).
With no set in use the output is zero (assumption log 17). -/
def State.formReadDrive (s : State) : State :=
  match s.readInUse with
  | some (current, _) =>
    (s.drive (readDrive current s.monitor.apc s.laser.ceilings.imax) .read).raiseIf
      (decide ((s.laser.ceilings.imax : Int) < current + s.monitor.apc)) .iclamp
  | none => s.drive 0 .read

/-- Every block sample not yet due is for a block that is no longer in service (R145). -/
def Monitor.killSamples (m : Monitor) : Monitor :=
  { m with blockSamples := m.blockSamples.map fun d => { d with live := false } }

/-- The laser enters Idle: the write path and the gate timer stop, the idle sample timer starts, the read drive is formed
(R41, R91, R129, R139, R146, R147). -/
def State.enterIdle (s : State) : State :=
  (((s.withWritePath none).withLaser { s.laser with state := .idle, gateTimer := none }).withMonitor
    { s.monitor.killSamples with idleTimer := some Config.idleSampleMicros, peakHold := none }).formReadDrive

/-- The laser leaves an on-state for Off or Fault: output zero, write path cut, warm-up and gate timers cancelled, idle set
absent (R124); idle sample timer stopped, peak hold emptied, and in Off the conversion in flight abandoned (R143). -/
def State.darken (s : State) (dest : LaserState) : State :=
  (((s.withWritePath none).withLaser
      { s.laser with state := dest, current := 0, lsel := .read, warmUp := none, gateTimer := none }).withLevels
      { s.levels with idleSet := none, idleComp := none, idleAgain := false }).withMonitor
    { s.monitor.killSamples with
      idleTimer := none, peakHold := none
      conversion := if dest = .off then none else s.monitor.conversion }

/-- LASER OFF, the all-stop and LOFF: an on-state goes to Off and the queue is flushed (R130, R131). -/
def State.turnOff (s : State) (reason : RevokeReason) : State :=
  if s.laser.state.on then (s.darken .off).flush reason else s

/-- The served block in service, as the fault record names it (R135). DESIGN CHOICE (assumption log 35): a Served block is named
until its gate fall (R80), even where a flush or a clock unlock has ended its service before the fault (R76, R95, R96). -/
def State.servedBlock (s : State) : Option (LayerNo × Nat) :=
  match s.gate.record with
  | some r => if r.outcome = .served then some (r.layer, r.block) else none
  | none => none

/-- A fault condition met in an on-state: record, Fault, flush, FAULT (R132, R135). -/
def State.enterFault (s : State) (cause : FaultCause) : State :=
  (((s.withLaser { s.laser with faultRecord := ⟨cause, some s.laser.state, s.servedBlock, false⟩ }).darken .fault).flush
    .fault).raise .fault

/-- A fault condition met in Fault sets the further flag; from clear, FAULT is set again (R135). -/
def State.furtherFault (s : State) : State :=
  if s.laser.faultRecord.further then s
  else (s.withLaser { s.laser with faultRecord := { s.laser.faultRecord with further := true } }).raise .fault

/-- A fault condition: Fault from an on-state, the further flag in Fault, nothing in Off (R132, R135, R140). -/
def State.faultCondition (s : State) (cause : FaultCause) : State :=
  if s.laser.state.on then s.enterFault cause
  else if s.laser.state = .fault then s.furtherFault
  else s

/-- What an idle computation reads at this instant (R42). -/
def State.idleInputs (s : State) : IdleInputs := ⟨s.laser.model, s.laser.ceilings, s.laser.temp⟩

/-- A temperature sample in Standby, or in Idle before the first served block: an idle computation starts, or one is to start
at the completion of the one in flight (R42). -/
def State.refreshIdle (s : State) : State :=
  if s.laser.state = .standby ∨ (s.laser.state = .idle ∧ ¬ s.levels.servedSinceOn) then
    match s.levels.idleComp with
    | none => s.withLevels { s.levels with idleComp := some s.idleInputs }
    | some _ => s.withLevels { s.levels with idleAgain := true }
  else s

/-- The entry of the block in service leaves with reason ClockUnlock, with a REVOKE unless its ended mark is set (R76, R96); the
laser has just entered Idle, so a pickup move may start (R118). The block sets of the level computer and the computation in
flight go whatever their target, so that the next target's levels are computed afresh (R45; DEDUCED against R31's general rule,
assumption log 24). -/
def State.unlockRevoke (s : State) : State :=
  let revoked := match s.gate.record with
    | some r =>
      if r.hasEntry then
        (s.produceRevokes (if r.ended then [] else [.revoke r.tag 0 .clockUnlock])).removeEntries r.isOf
      else s
    | none => s
  (revoked.withLevels { revoked.levels with prepared := .absent, standIn := none }).queueChanged

/-- The clock-lock state becomes Unlocked: UNLOCK is set (R138); in Writing, write output stops, the laser returns to Idle
and the block's entry is revoked (R76, R96, R139). -/
def State.enterUnlocked (s : State) : State :=
  let s1 := (s.withLaser { s.laser with clock := .unlocked, lossTimer := none }).raise .unlock
  if s1.laser.state = .writing then s1.enterIdle.unlockRevoke else s1

/-- The over-limit mark of a temperature under a model: the model is loaded and the temperature at or above Tlim (R133). -/
def overLimitMark (loaded : Bool) (m : LaserModel) (t : Int) : Bool := loaded && decide ((m.tlim : Int) ≤ t)

/-- A sensor gives -40..+125 (R133; assumption log 19). -/
def sensorReading (t : Int) : Int := clampInt Config.tempMin Config.tempMax t

/-- The temperature warning at a sample: armed and at or above Twarn raises TWARN and disarms; disarmed and below Twarn - 2
arms (R137). -/
def State.warn (s : State) : State :=
  if s.laser.ceilingsLoaded then
    if s.laser.warnArmed ∧ (s.laser.ceilings.twarn : Int) ≤ s.laser.temp then
      (s.withLaser { s.laser with warnArmed := false }).raise .twarn
    else if ¬ s.laser.warnArmed ∧ s.laser.temp < (s.laser.ceilings.twarn : Int) - 2 then
      s.withLaser { s.laser with warnArmed := true }
    else s
  else s

/-- Every block at its reset value, with the straps, BGATE, LOFF, the PLL report, the temperature and LFRM found at the end of
the reset; a frame open then is stale (R57); the waiting commands are kept (R80, R131, R133, R142, R156; assumption log 26). -/
def State.atReset (s : State) (p : Pins) : State :=
  { State.reset with
    link := { State.reset.link with staleFrame := p.lfrm }
    gate := { high := p.bgate, record := none }
    laser := { State.reset.laser with
      clock := if p.pllLock then .locked else .unlocked
      pllLock := p.pllLock
      temp := sensorReading p.temp
      loff := p.loff }
    port := { State.reset.port with k := p.straps }
    pending := s.pending }

/-- While RSTN is low no event but POWER_ON and RSTN_RELEASE acts (R57, R80, R142, R156; assumption log 7). -/
def State.whenRunning (s : State) (f : State → State) : Host.Outcome State Fault Refusal :=
  .next (if s.inReset then s else f s)

end Sys2Proof.Machine
end

