-- ==== Sys2Proof/Machine/Operands.lean ====
section
/-!
DEFINITION. The operands of the executor commands: the codes and lengths of command messages and the fields of each message
(section 12.1, R158, R178). A field is compared whole against its range by the command's own checks.
-/

namespace Sys2Proof.Machine

open Sys2Proof

/-! ### Command codes (section 12.1) -/

abbrev codeLoadZone : Byte := 0x10#8
abbrev codeSetPowers : Byte := 0x11#8
abbrev codeSetTrimAbsolute : Byte := 0x12#8
abbrev codeSetTrimShort : Byte := 0x13#8
abbrev codeSetAutotrim : Byte := 0x14#8
abbrev codeMarkAbsent : Byte := 0x15#8
abbrev codeMarkPresent : Byte := 0x16#8
abbrev codeCloseZone : Byte := 0x17#8
abbrev codeReopenZone : Byte := 0x18#8
abbrev codeReleaseZone : Byte := 0x19#8
abbrev codeReadZone : Byte := 0x1A#8
abbrev codeFindZone : Byte := 0x1B#8
abbrev codeSweep : Byte := 0x1C#8
abbrev codeLoadStrategy : Byte := 0x20#8
abbrev codeReleaseStrategy : Byte := 0x21#8
abbrev codeReadStrategy : Byte := 0x22#8
abbrev codeOpenStream : Byte := 0x30#8
abbrev codeCloseStream : Byte := 0x31#8
abbrev codeReadStream : Byte := 0x32#8
abbrev codeAddGuard : Byte := 0x33#8
abbrev codeRemoveGuard : Byte := 0x34#8
abbrev codeListGuards : Byte := 0x35#8
abbrev codeLoadLayer : Byte := 0x40#8
abbrev codeReadPickup : Byte := 0x41#8
abbrev codeLoadLaserModel : Byte := 0x50#8
abbrev codeLoadCeilings : Byte := 0x51#8
abbrev codeLaserOn : Byte := 0x52#8
abbrev codeLaserOff : Byte := 0x53#8
abbrev codeClearFault : Byte := 0x54#8
abbrev codeReadLaser : Byte := 0x55#8
abbrev codeAckEvents : Byte := 0x60#8
abbrev codeSetPermissions : Byte := 0x61#8
abbrev codeSetAlertMode : Byte := 0x62#8
abbrev codeReadEvents : Byte := 0x63#8
abbrev codeInquire : Byte := 0x64#8
abbrev codeReset : Byte := 0x70#8
abbrev codeUnmount : Byte := 0x71#8

/-- Parameter bytes of a known command code; none for a code that is not known (R158, section 12.1). -/
def paramLength (code : Byte) : Option Nat :=
  match code.toNat with
  | 0x10 => some 24
  | 0x11 => some 13
  | 0x12 => some 3
  | 0x13 => some 2
  | 0x14 => some 5
  | 0x15 => some 1
  | 0x16 => some 1
  | 0x17 => some 1
  | 0x18 => some 1
  | 0x19 => some 1
  | 0x1A => some 1
  | 0x1B => some 5
  | 0x1C => some 1
  | 0x20 => some 21
  | 0x21 => some 1
  | 0x22 => some 1
  | 0x30 => some 2
  | 0x31 => some 1
  | 0x32 => some 1
  | 0x33 => some 9
  | 0x34 => some 5
  | 0x35 => some 0
  | 0x40 => some 7
  | 0x41 => some 0
  | 0x50 => some 10
  | 0x51 => some 10
  | 0x52 => some 0
  | 0x53 => some 0
  | 0x54 => some 0
  | 0x55 => some 0
  | 0x60 => some 2
  | 0x61 => some 2
  | 0x62 => some 1
  | 0x63 => some 0
  | 0x64 => some 1
  | 0x70 => some 0
  | 0x71 => some 0
  | _ => none

/-! ### Fields of the messages -/

/-- Six powers at an index, in the order PR, PWi, PWo, PEi, PEo, PB. -/
def powersAt (ps : List Byte) (i : Nat) : Powers :=
  ⟨u16At ps i, u16At ps (i + 2), u16At ps (i + 4), u16At ps (i + 6), u16At ps (i + 8), u16At ps (i + 10)⟩

/-- Every power is a power code (00_scope.md, 3.1). -/
def Powers.inRange (p : Powers) : Bool :=
  decide (p.pr ≤ Config.maxPower ∧ p.pwi ≤ Config.maxPower ∧ p.pwo ≤ Config.maxPower ∧
    p.pei ≤ Config.maxPower ∧ p.peo ≤ Config.maxPower ∧ p.pb ≤ Config.maxPower)

/-- First and last block of a LOAD ZONE from its granularity flag and its two 24-bit fields (R2). -/
def derivedRange (g : Bool) (f l : Nat) : Nat × Nat :=
  if g then (f * 64, l * 64 + 63) else (f, l)

/-- LOAD ZONE's message with every field in its range (R9, check 1); none is the result Range. -/
structure ZoneLoad where
  slot : ZoneSlot
  layer : LayerNo
  first : Nat
  last : Nat
  kind : ZoneKind
  level : Nat
  powers : Powers
  strategy : Option StrategySlot
deriving DecidableEq, Repr

/-- The strategy field: 0xFF none, otherwise a slot; none of the outer option when it names a slot above 15 (R9). -/
def strategyField (n : Nat) : Option (Option StrategySlot) :=
  if n = 0xFF then some none else (below 16 n).map some

/-- Range check of LOAD ZONE and its decoded fields (R2, R9 check 1; section 12.1). -/
def zoneLoadOf (ps : List Byte) : Option ZoneLoad :=
  let range := derivedRange ((byteAt ps 2).getLsbD 0) (u24At ps 3) (u24At ps 6)
  let powers := powersAt ps 11
  match below 128 (u8At ps 0), below 4 (u8At ps 1), ZoneKind.ofCode (u8At ps 9), strategyField (u8At ps 23) with
  | some slot, some layer, some kind, some strategy =>
    if u8At ps 10 ≤ 1 ∧ powers.inRange ∧ ¬(kind = .lead ∧ strategy.isSome) ∧
        range.1 + (Config.minZoneBlocks - 1) ≤ range.2 then
      some ⟨slot, layer, range.1, range.2, kind, u8At ps 10, powers, strategy⟩
    else none
  | _, _, _, _ => none

/-- Widths of one class at an index. -/
def widthsAt (ps : List Byte) (i : Nat) : ClassWidths :=
  ⟨u8At ps i, u8At ps (i + 1), u8At ps (i + 2), u8At ps (i + 3), u8At ps (i + 4)⟩

/-- The twenty widths of LOAD STRATEGY, classes C2, C3, C4, C5 (section 12.1). -/
def strategyRecordOf (ps : List Byte) : StrategyRecord :=
  ⟨widthsAt ps 1, widthsAt ps 6, widthsAt ps 11, widthsAt ps 16⟩

/-- Every width of a class lies in its range (section 3.1). -/
def ClassWidths.inRange (w : ClassWidths) : Bool :=
  decide (w.dF ≤ 15 ∧ 2 ≤ w.wF ∧ w.wF ≤ 32 ∧ 2 ≤ w.wM ∧ w.wM ≤ 14 ∧ w.wL ≤ 16 ∧ w.wC ≤ 32)

/-- The range check of LOAD STRATEGY on its widths (R48). -/
def StrategyRecord.inRange (r : StrategyRecord) : Bool :=
  r.c2.inRange && r.c3.inRange && r.c4.inRange && r.c5.inRange &&
  decide (r.c2.dF + r.c2.wF ≤ 32 ∧ r.c3.dF + r.c3.wF ≤ 32)

/-- OPEN STREAM's mode code: Playback or Record, none otherwise (R100). -/
def openMode (n : Nat) : Option StreamMode :=
  if n = 1 then some .playback else if n = 2 then some .record else none

/-- SET ALERT MODE's code (R171). -/
def alertModeOf (n : Nat) : Option AlertMode :=
  if n = 0 then some .level else if n = 1 then some .pulse else none

/-- The seven fields of LOAD LASER MODEL (section 12.1). -/
def laserModelOf (ps : List Byte) : LaserModel :=
  { ith25 := u16At ps 0, kth := u8At ps 2, eta25 := u16At ps 3, keta := u8At ps 5, gain := u16At ps 6,
    warmUpMs := u8At ps 8, tlim := u8At ps 9 }

/-- R126, check 1. -/
def LaserModel.inRange (m : LaserModel) : Bool :=
  decide (m.ith25 ≤ 1000 ∧ m.kth ≤ 255 ∧ 100 ≤ m.eta25 ∧ m.eta25 ≤ 3000 ∧ m.keta ≤ 127 ∧ 1 ≤ m.gain ∧ m.gain ≤ 4095 ∧
    1 ≤ m.warmUpMs ∧ m.warmUpMs ≤ 100 ∧ 40 ≤ m.tlim ∧ m.tlim ≤ 125)

/-- The seven fields of LOAD CEILINGS (section 12.1). -/
def ceilingsOf (ps : List Byte) : Ceilings :=
  { pmax := u16At ps 0, imax := u16At ps 2, pdef := u16At ps 4, twarn := u8At ps 6, gateSteps := u8At ps 7,
    clockTol := u8At ps 8, monTol := u8At ps 9 }

/-- R127, check 1. -/
def Ceilings.inRange (c : Ceilings) : Bool :=
  decide (c.pmax ≤ 2000 ∧ c.imax ≤ 2047 ∧ c.pdef ≤ 2000 ∧ 30 ≤ c.twarn ∧ c.twarn ≤ 125 ∧ 5 ≤ c.gateSteps ∧
    c.gateSteps ≤ 200 ∧ (c.clockTol = 1 ∨ c.clockTol = 2 ∨ c.clockTol = 4 ∨ c.clockTol = 8) ∧
    2 ≤ c.monTol ∧ c.monTol ≤ 25)

/-- LOAD LAYER's record (section 12.1). -/
def layerRecordOf (ps : List Byte) : LayerRecord :=
  { loaded := true, sa := u16At ps 1, fo := s16At ps 3, settle := u16At ps 5 }

/-- R117, check 1, but for the layer. -/
def LayerRecord.inRange (r : LayerRecord) : Bool :=
  decide (r.sa ≤ 4095 ∧ -512 ≤ r.fo ∧ r.fo ≤ 511 ∧ 50 ≤ r.settle ∧ r.settle ≤ 5000)

/-- The 16-bit mask of ACK EVENTS and SET PERMISSIONS (section 12.1). -/
def maskOf (ps : List Byte) : BitVec 16 := byteAt ps 0 ++ byteAt ps 1

end Sys2Proof.Machine
end

