-- ==== Sys2Proof/Machine/Port.lean ====
section
/-!
DEFINITION. The control port: transfers, the executor and its holders, reading a result, the bus timeout, the all-stop, and
the frame of every executor command (R156 to R166).
-/

namespace Sys2Proof.Machine

open Sys2Proof

/-! ### Addresses (R156, R157) -/

/-- What an address byte selects: a level for write or read, or the general call for write; none is not acknowledged. -/
inductive Addressed where
  | write (level : Level)
  | read (level : Level)
  | generalCall
deriving DecidableEq, Repr

/-- The level whose address is the 7-bit address a, under strap value k; the observers' two low-order bits are masked. -/
def levelOfAddress (k : BitVec 2) (a : Nat) : Option Level :=
  let base := 0x30 + 8 * k.toNat
  if a = base then some 0
  else if a = base + 1 then some 1
  else if base + 4 ≤ a ∧ a ≤ base + 7 then some 2
  else none

/-- Address in bits 7 to 1, read/write in bit 0, 1 for read (R157). -/
def addressed (k : BitVec 2) (b : Byte) : Option Addressed :=
  let a := b.toNat / 2
  let readBit := b.getLsbD 0
  if a = 0 then (if readBit then none else some .generalCall)
  else (levelOfAddress k a).map fun l => if readBit then .read l else .write l

/-! ### The port's parts -/

/-- A command of the level is executing or held (R160). -/
def Port.isPending (p : Port) (l : Level) : Bool :=
  (match p.executor with
   | some e => e.level == l
   | none => false) || p.held.any fun h => h.level == l

/-- A result replaces the content of a slot (R160, R166). -/
def Port.setSlot (p : Port) (l : Level) (r : Option Result) : Port := { p with slots := p.slots.set l.val r }

/-- The level whose address byte is being stretched. -/
def Transfer.level : Transfer → Option Level
  | .write l _ => some l
  | .read l => some l
  | .generalCall _ => none
  | .idle => none

/-- A complete message goes to the executor when it is idle, and to its slot's holder otherwise (R160). -/
def Port.handOver (p : Port) (l : Level) (code : Byte) (params : List Byte) : Port :=
  match p.executor with
  | none => { p with executor := some ⟨l, code, params, none⟩ }
  | some _ => { p with held := p.held ++ [⟨l, code, params⟩] }

/-- The executor starts the held command whose transfer ended first, or becomes idle (R160). -/
def Port.startNext (p : Port) : Port :=
  match p.held with
  | h :: rest => { p with executor := some ⟨h.level, h.code, h.params, none⟩, held := rest }
  | [] => { p with executor := none }

/-- The end of a write transfer, judged on whole bytes: probe, Unknown, Short, or a complete message (R158). Any transfer is
over at the STOP or repeated START. -/
def Port.endTransfer (p : Port) : Port :=
  let q := { p with transfer := .idle, busTimer := 0 }
  match p.transfer with
  | .write _ .empty => q
  | .write l .unknown => q.setSlot l (some ⟨.unknown, []⟩)
  | .write l (.known code params) =>
    if (paramLength code).getD 0 ≤ params.length then q.handOver l code params
    else q.setSlot l (some ⟨.short, []⟩)
  | .read _ => q
  | .generalCall _ => q
  | .idle => q

/-- An address byte after a START: it ends a transfer still in progress, as a repeated START does (section 10.2), then the
part acknowledges its addresses and stretches when the level has a command pending (R156, R163). -/
def Port.address (p : Port) (b : Byte) : Port :=
  let q := p.endTransfer
  match addressed q.k b with
  | some (.write l) => { q with transfer := .write l .empty, ack := true, stretched := q.isPending l }
  | some (.read l) => { q with transfer := .read l, ack := true, stretched := q.isPending l }
  | some .generalCall => { q with transfer := .generalCall false, ack := true }
  | none => { q with ack := false }

/-- The part answers a data byte. -/
def Port.answer (p : Port) (t : Transfer) (ack : Bool) : Port := { p with transfer := t, ack := ack, busTimer := 0 }

/-- A data byte of a write transfer to a level (R158). -/
def Port.messageByte (p : Port) (l : Level) (m : PartialMessage) (b : Byte) : Port :=
  match m with
  | .empty =>
    match paramLength b with
    | some _ => p.answer (.write l (.known b [])) true
    | none => p.answer (.write l .unknown) false
  | .unknown => p.answer (.write l .unknown) false
  | .known code params =>
    if params.length < (paramLength code).getD 0 then p.answer (.write l (.known code (params ++ [b]))) true
    else p.answer (.write l (.known code params)) false

/-- The byte that carries the all-stop (R159). -/
def allStopByte : Byte := 0xA5#8

/-- A data byte of a general call: the first one, 0xA5, is acknowledged and hands the all-stop to the interlock; every other
byte is not acknowledged and changes nothing (R159, R130). -/
def State.generalCallByte (s : State) (taken : Bool) (b : Byte) : State :=
  if ¬ taken ∧ b = allStopByte then (s.withPort (s.port.answer (.generalCall true) true)).turnOff .laserOff
  else s.withPort (s.port.answer (.generalCall true) false)

/-- The byte a read transfer to a level returns at an index: result code or empty marker, length, data, then 0xFF (R162). The
slot is read as it stands at that byte. Where RESET has emptied the slot of a read already under way, which goes on (R165), the
spec does not say what its further bytes are: those of the emptied slot at the same index are the model's choice (DESIGN CHOICE,
assumption log 22). -/
def Port.readByte (p : Port) (l : Level) (i : Nat) : Byte :=
  match p.slots[l] with
  | none => [emptyMarker, 0x00#8].getD i 0xFF#8
  | some r => (r.code.byte :: byte1 r.data.length :: r.data).getD i 0xFF#8

/-! ### Meanings -/

/-- ADDRESS_BYTE. While the part holds SCL low no byte can come (R163; assumption log 9). -/
def execAddressByte (b : Byte) (s : State) : Host.Outcome State Fault Refusal :=
  s.whenRunning fun s => if s.port.stretched then s else s.withPort (s.port.address b)

/-- WRITE_TRANSFER_END: the STOP or repeated START. -/
def execWriteTransferEnd (s : State) : Host.Outcome State Fault Refusal :=
  s.whenRunning fun s => if s.port.stretched then s else s.withPort s.port.endTransfer

/-- COMMAND_MESSAGE_BYTE. -/
def execCommandMessageByte (b : Byte) (s : State) : Host.Outcome State Fault Refusal :=
  s.whenRunning fun s =>
    if s.port.stretched then s
    else match s.port.transfer with
      | .write l m => s.withPort (s.port.messageByte l m b)
      | .generalCall taken => s.generalCallByte taken b
      | .read _ => s
      | .idle => s

/-- ALL_STOP: 0xA5 as the first data byte of a general call. Where no general call is in progress the row stands for the
START and the general call's address byte as well, and ends a transfer still open as a repeated START does (assumption
log 8); a general call that has taken its first byte answers it as a later byte. -/
def execAllStop (s : State) : Host.Outcome State Fault Refusal :=
  s.whenRunning fun s =>
    if s.port.stretched then s
    else match s.port.transfer with
      | .generalCall taken => s.generalCallByte taken allStopByte
      | _ => (s.withPort s.port.endTransfer).generalCallByte false allStopByte

/-- BUS_TIMEOUT: a transfer addressed to the part is abandoned and BUSTO set; the part's own stretches are not timed (R164). -/
def execBusTimeout (s : State) : Host.Outcome State Fault Refusal :=
  s.whenRunning fun s =>
    if s.port.transfer = .idle ∨ s.port.stretched then s
    else (s.withPort { s.port with transfer := .idle, ack := false, busTimer := 0 }).raise .busto

/-- COMMAND_COMPLETION: the result replaces its slot, a stretch on the slot's addresses is released, the next held command
starts (R160). -/
def execCommandCompletion (s : State) : Host.Outcome State Fault Refusal :=
  s.whenRunning fun s =>
    match s.port.executor with
    | some ⟨l, _, _, some r⟩ =>
      let p := (s.port.setSlot l (some r)).startNext
      s.withPort { p with stretched := p.stretched && decide (p.transfer.level ≠ some l) }
    | _ => s

/-! ### The frame of an executor command -/

/-- What a command's own checks and effect give: the state and the result. -/
abbrev Answered := State × Result

def done (s : State) (data : List Byte := []) : Answered := (s, ⟨.done, data⟩)
def refuseWith (s : State) (code : ResultCode) : Answered := (s, ⟨code, []⟩)

/-- The change of the executing command (R8, R160): the executor holds a command of this code whose change is not yet made;
the privilege check is the first act (R161), then the command's own rule, and the result waits for the completion. With no
such command in the executor the event does not occur (assumption log 5). -/
def State.execute (s : State) (code : Byte) (greatest : Level) (f : Level → List Byte → State → Answered) :
    Host.Outcome State Fault Refusal :=
  s.whenRunning fun s =>
    match s.port.executor with
    | some ⟨l, c, ps, none⟩ =>
      if c = code then
        let a := if l ≤ greatest then f l ps s else refuseWith s .denied
        a.1.withPort { a.1.port with executor := some ⟨l, c, ps, some a.2⟩ }
      else s
    | _ => s

end Sys2Proof.Machine
end

