-- ==== Sys2Proof/Machine/DeviceCommands.lean ====
section
/-!
DEFINITION. The commands of the alert unit, INQUIRE, and the two device commands RESET and UNMOUNT
(11_events_alerts_and_device_commands.md, R169 to R177; R28, R56, R105, R114, R165).
-/

namespace Sys2Proof.Machine

open Sys2Proof

/-- ACK EVENTS (R169). -/
def ackEvents (_ : Level) (ps : List Byte) (s : State) : Answered :=
  if maskOf ps &&& unusedFlags ≠ 0#16 then refuseWith s .range
  else
    let a := s.alert.ack (maskOf ps)
    done (s.withAlert a) (bytes2 a.requests.toNat)

def execAckEvents (s : State) : Host.Outcome State Fault Refusal := s.execute codeAckEvents 0 ackEvents

/-- SET PERMISSIONS (R170). -/
def setPermissions (_ : Level) (ps : List Byte) (s : State) : Answered :=
  if maskOf ps &&& unusedFlags ≠ 0#16 then refuseWith s .range
  else
    let a := s.alert.grant (maskOf ps)
    done (s.withAlert a) (bytes2 a.permissions.toNat)

def execSetPermissions (s : State) : Host.Outcome State Fault Refusal := s.execute codeSetPermissions 0 setPermissions

/-- SET ALERT MODE (R171). -/
def setAlertMode (_ : Level) (ps : List Byte) (s : State) : Answered :=
  match alertModeOf (u8At ps 0) with
  | none => refuseWith s .range
  | some m => done (s.withAlert (s.alert.setMode m)) [m.byte]

def execSetAlertMode (s : State) : Host.Outcome State Fault Refusal := s.execute codeSetAlertMode 0 setAlertMode

/-- READ EVENTS (R174). -/
def readEvents (_ : Level) (_ : List Byte) (s : State) : Answered :=
  done s (bytes2 s.alert.requests.toNat ++ bytes2 s.alert.permissions.toNat ++ [s.alert.mode.byte, flagByte s.alert.active])

def execReadEvents (s : State) : Host.Outcome State Fault Refusal := s.execute codeReadEvents 2 readEvents

/-- The pages of INQUIRE (R175). -/
def inquirePage (n : Nat) : Option (List Byte) :=
  if n = 0 then some (0x01#8 :: bytes2 Config.vendorCode)
  else if n = 1 then some [byte1 128, byte1 16, byte1 Config.guardCapacity, byte1 4, byte1 4, byte1 Config.queueDepth]
  else none

/-- INQUIRE (R175). -/
def inquire (_ : Level) (ps : List Byte) (s : State) : Answered :=
  match inquirePage (u8At ps 0) with
  | none => refuseWith s .range
  | some data => done s data

def execInquire (s : State) : Host.Outcome State Fault Refusal := s.execute codeInquire 2 inquire

/-- The levels found at the end of a RESET command: the straps are not read again, and BGATE, LOFF and the PLL report are
what they were; the sensor and LFRM are the row's operand (R57, R80, R131, R142, R156, R165, R176). -/
def State.pinsAtReset (s : State) (r : ResetLevels) : Pins :=
  { straps := s.port.k, bgate := s.gate.high, loff := s.laser.loff, pllLock := s.laser.pllLock, temp := r.temp, lfrm := r.lfrm }

/-- The control port through a RESET command: holders emptied, slots 1 and 2 Empty, Done in slot 0, executor idle and
stretches released; straps, the transfer in progress and its timer kept (R165). -/
def Port.throughReset (p : Port) : Port :=
  { p with
    stretched := false
    slots := (Vector.replicate 3 none).set 0 (some ⟨.done, []⟩)
    executor := none
    held := [] }

/-- The RESET command's change (R165, R176). -/
def State.resetCommand (s : State) (r : ResetLevels) : State := (s.atReset (s.pinsAtReset r)).withPort s.port.throughReset

/-- RESET (R176): its change completes it (R165), so no COMMAND_COMPLETION follows; from another level it is refused with
Denied like any command (R161). -/
def execReset (r : ResetLevels) (s : State) : Host.Outcome State Fault Refusal :=
  s.whenRunning fun s =>
    match s.port.executor with
    | some ⟨l, c, ps, none⟩ =>
      if c = codeReset then
        if l = 0 then s.resetCommand r
        else s.withPort { s.port with executor := some ⟨l, c, ps, some ⟨.denied, []⟩⟩ }
      else s
    | _ => s

/-- An open stream becomes Closed with its counters kept (R105). -/
def Stream.unmounted (t : Stream) : Stream := { t with mode := .closed }

/-- UNMOUNT (R177): laser off from an on-state, every zone and strategy slot Free, guard list empty, streams Closed, queue
flushed with reason Unmount, all at one instant. The slots are Free before the queue's pins drop, so no FREED is set (R28). -/
def unmount (_ : Level) (_ : List Byte) (s : State) : Answered :=
  let s1 := if s.laser.state.on then s.darken .off else s
  let s2 := ((s1.withZones (Vector.replicate 128 Zone.freeContent)).withStrategies
    (Vector.replicate 16 Strategy.freeContent)).withGuards []
  done ((s2.withStreams (mapTable s2.streams Stream.unmounted)).flush .unmount)

def execUnmount (s : State) : Host.Outcome State Fault Refusal := s.execute codeUnmount 0 unmount

end Sys2Proof.Machine
end

