-- ==== Sys2Proof/Machine/LinkEvents.lean ====
section
/-!
DEFINITION. The block announce link: ANNOUNCE, ABORT, QUALITY, malformed frames, sending of replies, and the translator
(04_block_announce_link_and_announce_queue.md, R57 to R69, R78; R85; quality loop R153, R154).
-/

namespace Sys2Proof.Machine

open Sys2Proof

/-! ### Messages -/

/-- The entry an ANNOUNCE becomes (section 4.2, R60): the step is recorded for Calibrate only. -/
def announcedEntry (a : Announcement) : Entry :=
  { tag := a.tag, stream := a.stream, intent := a.intent, layer := a.layer, start := a.start, requested := a.run,
    accepted := 0, step := if a.intent = .calibrate then some a.step else none, primary := none, secondary := none,
    next := a.start, served := 0, skipped := 0, state := .waiting, deferred := [] }

/-- The first admission check that refuses the message (R62). -/
def State.admission (s : State) (a : Announcement) : Option RefuseReason :=
  if Config.queueDepth ≤ s.queue.length then some .queueFull
  else if s.queue.any fun e => e.tag == a.tag then some .duplicateTag
  else if ¬ s.laser.state.emits then some .laserOff
  else if a.run = 0 then some .badRun
  else none

/-- Admission of an ANNOUNCE (R62): refused with a REFUSE, or at the tail of the queue as a Waiting entry. -/
def State.enroll (s : State) (a : Announcement) : State :=
  match s.admission a with
  | some reason => s.produceRefuse a.tag reason
  | none => (s.withQueue (s.queue ++ [announcedEntry a])).queueChanged

/-- ABORT: every entry in scope is revoked with reason Aborted (R69). -/
def State.abort (s : State) (scope : Option StreamNo) : State :=
  s.entryTrigger .aborted fun e =>
    match scope with
    | some n => e.stream == n
    | none => true

/-- A step of the quality loop moves the trim by one, or is held at the limit and sets the trim-limit flag, TRIMLIM from
clear (R23, R154). A step that moves the trim is handed on (R15). -/
def State.trimStep (s : State) (i : ZoneSlot) (d : Int) : State :=
  let z := s.zone i
  if -128 ≤ z.trim + d ∧ z.trim + d ≤ 127 then (s.setZone i { z with trim := z.trim + d }).handOn i
  else if z.trimLimit then s
  else (s.setZone i { z with trimLimit := true }).raise .trimlim

/-- The quality loop takes a report (R153): ignored with no descriptor, an Absent one, a Lead zone, or auto-trim off;
otherwise the descriptor is stepped against its target and deadband by R154's table. DESIGN CHOICE (assumption log 34): the
table, not R154's example, which calls a zone with target +100 and deadband 0 never stepped up. -/
def State.quality (s : State) (layer : LayerNo) (block : Nat) (beta : Int) : State :=
  let b := clampInt (-100) 100 beta
  match s.lookUp layer block with
  | none => s
  | some i =>
    let z := s.zone i
    if z.state = .absent ∨ z.kind = .lead ∨ ¬ z.autoTrim then s
    else if b < z.target - z.deadband then s.trimStep i 1
    else if z.target + z.deadband < b then s.trimStep i (-1)
    else s

/-- A malformed message is discarded and sets LINKERR (R58). -/
def State.malformed (s : State) : State := s.raise .linkerr

/-- Each well-formed message goes to the mechanism of its type (R57). -/
def State.take (s : State) : LinkMessage → State
  | .announce a => s.enroll a
  | .abort scope => s.abort scope
  | .quality layer block beta => s.quality layer block beta

/-- A frame ends on LDI: one that began before the last reset was complete is discarded without a request (R57); any other is
taken, or discarded as malformed (R58). -/
def State.endFrame (s : State) (message : Option LinkMessage) : State :=
  if s.link.staleFrame then s.withLink { s.link with staleFrame := false }
  else match message with
    | some m => s.take m
    | none => s.malformed

/-- ANNOUNCE (R57, R58, R62). -/
def execAnnounce (tag packed step : Byte) (start : BitVec 32) (run : Byte) (s : State) : Host.Outcome State Fault Refusal :=
  s.whenRunning fun s => s.endFrame ((decodeAnnounce tag packed step start run).map .announce)

/-- ABORT (R57, R58, R69). -/
def execAbort (scope : Byte) (s : State) : Host.Outcome State Fault Refusal :=
  s.whenRunning fun s => s.endFrame ((decodeAbort scope).map .abort)

/-- QUALITY (R57, R58, R78, R153). -/
def execQuality (layer : Byte) (block : BitVec 32) (beta : Byte) (s : State) : Host.Outcome State Fault Refusal :=
  s.whenRunning fun s => s.endFrame (decodeQuality layer block beta)

/-- MALFORMED_MESSAGE (R58). A frame that is not malformed is taken as the message it carries (R57). -/
def execMalformedMessage (bytes : List Byte) (wholeBytes : Bool) (s : State) : Host.Outcome State Fault Refusal :=
  s.whenRunning fun s => s.endFrame (decodeFrame bytes wholeBytes)

/-! ### Replies on LDO (R59) -/

/-- The next byte goes out on LDO: the next of the reply that is part-way out, else the first of the reply at the head of the
store, which leaves the store with it (assumption log 11), else the idle byte (R59). -/
def Link.nextByte (l : Link) : Link :=
  match l.sending, l.replies with
  | b :: left, _ => { l with sending := left, ldo := b }
  | [], r :: rest => { l with replies := rest, sending := r.bytes.tail, ldo := r.bytes.headD ldoIdle }
  | [], [] => { l with ldo := ldoIdle }

/-- REPLY_SEND: LCK clocks one byte out (R59). -/
def execReplySend (s : State) : Host.Outcome State Fault Refusal := s.whenRunning fun s => s.withLink s.link.nextByte

/-! ### Translation (R63 to R68) -/

/-- What a passed translation gives: accepted run, primary slot, secondary slot and split block. -/
structure Translated where
  run : Nat
  primary : ZoneSlot
  secondary : Option (ZoneSlot × Nat)
deriving DecidableEq, Repr

/-- An entry of the intent may not write into the descriptor (R64, check 6; R66): only Write and Calibrate are checked. -/
def writeDenied (intent : Intent) (z : Zone) : Bool :=
  match intent with
  | .read => false
  | .write => decide (z.kind = .lead ∨ z.kind = .test ∨ z.state = .closed)
  | .calibrate => decide (z.kind ≠ .test)

/-- The first check that refuses the entry, or the covering slot (R64). -/
def State.translationCheck (s : State) (e : Entry) : Except RefuseReason ZoneSlot :=
  let t := s.stream e.stream
  if t.mode = .closed then .error .streamClosed
  else if e.writes ∧ t.mode = .playback then .error .streamMode
  else if ¬ (s.layerRecord e.layer).loaded then .error .layerMissing
  else match s.lookUp e.layer e.start with
    | none => .error .zoneMissing
    | some i =>
      let z := s.zone i
      if z.state = .absent then .error .zoneAbsent
      else if writeDenied e.intent z then .error .writeDenied
      else if e.writes ∧ z.level < t.owner then .error .levelDenied
      else if e.writes ∧ s.guards.any (fun g => g.holds e.layer e.start) then .error .guarded
      else .ok i

/-- The slot that may serve the blocks after the primary zone, when every condition of R66 holds. -/
def State.secondaryFor (s : State) (e : Entry) (block : Nat) : Option ZoneSlot :=
  (s.lookUp e.layer block).filter fun i =>
    let z := s.zone i
    decide (z.state ≠ .absent) && !writeDenied e.intent z &&
      (!e.writes || decide ((s.stream e.stream).owner ≤ z.level))

/-- The run cut at the end of the block space, at the end of the zone or kept across it, and before the first guarded block
of a Write or Calibrate run (R65 to R67). -/
def State.cutRun (s : State) (e : Entry) (i : ZoneSlot) : Translated :=
  let run1 := min e.requested (Config.maxBlock + 1 - e.start)
  let last := (s.zone i).last
  let t : Translated :=
    if e.start + run1 ≤ last + 1 then ⟨run1, i, none⟩
    else match s.secondaryFor e (last + 1) with
      | some j => ⟨run1, i, some (j, last + 1)⟩
      | none => ⟨last + 1 - e.start, i, none⟩
  if e.writes then
    match firstGuarded s.guards e.layer e.start (e.start + t.run - 1) with
    | some g => ⟨g - e.start, i, t.secondary.filter fun p => p.2 < g⟩
    | none => t
  else t

/-- The translation of an entry against the tables as they stand (R64 to R67). -/
def State.translate (s : State) (e : Entry) : Except RefuseReason Translated :=
  match s.translationCheck e with
  | .error reason => .error reason
  | .ok i => .ok (s.cutRun e i)

/-- The entry with its translations, Accepted (R68). -/
def Entry.accept (e : Entry) (t : Translated) : Entry :=
  { e with accepted := t.run, primary := some t.primary, secondary := t.secondary, state := .accepted }

/-- The entry that has a tag is replaced. -/
def State.replaceEntry (s : State) (e : Entry) : State :=
  s.withQueue (s.queue.map fun f => if f.tag = e.tag then e else f)

/-- An entry completes: DONE with its counts, and it leaves (R92). -/
def State.complete (s : State) (e : Entry) : State :=
  (s.produce (.done e.tag e.served e.skipped)).removeEntries fun f => f.tag == e.tag

/-- An entry accepted: pins, ACCEPT (R68), and DONE at once when a block taken while it was Waiting has used up its run and
that block's fall has been taken (R85). DESIGN CHOICE (assumption log 33): such an entry becomes Accepted and leaves as one
change of the queue, so it is nobody's target and starts no pickup move. -/
def State.acceptEntry (s : State) (e : Entry) (t : Translated) : State :=
  let e' := e.accept t
  let s1 := (e'.slots.foldl State.pin s).replaceEntry e'
  let s2 := s1.produce (.accept e'.tag t.run t.secondary.isSome)
  if e'.remaining = 0 ∧ ¬ s2.inService e' then s2.complete e' else s2

/-- A translation completes for a Waiting entry (R64, R68): REFUSE and it leaves, or it becomes Accepted; then the next
translation starts (R63). The followers of the queue (R31, R118) look at it once, as it stands after the whole change
(DESIGN CHOICE, assumption log 33). -/
def State.completeTranslation (s : State) (e : Entry) : State :=
  (match s.translate e with
   | .error reason => (s.removeEntries fun f => f.tag == e.tag).produceRefuse e.tag reason
   | .ok t => s.acceptEntry e t).queueChanged

/-- TRANSLATION_COMPLETE: the translation in flight completes; with none in flight the event does not occur (R63; assumption
log 5). -/
def execTranslationComplete (s : State) : Host.Outcome State Fault Refusal :=
  s.whenRunning fun s =>
    match s.translating with
    | some tag =>
      match s.queue.find? fun e => decide (e.tag = tag ∧ e.state = .waiting) with
      | some e => s.completeTranslation e
      | none => s
    | none => s

end Sys2Proof.Machine
end

