-- ==== Sys2Proof/Machine/GateEvents.lean ====
section
/-!
DEFINITION. Block service and the write path: BGATE_RISE, BGATE_FALL, WDATA_TRANSITION, MARK_START, PATTERN_STEP_END
(05_block_service.md, R80 to R93; 03_write_strategies.md, R52 to R55; R146).
-/

namespace Sys2Proof.Machine

open Sys2Proof

/-! ### The rise -/

/-- The entry whose next block a rise takes: the Current one, else the oldest (R81). -/
def State.takenEntry (s : State) : Option Entry :=
  match s.queue.find? fun e => decide (e.state = .current) with
  | some e => some e
  | none => s.queue.head?

/-- The pickup is Settled on the layer (R82, condition 2). -/
def Pickup.settledOn (p : Pickup) (layer : LayerNo) : Bool :=
  match p.motion with
  | .settled l => decide (l = layer)
  | .moving _ _ _ => false

/-- The skip checks of a rise, in their order, or the set the level computer answers with (R34, R82). -/
def State.riseCheck (s : State) (e : Entry) : Except SkipReason LevelSet :=
  if e.state = .waiting then .error .notReady
  else if ¬ s.pickup.settledOn e.layer then .error .layerMoving
  else match s.levels.answer e.tag e.next with
    | none => .error .notReady
    | some set => if e.writes ∧ s.laser.clock = .unlocked then .error .unlocked else .ok set

/-- The entry after a rise took its next block: an Accepted entry becomes Current, a Waiting one stays (R81, R85). -/
def Entry.taken (e : Entry) : Entry :=
  { e with next := e.next + 1, state := if e.state = .accepted then .current else e.state }

/-- The record a rise fills for the entry's next block (R80, R81). -/
def Entry.record (e : Entry) (slot : Option ZoneSlot) (outcome : BlockOutcome) : BlockRecord :=
  { hasEntry := true, tag := e.tag, stream := e.stream, layer := e.layer, block := e.next, intent := e.intent,
    slot := slot, outcome := outcome, ended := false }

/-- A stream counter rises by one, saturating (R83, R90). -/
def countUp (n : Nat) : Nat := min Config.counterMax (n + 1)

/-- A skipped block in the entry's stream: counted in an open stream only (R83). -/
def Stream.countSkip (t : Stream) : Stream := if t.mode = .closed then t else { t with skipped := countUp t.skipped }

/-- A served block in the entry's stream (R90); a Closed stream's counters are kept (R101; assumption log 30). -/
def Stream.countServe (t : Stream) (layer : LayerNo) (block : Nat) : Stream :=
  if t.mode = .closed then t else { t with served := countUp t.served, lastServed := some (layer, block) }

/-- The rise skips the entry's next block (R83). -/
def State.skipBlock (s : State) (e : Entry) (reason : SkipReason) : State :=
  let s1 := (s.withGate { high := true, record := some (e.record none (.skipped reason)) }).replaceEntry
    { e.taken with skipped := e.skipped + 1 }
  (s1.setStream e.stream (s1.stream e.stream).countSkip).produceSkip (some e.tag) e.next reason

/-- The strategy record the serving slot's zone names (R52, R89); with none there are no widths (assumption log 18). -/
def State.servingStrategy (s : State) (slot : Option ZoneSlot) : StrategyRecord :=
  match slot.bind fun i => (s.zone i).strategy with
  | some k => (s.strategy k).record
  | none => StrategyRecord.freeContent

/-- The write levels of a set; a set without them stands for no power at all (assumption log 18). -/
def LevelSet.writeLevels (l : LevelSet) : WriteLevels :=
  l.write.getD ⟨⟨0, false, 0, false⟩, ⟨0, false, 0, false⟩, ⟨0, false, 0, false⟩⟩

/-- The write path as a rise starts it: in space, no mark pending, at the bias step (R52). -/
def startWritePath (record : StrategyRecord) (w : WriteLevels) : WritePath :=
  { record := record, peak := w.peak.current, bias := w.bias.current, bottom := w.bottom.current,
    inMark := false, marks := [], steps := [] }

/-- The output carries the level the write path drives (R52, R53, R124). -/
def State.driveWrite (s : State) (w : WritePath) : State := (s.withWritePath (some w)).drive (w.currentOf w.level) w.level

/-- A served Read block: Reading, at the read drive of the set (R87). -/
def State.startReading (s : State) : State := (s.withLaser { s.laser with state := .reading }).formReadDrive

/-- The Written flag of the serving zone is set (R22, R89). -/
def State.markWritten (s : State) (slot : Option ZoneSlot) : State :=
  match slot with
  | some i => s.setZone i { s.zone i with written := true }
  | none => s

/-- A served Write or Calibrate block: Writing, write path started, gate timed, Written flag set (R22, R52, R88, R134). -/
def State.startWriting (s : State) (slot : Option ZoneSlot) (w : WriteLevels) : State :=
  ((s.withLaser { s.laser with state := .writing, gateTimer := some (s.laser.ceilings.gateSteps * 10) }).driveWrite
    (startWritePath (s.servingStrategy slot) w)).markWritten slot

/-- The output monitor at a rise that serves a block: idle sample timer stopped, peak hold emptied, block sample set for
4 µs later (R145 to R147). -/
def Monitor.atServe (m : Monitor) (dest : LaserState) : Monitor :=
  { m with idleTimer := none, peakHold := none,
           blockSamples := m.blockSamples ++ [⟨dest, true, Config.blockSampleMicros⟩] }

/-- The set is handed to the output, and a block has been served since LASER ON (R34, R86). -/
def LevelComputer.handOff (l : LevelComputer) (set : LevelSet) : LevelComputer :=
  { l with handedOff := some set, servedSinceOn := true }

/-- The rise serves the entry's next block with the set (R86 to R90, R44). -/
def State.serveBlock (s : State) (e : Entry) (set : LevelSet) : State :=
  let slot := e.slotFor e.next
  let s1 := (s.withGate { high := true, record := some (e.record slot .served) }).replaceEntry
    { e.taken with served := e.served + 1 }
  let s2 := (s1.setStream e.stream ((s1.stream e.stream).countServe e.layer e.next)).withLevels (s1.levels.handOff set)
  let s3 := (s2.raiseIf set.powerClamped .pclamp).raiseIf set.currentClamped .iclamp
  if e.writes then (s3.withMonitor (s3.monitor.atServe .writing)).startWriting slot set.writeLevels
  else (s3.withMonitor (s3.monitor.atServe .reading)).startReading

/-- A rise that takes the entry's next block; the level computer then looks for its target again (R31, R81). -/
def State.riseOn (s : State) (e : Entry) : State :=
  (match s.riseCheck e with
   | .error reason => s.skipBlock e reason
   | .ok set => s.serveBlock e set).retarget

/-- A rise that finds the queue empty (R84). -/
def State.riseEmpty (s : State) : State :=
  ((s.withGate { high := true, record := none }).produceSkip none 0 .noEntry).retarget

/-- BGATE_RISE: taken when the gate state is Low (R80). -/
def execBgateRise (s : State) : Host.Outcome State Fault Refusal :=
  s.whenRunning fun s =>
    if s.gate.high then s
    else match s.takenEntry with
      | some e => s.riseOn e
      | none => s.riseEmpty

/-! ### The fall -/

/-- The entry of the block in service, while the record still has it. -/
def State.servedEntry (s : State) (r : BlockRecord) : Option Entry := s.queue.find? r.isOf

/-- The removals R6 deferred to this fall (R91, step 2). -/
def State.removeDeferred (s : State) (e : Entry) : State :=
  (s.replaceEntry (e.deferred.foldl Entry.withoutSlot e)).unpinAll e.deferred

/-- The entry at its fall: ended without DONE, completed with DONE when its run is used up, or left in the queue
(R92, R93). -/
def State.endEntry (s : State) (e : Entry) (ended : Bool) : State :=
  if ended then s.removeEntries fun f => f.tag == e.tag
  else if e.state ≠ .waiting ∧ e.remaining = 0 then s.complete e
  else s

/-- The laser returns from Reading or Writing to Idle (R91, step 1). -/
def State.returnToIdle (s : State) : State :=
  if s.laser.state = .reading ∨ s.laser.state = .writing then s.enterIdle else s

/-- A fall with a record present (R91). -/
def State.fallOn (s : State) (r : BlockRecord) : State :=
  let s1 := s.returnToIdle
  let s2 := match s1.servedEntry r with
    | some e => (s1.removeDeferred e).endEntry e r.ended
    | none => s1
  (s2.withGate { high := false, record := none }).queueChanged

/-- BGATE_FALL: taken when the gate state is High; with no record it only makes the gate Low (R80). -/
def execBgateFall (s : State) : Host.Outcome State Fault Refusal :=
  s.whenRunning fun s =>
    if s.gate.high then
      match s.gate.record with
      | some r => s.fallOn r
      | none => s.withGate { high := false, record := none }
    else s

/-! ### The write path -/

/-- The youngest mark opened takes its classification (R52, R54). -/
def classifyLast (marks : List (Option Nat)) (n : Nat) : List (Option Nat) :=
  match marks.reverse with
  | none :: rest => (some (shapedLength n) :: rest).reverse
  | _ => marks

/-- A transition opens a mark or closes the open one, which lasted `periods` (R52). -/
def WritePath.transition (w : WritePath) (periods : Nat) : WritePath :=
  if w.inMark then { w with inMark := false, marks := classifyLast w.marks periods }
  else { w with inMark := true, marks := w.marks ++ [none] }

/-- WDATA_TRANSITION: used while the write path is active (R52). -/
def execWdataTransition (periods : Nat) (s : State) : Host.Outcome State Fault Refusal :=
  s.whenRunning fun s =>
    match s.writePath with
    | some w => s.withWritePath (some (w.transition periods))
    | none => s

/-- The peak hold takes a code while a peak step is driven (R146). -/
def holdPeak (hold : Option Nat) (w : WritePath) (fmon : MonitorCode) : Option Nat :=
  if w.level = .peak then
    some (match hold with
      | some h => max h fmon.toNat
      | none => fmon.toNat)
  else hold

/-- The peak hold at a row that carries a code of FMON: it takes the code first, whatever the row then does (R146; assumption
log 12). -/
def State.observePeak (s : State) (fmon : MonitorCode) : State :=
  match s.writePath with
  | some w => s.withMonitor { s.monitor with peakHold := holdPeak s.monitor.peakHold w fmon }
  | none => s

/-- The oldest waiting mark begins its pattern; one still open has lasted 10T and is shaped as 9T (R53 to R55). -/
def WritePath.startMark (w : WritePath) (n : Nat) (rest : List (Option Nat)) : WritePath :=
  { w with marks := rest, steps := patternSteps w.record n }

/-- The write path starts the pattern of the oldest mark whose pattern has not begun; without one the event does not occur. -/
def State.startMark (s : State) : State :=
  match s.writePath with
  | some w =>
    match w.marks with
    | m :: rest => s.driveWrite (w.startMark (m.getD 9) rest)
    | [] => s
  | none => s

/-- MARK_START (R53 to R55, R146). -/
def execMarkStart (fmon : MonitorCode) (s : State) : Host.Outcome State Fault Refusal :=
  s.whenRunning fun s => (s.observePeak fmon).startMark

/-- The write path drives the next step of the pattern, bias after its last; at the bias step the event does not occur (R53). -/
def State.endStep (s : State) : State :=
  match s.writePath with
  | some w =>
    match w.steps with
    | _ :: rest => s.driveWrite { w with steps := rest }
    | [] => s
  | none => s

/-- PATTERN_STEP_END (R53, R146). -/
def execPatternStepEnd (fmon : MonitorCode) (s : State) : Host.Outcome State Fault Refusal :=
  s.whenRunning fun s => (s.observePeak fmon).endStep

end Sys2Proof.Machine
end

