-- ==== Sys2Proof/Machine/InterlockEvents.lean ====
section
/-!
DEFINITION. The events of the laser interlock: warm-up, LOFF, temperature, gate limit and channel clock
(08_laser_states_and_interlocks.md, R129 to R139).
-/

namespace Sys2Proof.Machine

open Sys2Proof

/-- The end of warm-up: Idle at the read drive of the idle set, PCLAMP from its mark, READY (R44, R129). -/
def State.endWarmUp (s : State) : State :=
  let clamped := match s.levels.idleSet with
    | some i => i.powerClamp
    | none => false
  (((s.withLaser { s.laser with warmUp := none }).enterIdle).raiseIf clamped .pclamp).raise .ready

/-- WARM_UP_EXPIRY: while the timer runs in Standby (R129). -/
def execWarmUpExpiry (s : State) : Host.Outcome State Fault Refusal :=
  s.whenRunning fun s => if s.laser.state = .standby ∧ s.laser.warmUp.isSome then s.endWarmUp else s

/-- LOFF_ASSERTED (R131). -/
def execLoffAsserted (s : State) : Host.Outcome State Fault Refusal :=
  s.whenRunning fun s => (s.withLaser { s.laser with loff := true }).turnOff .emergency

/-- LOFF_RELEASED (R131). -/
def execLoffReleased (s : State) : Host.Outcome State Fault Refusal :=
  s.whenRunning fun s => s.withLaser { s.laser with loff := false }

/-- The sample replaces the latest one and is marked against Tlim; the next is due 10 ms later (R133). -/
def State.takeSample (s : State) (temp : Int) : State :=
  s.withLaser { s.laser with
    temp := sensorReading temp
    overLimit := overLimitMark s.laser.modelLoaded s.laser.model (sensorReading temp)
    sampleTimer := Config.tempSampleMicros }

/-- What a sample over the limit does: Fault from an on-state, the further flag in Fault at a crossing (R133). -/
def State.overLimitAct (s : State) (previous : Bool) : State :=
  if s.laser.state.on then s.enterFault .overTemp
  else if s.laser.state = .fault ∧ ¬ previous then s.furtherFault
  else s

/-- TEMPERATURE_SAMPLE: the sample, the warning (R137), the limit (R133), and the idle set (R42). -/
def execTemperatureSample (temp : Int) (s : State) : Host.Outcome State Fault Refusal :=
  s.whenRunning fun s =>
    let s1 := (s.takeSample temp).warn
    (if s1.laser.overLimit then s1.overLimitAct s.laser.overLimit else s1).refreshIdle

/-- GATE_LIMIT_EXPIRY: while the gate timer runs in Writing (R134). -/
def execGateLimitExpiry (s : State) : Host.Outcome State Fault Refusal :=
  s.whenRunning fun s =>
    if s.laser.state = .writing ∧ s.laser.gateTimer.isSome then s.enterFault .gateStuck else s

/-- The clock tolerance; 0 with the ceiling set unloaded (R138). -/
def Laser.clockTolerance (l : Laser) : Nat := if l.ceilingsLoaded then l.ceilings.clockTol else 0

/-- A change of the PLL's report. -/
def State.reportPll (s : State) (lock : Bool) : State := s.withLaser { s.laser with pllLock := lock }

/-- Loss of lock: with the clock Locked and the timer idle, the timer starts for the tolerance, or at tolerance 0 the state
becomes Unlocked at once (R138). -/
def State.loseLock (s : State) : State :=
  match s.laser.clock, s.laser.lossTimer with
  | .locked, none =>
    if s.laser.clockTolerance = 0 then s.enterUnlocked
    else s.withLaser { s.laser with lossTimer := some s.laser.clockTolerance }
  | .locked, some _ => s
  | .unlocked, _ => s

/-- Regained lock: a running timer is cancelled, an Unlocked state becomes Locked (R138). -/
def State.regainLock (s : State) : State := s.withLaser { s.laser with clock := .locked, lossTimer := none }

/-- PLL_LOSES_LOCK (R138). -/
def execPllLosesLock (s : State) : Host.Outcome State Fault Refusal :=
  s.whenRunning fun s => (s.reportPll false).loseLock

/-- PLL_REGAINS_LOCK (R138). -/
def execPllRegainsLock (s : State) : Host.Outcome State Fault Refusal :=
  s.whenRunning fun s => (s.reportPll true).regainLock

/-- LOSS_TIMER_EXPIRY: while the loss timer runs (R138). -/
def execLossTimerExpiry (s : State) : Host.Outcome State Fault Refusal :=
  s.whenRunning fun s => if s.laser.lossTimer.isSome then s.enterUnlocked else s

end Sys2Proof.Machine
end

