-- ==== Sys2Proof/Machine/LaserCommands.lean ====
section
/-!
DEFINITION. The commands of the laser interlock (08_laser_states_and_interlocks.md, R126 to R141).
-/

namespace Sys2Proof.Machine

open Sys2Proof

/-- LOAD LASER MODEL (R126): the latest sample is marked again against the new Tlim (R133). -/
def loadLaserModel (_ : Level) (ps : List Byte) (s : State) : Answered :=
  let m := laserModelOf ps
  if ¬ m.inRange then refuseWith s .range
  else if s.laser.state ≠ .off then refuseWith s .laserActive
  else done (s.withLaser { s.laser with
    model := m, modelLoaded := true, overLimit := overLimitMark true m s.laser.temp })

def execLoadLaserModel (s : State) : Host.Outcome State Fault Refusal := s.execute codeLoadLaserModel 0 loadLaserModel

/-- LOAD CEILINGS (R127): the temperature warning is armed (R137). -/
def loadCeilings (_ : Level) (ps : List Byte) (s : State) : Answered :=
  let c := ceilingsOf ps
  if ¬ c.inRange then refuseWith s .range
  else if s.laser.state ≠ .off then refuseWith s .laserActive
  else done (s.withLaser { s.laser with ceilings := c, ceilingsLoaded := true, warnArmed := true })

def execLoadCeilings (s : State) : Host.Outcome State Fault Refusal := s.execute codeLoadCeilings 0 loadCeilings

/-- Standby as LASER ON enters it: warm-up timer, first idle computation, APC offset and mismatch count 0, no block served
since (R128). -/
def State.enterStandby (s : State) : State :=
  ((s.withLaser { s.laser with
      state := .standby, warmUp := some (s.laser.model.warmUpMs * 1000), current := 0, lsel := .read }).withLevels
    { s.levels with idleSet := none, idleComp := some s.idleInputs, idleAgain := false, servedSinceOn := false }).withMonitor
    { s.monitor with apc := 0, mismatch := 0 }

/-- LASER ON (R128): with the latest sample over the limit the laser faults at the same instant. -/
def laserOn (_ : Level) (_ : List Byte) (s : State) : Answered :=
  if s.laser.loff then refuseWith s .emergency
  else if s.laser.state ≠ .off then refuseWith s .wrongState
  else if ¬ s.laser.modelLoaded ∨ s.laser.ceilings.imax = 0 then refuseWith s .notReady
  else
    let s1 := s.enterStandby
    done (if s.laser.overLimit then s1.enterFault .overTemp else s1)

def execLaserOn (s : State) : Host.Outcome State Fault Refusal := s.execute codeLaserOn 0 laserOn

/-- LASER OFF (R130). -/
def laserOff (_ : Level) (_ : List Byte) (s : State) : Answered :=
  if s.laser.state = .fault then refuseWith s .wrongState else done (s.turnOff .laserOff)

def execLaserOff (s : State) : Host.Outcome State Fault Refusal := s.execute codeLaserOff 0 laserOff

/-- Fault to Off (R136); in Off a conversion in flight is abandoned and the monitor's sampling state is empty (R143). -/
def State.leaveFault (s : State) : State :=
  (s.withLaser { s.laser with faultRecord := FaultRecord.clear }).darken .off

/-- CLEAR FAULT (R136): the record as it stood is the result's data. -/
def clearFault (_ : Level) (_ : List Byte) (s : State) : Answered :=
  if s.laser.state ≠ .fault then refuseWith s .wrongState
  else if s.laser.overLimit then refuseWith s .wrongState
  else done s.leaveFault s.laser.faultRecord.bytes

def execClearFault (s : State) : Host.Outcome State Fault Refusal := s.execute codeClearFault 0 clearFault

/-- READ LASER (R141). -/
def readLaser (_ : Level) (_ : List Byte) (s : State) : Answered := done s (laserRecord s.laser s.monitor)

def execReadLaser (s : State) : Host.Outcome State Fault Refusal := s.execute codeReadLaser 2 readLaser

end Sys2Proof.Machine
end

