-- ==== Sys2Proof/Machine/LevelEvents.lean ====
section
/-!
DEFINITION. The completions of the level computer's two computations (02_level_computation.md, R33, R41, R42, R44).
-/

namespace Sys2Proof.Machine

open Sys2Proof

/-- The prepared set takes the levels of the inputs read at the start, and the stand-in set becomes absent (R33). -/
def LevelComputer.complete (l : LevelComputer) (i : LevelInputs) : LevelComputer :=
  { l with prepared := .ready (levelsOf i), standIn := none }

/-- LEVEL_COMPUTATION_COMPLETE: the computation in flight completes; with none in flight the event does not occur. -/
def execLevelComputationComplete (s : State) : Host.Outcome State Fault Refusal :=
  s.whenRunning fun s =>
    match s.levels.prepared with
    | .computing i => s.withLevels (s.levels.complete i)
    | .absent => s
    | .ready _ => s

/-- The output after an idle computation: the Standby current in Standby, the read drive in Idle while the idle set is in
use, nothing otherwise (R41, R42, R44). -/
def State.useIdleSet (s : State) (i : IdleSet) : State :=
  if s.laser.state = .standby then (s.drive i.standby .read).raiseIf i.standbyClamp .iclamp
  else if s.laser.state = .idle ∧ ¬ s.levels.servedSinceOn then s.formReadDrive
  else s

/-- A further idle computation asked for while this one ran starts now and reads its inputs now (R42). After the first served
block the idle set is not recomputed. -/
def State.nextIdleComputation (s : State) : Option IdleInputs :=
  if s.levels.idleAgain ∧ (s.laser.state = .standby ∨ (s.laser.state = .idle ∧ ¬ s.levels.servedSinceOn)) then
    some s.idleInputs
  else none

/-- An idle computation completes (R42). -/
def State.completeIdle (s : State) (i : IdleInputs) : State :=
  (s.withLevels { s.levels with idleSet := some (idleSetOf i), idleComp := s.nextIdleComputation,
                                idleAgain := false }).useIdleSet (idleSetOf i)

/-- IDLE_COMPUTATION_COMPLETE: the idle computation in flight completes; with none in flight the event does not occur. -/
def execIdleComputationComplete (s : State) : Host.Outcome State Fault Refusal :=
  s.whenRunning fun s =>
    match s.levels.idleComp with
    | some i => s.completeIdle i
    | none => s

end Sys2Proof.Machine
end

