-- ==== Sys2Proof/Machine/MonitorEvents.lean ====
section
/-!
DEFINITION. The output monitor's samples and conversions, and the end of an ALERT pulse
(09_output_monitor_and_running_correction.md, R143 to R151; R173).
-/

namespace Sys2Proof.Machine

open Sys2Proof

/-- A conversion starts: it takes a code, a target, the monitor gain and the monitor tolerance (R144). -/
def State.startConversion (s : State) (kind : SampleKind) (code target : Nat) : State :=
  s.withMonitor { s.monitor with
    conversion := some ⟨kind, code, target, s.laser.model.gain, s.laser.ceilings.monTol⟩ }

/-- A read-block sample: the read target of the handed-off set (R145). -/
def State.sampleRead (s : State) (fmon : MonitorCode) : State :=
  match s.levels.handedOff with
  | some l => s.startConversion .readBlock fmon.toNat l.read.power
  | none => s

/-- A write sample: the peak hold's code against the handed-off set's peak target; dropped with the hold empty (R146). -/
def State.sampleWrite (s : State) : State :=
  match s.monitor.peakHold, s.levels.handedOff.bind LevelSet.write with
  | some code, some w => s.startConversion .write code w.peak.power
  | _, _ => s

/-- A block sample at its instant: for a block still in service, with the laser in the state its rise gave it (R145). -/
def State.takeBlockSample (s : State) (d : BlockSampleDue) (fmon : MonitorCode) : State :=
  if d.live ∧ s.laser.state = d.state then
    if d.state = .writing then s.sampleWrite else s.sampleRead fmon
  else s

/-- The oldest block sample not yet taken (R145); with none set the event does not occur. -/
def State.dueBlockSample (s : State) (fmon : MonitorCode) : State :=
  match s.monitor.blockSamples with
  | d :: rest => (s.withMonitor { s.monitor with blockSamples := rest }).takeBlockSample d fmon
  | [] => s

/-- BLOCK_SAMPLE (R145, R146). -/
def execBlockSample (fmon : MonitorCode) (s : State) : Host.Outcome State Fault Refusal :=
  s.whenRunning fun s => (s.observePeak fmon).dueBlockSample fmon

/-- An idle sample: the read target of the set in use in Idle (R147). -/
def State.sampleIdle (s : State) (fmon : MonitorCode) : State :=
  match s.readInUse with
  | some (_, power) => s.startConversion .idle fmon.toNat power
  | none => s

/-- The idle sample timer expires while it runs in Idle; the next expiry is 100 µs later (R147). -/
def State.dueIdleSample (s : State) (fmon : MonitorCode) : State :=
  if s.laser.state = .idle ∧ s.monitor.idleTimer.isSome then
    (s.withMonitor { s.monitor with idleTimer := some Config.idleSampleMicros }).sampleIdle fmon
  else s

/-- IDLE_SAMPLE_TIMER_EXPIRY (R146, R147). -/
def execIdleSampleTimerExpiry (fmon : MonitorCode) (s : State) : Host.Outcome State Fault Refusal :=
  s.whenRunning fun s => (s.observePeak fmon).dueIdleSample fmon

/-! ### Completion -/

/-- The comparison is good (R149). -/
def Conversion.good (c : Conversion) : Bool := sampleGood (measuredPower c.code c.gain) c.target c.tolerance

/-- The mismatch count after a comparison: 0 for a good one with the laser emitting, kept for a good one in Fault, one more
and at most 8 for a mismatch (R148, R149). -/
def countAfter (good emits : Bool) (count : Nat) : Nat :=
  if good then (if emits then 0 else count) else min Config.mismatchLimit (count + 1)

/-- A mismatch takes the count from 7 to 8 (R149, R150). -/
def reachesLimit (good : Bool) (count : Nat) : Bool := !good && decide (count + 1 = Config.mismatchLimit)

/-- The comparison of a completing conversion, and the report of MonitorMismatch (R149, R150). -/
def State.compare (s : State) (c : Conversion) : State :=
  let count := s.monitor.mismatch
  let s1 := s.withMonitor { s.monitor with mismatch := countAfter c.good s.laser.state.emits count }
  if reachesLimit c.good count then s1.faultCondition .monitorMismatch else s1

/-- The APC offset takes a value; a change in Reading or Idle forms the read drive again (R41, R151). -/
def State.setApc (s : State) (apc : Int) : State :=
  if apc = s.monitor.apc then s
  else
    let s1 := s.withMonitor { s.monitor with apc := apc }
    if s.laser.state = .reading ∨ s.laser.state = .idle then s1.formReadDrive else s1

/-- The APC step of a read-level sample (R151). -/
def State.apcStep (s : State) (c : Conversion) : State :=
  if c.kind ≠ .write then s.setApc (stepApc s.monitor.apc (measuredPower c.code c.gain) c.target) else s

/-- A conversion completes according to the state it finds (R148): in Idle, Reading and Writing the comparison and then the
APC step, which is made even where the comparison has just faulted the laser (assumption log 15); in Fault the comparison
alone; in Off or Standby it has no effect. -/
def State.completeConversion (s : State) (c : Conversion) : State :=
  let s1 := s.withMonitor { s.monitor with conversion := none }
  if s1.laser.state.emits then (s1.compare c).apcStep c
  else if s1.laser.state = .fault then s1.compare c
  else s1

/-- CONVERSION_COMPLETE: the conversion in flight; with none the event does not occur. -/
def execConversionComplete (s : State) : Host.Outcome State Fault Refusal :=
  s.whenRunning fun s =>
    match s.monitor.conversion with
    | some c => s.completeConversion c
    | none => s

/-- ALERT_PULSE_END: ALERT becomes inactive (R173). -/
def execAlertPulseEnd (s : State) : Host.Outcome State Fault Refusal :=
  s.whenRunning fun s => s.withAlert { s.alert with pulse := none }

end Sys2Proof.Machine
end

