-- ==== Sys2Proof/Machine/PickupCommands.lean ====
section
/-!
DEFINITION. The commands of the pickup layer control and the end of a settle (07_pickup_layer_control.md, R117 to R122).
-/

namespace Sys2Proof.Machine

open Sys2Proof

/-- The record of a layer takes new values and is Loaded. -/
def State.setLayer (s : State) (i : LayerNo) (r : LayerRecord) : State :=
  s.withPickup { s.pickup with layers := s.pickup.layers.set i.val r }

/-- LOAD LAYER (R117): a load for the settled layer with the laser Off starts a re-settle. -/
def loadLayer (_ : Level) (ps : List Byte) (s : State) : Answered :=
  let r := layerRecordOf ps
  match below 4 (u8At ps 0) with
  | none => refuseWith s .range
  | some i =>
    if ¬ r.inRange then refuseWith s .range
    else match s.pickup.motion with
      | .moving _ target _ =>
        if target = i then refuseWith s .wrongState
        else done (s.setLayer i r) [s.pickup.motion.byte]
      | .settled layer =>
        if layer = i then
          if s.laser.state ≠ .off then refuseWith s .laserActive
          else
            let s1 := (s.setLayer i r).startMove i i
            done s1 [s1.pickup.motion.byte]
        else done (s.setLayer i r) [s.pickup.motion.byte]

def execLoadLayer (s : State) : Host.Outcome State Fault Refusal := s.execute codeLoadLayer 0 loadLayer

/-- READ PICKUP (R122). -/
def readPickup (_ : Level) (_ : List Byte) (s : State) : Answered := done s (pickupRecord s.pickup)

def execReadPickup (s : State) : Host.Outcome State Fault Refusal := s.execute codeReadPickup 2 readPickup

/-- SETTLE_END: Settled on the target, or at once on the way to another layer (R119). -/
def execSettleEnd (s : State) : Host.Outcome State Fault Refusal :=
  s.whenRunning fun s =>
    match s.pickup.motion with
    | .moving _ target _ => (s.withPickup { s.pickup with motion := .settled target }).maybeMove
    | .settled _ => s

end Sys2Proof.Machine
end

