-- ==== Sys2Proof/Machine/ResetEvents.lean ====
section
/-!
DEFINITION. Power-on and the RSTN pin (R142, R156, R165; R27, R29, R56, R59, R77, R80, R105, R114, R123, R143, R170, R171).
-/

namespace Sys2Proof.Machine

open Sys2Proof

/-- POWER_ON (R156): every block at its reset value, the straps read, a first sample taken. -/
def execPowerOn (p : Pins) (s : State) : Host.Outcome State Fault Refusal := .next (s.atReset p)

/-- RSTN low: every block at its reset value and held there; straps, response slots and the latest sample stand until the
reset is complete (R142, R165). -/
def State.holdInReset (s : State) : State :=
  { State.reset with
    inReset := true
    laser := { State.reset.laser with temp := s.laser.temp }
    port := { State.reset.port with k := s.port.k, slots := s.port.slots }
    pending := s.pending }

/-- RSTN_LOW (R142). -/
def execRstnLow (s : State) : Host.Outcome State Fault Refusal := .next s.holdInReset

/-- RSTN_RELEASE (R165): the end of a low level completes the reset; with RSTN high already the event does not occur. -/
def execRstnRelease (p : Pins) (s : State) : Host.Outcome State Fault Refusal :=
  .next (if s.inReset then s.atReset p else s)

end Sys2Proof.Machine
end

