-- ==== Sys2Proof/Machine/StrategyCommands.lean ====
section
/-!
DEFINITION. The commands of the strategy table (03_write_strategies.md, R48 to R51).
-/

namespace Sys2Proof.Machine

open Sys2Proof

/-- The strategy slot named by a command's first byte. -/
def strategySlotOf (ps : List Byte) : Option StrategySlot := below 16 (u8At ps 0)

/-- LOAD STRATEGY (R48). -/
def loadStrategy (_ : Level) (ps : List Byte) (s : State) : Answered :=
  match strategySlotOf ps with
  | none => refuseWith s .range
  | some i =>
    if ¬ (strategyRecordOf ps).inRange then refuseWith s .range
    else if (s.strategy i).loaded then refuseWith s .occupied
    else done (s.setStrategy i ⟨true, 0, strategyRecordOf ps⟩)

def execLoadStrategy (s : State) : Host.Outcome State Fault Refusal := s.execute codeLoadStrategy 0 loadStrategy

/-- RELEASE STRATEGY (R50). -/
def releaseStrategy (_ : Level) (ps : List Byte) (s : State) : Answered :=
  match strategySlotOf ps with
  | none => refuseWith s .range
  | some i =>
    if ¬ (s.strategy i).loaded then refuseWith s .wrongState
    else if 0 < (s.strategy i).refs then refuseWith s .inUse
    else done (s.setStrategy i Strategy.freeContent)

def execReleaseStrategy (s : State) : Host.Outcome State Fault Refusal := s.execute codeReleaseStrategy 0 releaseStrategy

/-- READ STRATEGY (R51). -/
def readStrategy (_ : Level) (ps : List Byte) (s : State) : Answered :=
  match strategySlotOf ps with
  | none => refuseWith s .range
  | some i => done s (strategyData (s.strategy i))

def execReadStrategy (s : State) : Host.Outcome State Fault Refusal := s.execute codeReadStrategy 2 readStrategy

end Sys2Proof.Machine
end

