-- ==== Sys2Proof/Machine/StreamCommands.lean ====
section
/-!
DEFINITION. The commands of the stream table and of the guard list (06_streams_and_guard_ranges.md, R100 to R112).
-/

namespace Sys2Proof.Machine

open Sys2Proof

/-- The stream named by a command's first byte. -/
def streamNoOf (ps : List Byte) : Option StreamNo := below 4 (u8At ps 0)

/-- OPEN STREAM (R100): the owner level is the level of the address the command arrived at. -/
def openStream (l : Level) (ps : List Byte) (s : State) : Answered :=
  match streamNoOf ps, openMode (u8At ps 1) with
  | some n, some mode =>
    if (s.stream n).mode ≠ .closed then refuseWith s .occupied
    else done (s.setStream n ⟨mode, l.val, 0, 0, none⟩) [mode.byte, byte1 l.val]
  | _, _ => refuseWith s .range

def execOpenStream (s : State) : Host.Outcome State Fault Refusal := s.execute codeOpenStream 1 openStream

/-- CLOSE STREAM (R102, R103). -/
def closeStream (l : Level) (ps : List Byte) (s : State) : Answered :=
  match streamNoOf ps with
  | none => refuseWith s .range
  | some n =>
    let t := s.stream n
    if t.mode = .closed then refuseWith s .wrongState
    else if t.owner < l.val then refuseWith s .denied
    else done ((s.setStream n { t with mode := .closed }).entryTrigger .streamClosed fun e => e.stream == n)
      (bytes4 t.served ++ bytes4 t.skipped)

def execCloseStream (s : State) : Host.Outcome State Fault Refusal := s.execute codeCloseStream 1 closeStream

/-- READ STREAM (R104). -/
def readStream (_ : Level) (ps : List Byte) (s : State) : Answered :=
  match streamNoOf ps with
  | none => refuseWith s .range
  | some n => done s (streamData (s.stream n))

def execReadStream (s : State) : Host.Outcome State Fault Refusal := s.execute codeReadStream 2 readStream

/-- The range a new guard would take: on a layer, in the block space, first at or before last (R107, check 1). -/
def guardOf (l : Level) (ps : List Byte) : Option Guard :=
  match below 4 (u8At ps 0) with
  | some layer =>
    if u32At ps 1 ≤ Config.maxBlock ∧ u32At ps 5 ≤ Config.maxBlock ∧ u32At ps 1 ≤ u32At ps 5 then
      some ⟨layer, u32At ps 1, u32At ps 5, l.val⟩
    else none
  | none => none

/-- The new range overlaps a listed range of its layer (R106). -/
def Guard.overlapsAny (g : Guard) (gs : List Guard) : Bool :=
  gs.any fun h => decide (h.layer = g.layer) && rangesOverlap g.first g.last h.first h.last

/-- A level-0 descriptor in use on the layer has a block in the range (R107, check 4). -/
def State.systemZoneIn (s : State) (g : Guard) : Bool :=
  zoneSlots.any fun i =>
    (s.zone i).inUse && decide ((s.zone i).level = 0) && decide ((s.zone i).layer = g.layer) &&
      rangesOverlap g.first g.last (s.zone i).first (s.zone i).last

/-- The order of the list: by layer, then by first block (R106). -/
def Guard.before (g h : Guard) : Bool :=
  decide (g.layer.val < h.layer.val ∨ (g.layer = h.layer ∧ g.first < h.first))

/-- The range takes its place in the order; those behind it keep theirs (R108). -/
def insertGuard (g : Guard) : List Guard → List Guard
  | [] => [g]
  | h :: rest => if h.before g then h :: insertGuard g rest else g :: h :: rest

/-- ADD GUARD (R107 to R109). -/
def addGuard (l : Level) (ps : List Byte) (s : State) : Answered :=
  match guardOf l ps with
  | none => refuseWith s .range
  | some g =>
    if Config.guardCapacity ≤ s.guards.length then refuseWith s .full
    else if g.overlapsAny s.guards then refuseWith s .overlap
    else if l = 1 ∧ s.systemZoneIn g then refuseWith s .denied
    else done ((s.withGuards (insertGuard g s.guards)).guardTrigger g) [byte1 (s.guards.length + 1)]

def execAddGuard (s : State) : Host.Outcome State Fault Refusal := s.execute codeAddGuard 1 addGuard

/-- The listed range that begins at a block of a layer (R106). -/
def guardAt (gs : List Guard) (layer : LayerNo) (first : Nat) : Option Guard :=
  gs.find? fun g => decide (g.layer = layer ∧ g.first = first)

/-- REMOVE GUARD (R111). -/
def removeGuard (l : Level) (ps : List Byte) (s : State) : Answered :=
  match below 4 (u8At ps 0) with
  | none => refuseWith s .range
  | some layer =>
    if Config.maxBlock < u32At ps 1 then refuseWith s .range
    else match guardAt s.guards layer (u32At ps 1) with
      | none => refuseWith s .nothing
      | some g =>
        if g.setBy < l.val then refuseWith s .denied
        else
          let left := s.guards.erase g
          done (s.withGuards left) [byte1 left.length]

def execRemoveGuard (s : State) : Host.Outcome State Fault Refusal := s.execute codeRemoveGuard 1 removeGuard

/-- LIST GUARDS (R112). -/
def listGuards (_ : Level) (_ : List Byte) (s : State) : Answered := done s (guardsData s.guards)

def execListGuards (s : State) : Host.Outcome State Fault Refusal := s.execute codeListGuards 2 listGuards

end Sys2Proof.Machine
end

