-- ==== Sys2Proof/Machine/ZoneCommands.lean ====
section
/-!
DEFINITION. The commands of the zone table (01_the_zone_table.md, R9 to R26). Each takes the requester's level and the bytes of
its message, makes its checks in the order its rule gives, and answers the state after its change with its result.
-/

namespace Sys2Proof.Machine

open Sys2Proof

/-- The slot named by a command's first byte, when it is a slot of the zone table. -/
def zoneSlotOf (ps : List Byte) : Option ZoneSlot := below 128 (u8At ps 0)

/-! ### Loading (R9, R10) -/

/-- The descriptor a load makes (R10). -/
def ZoneLoad.zone (d : ZoneLoad) : Zone :=
  { Zone.freeContent with
    state := .loaded, layer := d.layer, first := d.first, last := d.last, kind := d.kind, level := d.level,
    powers := d.powers, strategy := d.strategy }

/-- The reference count of the named strategy rises by one (R10, R49). -/
def State.addRef (s : State) (strategy : Option StrategySlot) : State :=
  match strategy with
  | some i => s.setStrategy i { s.strategy i with refs := (s.strategy i).refs + 1 }
  | none => s

/-- The strategy check of LOAD ZONE: a Lead zone names none; any other type names a Loaded strategy (R9, check 4). -/
def State.strategyServes (s : State) (d : ZoneLoad) : Bool :=
  match d.strategy with
  | some i => (s.strategy i).loaded
  | none => decide (d.kind = .lead)

/-- LOAD ZONE (R9, R10). -/
def loadZone (_ : Level) (ps : List Byte) (s : State) : Answered :=
  match zoneLoadOf ps with
  | none => refuseWith s .range
  | some d =>
    if (s.zone d.slot).state ≠ .free then refuseWith s .occupied
    else if s.zoneOverlap d.layer d.first d.last then refuseWith s .overlap
    else if ¬ s.strategyServes d then refuseWith s .wrongState
    else done ((s.addRef d.strategy).setZone d.slot d.zone)

def execLoadZone (s : State) : Host.Outcome State Fault Refusal := s.execute codeLoadZone 0 loadZone

/-! ### Powers, trim, auto-trim (R11 to R15) -/

/-- SET POWERS (R11); the change is handed on (R15). -/
def setPowers (_ : Level) (ps : List Byte) (s : State) : Answered :=
  let powers := powersAt ps 1
  match zoneSlotOf ps with
  | none => refuseWith s .range
  | some i =>
    if ¬ powers.inRange then refuseWith s .range
    else if ¬ (s.zone i).inUse then refuseWith s .wrongState
    else done ((s.setZone i { s.zone i with powers := powers }).handOn i)

def execSetPowers (s : State) : Host.Outcome State Fault Refusal := s.execute codeSetPowers 0 setPowers

/-- Both forms of SET TRIM: the new trim is saturated to -128..+127, the trim-limit flag is cleared, the change is handed on
even when the value is unchanged (R12, R15). -/
def setTrimTo (ps : List Byte) (s : State) (value : Int → Int) : Answered :=
  match zoneSlotOf ps with
  | none => refuseWith s .range
  | some i =>
    if ¬ (s.zone i).inUse then refuseWith s .wrongState
    else
      let trim := clampInt (-128) 127 (value (s.zone i).trim)
      done ((s.setZone i { s.zone i with trim := trim, trimLimit := false }).handOn i) [sbyte1 trim]

/-- SET TRIM, absolute form: a signed 16-bit value becomes the trim (R12). -/
def setTrimAbsolute (_ : Level) (ps : List Byte) (s : State) : Answered := setTrimTo ps s fun _ => s16At ps 1

def execSetTrimAbsolute (s : State) : Host.Outcome State Fault Refusal := s.execute codeSetTrimAbsolute 0 setTrimAbsolute

/-- SET TRIM, short form: a signed byte is added to the trim as it stands (R12). -/
def setTrimShort (_ : Level) (ps : List Byte) (s : State) : Answered := setTrimTo ps s fun trim => trim + s8At ps 1

def execSetTrimShort (s : State) : Host.Outcome State Fault Refusal := s.execute codeSetTrimShort 0 setTrimShort

/-- SET AUTOTRIM (R14). -/
def setAutotrim (_ : Level) (ps : List Byte) (s : State) : Answered :=
  match zoneSlotOf ps with
  | none => refuseWith s .range
  | some i =>
    if ¬ (s.zone i).inUse then refuseWith s .wrongState
    else
      let on := (byteAt ps 1).getLsbD 0
      let target := clampInt (-100) 100 (s16At ps 2)
      let deadband := min 20 (u8At ps 4)
      done (s.setZone i { s.zone i with autoTrim := on, target := target, deadband := deadband, trimLimit := false })
        [flagByte on, sbyte1 target, byte1 deadband]

def execSetAutotrim (s : State) : Host.Outcome State Fault Refusal := s.execute codeSetAutotrim 0 setAutotrim

/-! ### Lifecycle (R16 to R21) -/

/-- The descriptor takes a state, every other field kept. -/
def State.setZoneState (s : State) (i : ZoneSlot) (st : ZoneState) : State := s.setZone i { s.zone i with state := st }

/-- MARK ABSENT (R16): every entry naming the slot is considered (R7). -/
def markAbsent (_ : Level) (ps : List Byte) (s : State) : Answered :=
  match zoneSlotOf ps with
  | none => refuseWith s .range
  | some i =>
    if (s.zone i).state ≠ .loaded then refuseWith s .wrongState
    else done ((s.setZoneState i .absent).zoneTrigger i .absent fun _ => true)

def execMarkAbsent (s : State) : Host.Outcome State Fault Refusal := s.execute codeMarkAbsent 0 markAbsent

/-- MARK PRESENT (R17). -/
def markPresent (_ : Level) (ps : List Byte) (s : State) : Answered :=
  match zoneSlotOf ps with
  | none => refuseWith s .range
  | some i =>
    if (s.zone i).state ≠ .absent then refuseWith s .wrongState
    else done (s.setZoneState i .loaded)

def execMarkPresent (s : State) : Host.Outcome State Fault Refusal := s.execute codeMarkPresent 0 markPresent

/-- Only Once and Rewrite zones can be closed (R18). -/
def ZoneKind.closable : ZoneKind → Bool
  | .once => true
  | .rewrite => true
  | .lead => false
  | .test => false
  | .spare => false

/-- CLOSE ZONE (R18): Write and Calibrate entries naming the slot are considered (R7). -/
def closeZone (l : Level) (ps : List Byte) (s : State) : Answered :=
  match zoneSlotOf ps with
  | none => refuseWith s .range
  | some i =>
    if (s.zone i).state ≠ .loaded then refuseWith s .wrongState
    else if ¬ (s.zone i).kind.closable then refuseWith s .wrongState
    else if (s.zone i).level < l.val then refuseWith s .denied
    else done ((s.setZoneState i .closed).zoneTrigger i .closed Entry.writes)

def execCloseZone (s : State) : Host.Outcome State Fault Refusal := s.execute codeCloseZone 1 closeZone

/-- REOPEN ZONE (R19). -/
def reopenZone (_ : Level) (ps : List Byte) (s : State) : Answered :=
  match zoneSlotOf ps with
  | none => refuseWith s .range
  | some i =>
    if (s.zone i).state ≠ .closed then refuseWith s .wrongState
    else if (s.zone i).kind = .once then refuseWith s .wrongState
    else done (s.setZoneState i .loaded)

def execReopenZone (s : State) : Host.Outcome State Fault Refusal := s.execute codeReopenZone 0 reopenZone

/-- RELEASE ZONE (R20): revoke, remove the translations that go at once, then Free with no pins or Retiring with some. -/
def releaseZone (_ : Level) (ps : List Byte) (s : State) : Answered :=
  match zoneSlotOf ps with
  | none => refuseWith s .range
  | some i =>
    if ¬ (s.zone i).inUse then refuseWith s .wrongState
    else
      let s1 := s.zoneTrigger i .released fun _ => true
      let pins := (s1.zone i).pins
      if pins = 0 then done (s1.freeZone i) [ZoneState.free.byte, 0x00#8]
      else done (s1.setZoneState i .retiring) [ZoneState.retiring.byte, byte1 pins]

def execReleaseZone (s : State) : Host.Outcome State Fault Refusal := s.execute codeReleaseZone 0 releaseZone

/-! ### Reading (R24 to R26) -/

/-- READ ZONE (R24). -/
def readZone (_ : Level) (ps : List Byte) (s : State) : Answered :=
  match zoneSlotOf ps with
  | none => refuseWith s .range
  | some i => done s (zoneRecord i (s.zone i))

def execReadZone (s : State) : Host.Outcome State Fault Refusal := s.execute codeReadZone 2 readZone

/-- FIND ZONE (R25). -/
def findZone (_ : Level) (ps : List Byte) (s : State) : Answered :=
  match below 4 (u8At ps 0) with
  | none => refuseWith s .range
  | some layer =>
    if Config.maxBlock < u32At ps 1 then refuseWith s .range
    else match s.lookUp layer (u32At ps 1) with
      | some i => done s [byte1 i.val, (s.zone i).state.byte]
      | none => refuseWith s .nothing

def execFindZone (s : State) : Host.Outcome State Fault Refusal := s.execute codeFindZone 2 findZone

/-- SWEEP lists the descriptor: it is on the layer and its Written flag is set (R26). -/
def Zone.swept (z : Zone) (layer : LayerNo) : Bool := z.written && decide (z.layer = layer)

/-- SWEEP (R26): the list in ascending slot order; the flag of each slot listed is cleared. -/
def sweep (_ : Level) (ps : List Byte) (s : State) : Answered :=
  match below 4 (u8At ps 0) with
  | none => refuseWith s .range
  | some layer =>
    let listed := zoneSlots.filter fun i => (s.zone i).swept layer
    done (s.withZones (mapTable s.zones fun z => if z.swept layer then { z with written := false } else z))
      (byte1 listed.length :: listed.map fun i => byte1 i.val)

def execSweep (s : State) : Host.Outcome State Fault Refusal := s.execute codeSweep 0 sweep

end Sys2Proof.Machine
end

