-- ==== Sys2Proof/Machine/Dispatch.lean ====
section
/-!
DEFINITION. The meaning of each command: one arm per row of spec/opcode_table.json.
-/

namespace Sys2Proof.Machine

open Sys2Proof

def exec (i : Instr) (s : State) : Host.Outcome State Fault Refusal :=
  match i with
  | .powerOn pins => Sys2Proof.Machine.execPowerOn pins s
  | .rstnLow => Sys2Proof.Machine.execRstnLow s
  | .rstnRelease pins => Sys2Proof.Machine.execRstnRelease pins s
  | .addressByte b => Sys2Proof.Machine.execAddressByte b s
  | .writeTransferEnd => Sys2Proof.Machine.execWriteTransferEnd s
  | .allStop => Sys2Proof.Machine.execAllStop s
  | .busTimeout => Sys2Proof.Machine.execBusTimeout s
  | .commandCompletion => Sys2Proof.Machine.execCommandCompletion s
  | .loadZone => Sys2Proof.Machine.execLoadZone s
  | .setPowers => Sys2Proof.Machine.execSetPowers s
  | .setTrimAbsolute => Sys2Proof.Machine.execSetTrimAbsolute s
  | .setTrimShort => Sys2Proof.Machine.execSetTrimShort s
  | .setAutotrim => Sys2Proof.Machine.execSetAutotrim s
  | .markAbsent => Sys2Proof.Machine.execMarkAbsent s
  | .markPresent => Sys2Proof.Machine.execMarkPresent s
  | .closeZone => Sys2Proof.Machine.execCloseZone s
  | .reopenZone => Sys2Proof.Machine.execReopenZone s
  | .releaseZone => Sys2Proof.Machine.execReleaseZone s
  | .readZone => Sys2Proof.Machine.execReadZone s
  | .findZone => Sys2Proof.Machine.execFindZone s
  | .sweep => Sys2Proof.Machine.execSweep s
  | .loadStrategy => Sys2Proof.Machine.execLoadStrategy s
  | .releaseStrategy => Sys2Proof.Machine.execReleaseStrategy s
  | .readStrategy => Sys2Proof.Machine.execReadStrategy s
  | .openStream => Sys2Proof.Machine.execOpenStream s
  | .closeStream => Sys2Proof.Machine.execCloseStream s
  | .readStream => Sys2Proof.Machine.execReadStream s
  | .addGuard => Sys2Proof.Machine.execAddGuard s
  | .removeGuard => Sys2Proof.Machine.execRemoveGuard s
  | .listGuards => Sys2Proof.Machine.execListGuards s
  | .loadLayer => Sys2Proof.Machine.execLoadLayer s
  | .readPickup => Sys2Proof.Machine.execReadPickup s
  | .loadLaserModel => Sys2Proof.Machine.execLoadLaserModel s
  | .loadCeilings => Sys2Proof.Machine.execLoadCeilings s
  | .laserOn => Sys2Proof.Machine.execLaserOn s
  | .laserOff => Sys2Proof.Machine.execLaserOff s
  | .clearFault => Sys2Proof.Machine.execClearFault s
  | .readLaser => Sys2Proof.Machine.execReadLaser s
  | .ackEvents => Sys2Proof.Machine.execAckEvents s
  | .setPermissions => Sys2Proof.Machine.execSetPermissions s
  | .setAlertMode => Sys2Proof.Machine.execSetAlertMode s
  | .readEvents => Sys2Proof.Machine.execReadEvents s
  | .inquire => Sys2Proof.Machine.execInquire s
  | .reset found => Sys2Proof.Machine.execReset found s
  | .unmount => Sys2Proof.Machine.execUnmount s
  | .announce tag packed step start run => Sys2Proof.Machine.execAnnounce tag packed step start run s
  | .abort scope => Sys2Proof.Machine.execAbort scope s
  | .quality layer block beta => Sys2Proof.Machine.execQuality layer block beta s
  | .malformedMessage bs wholeBytes => Sys2Proof.Machine.execMalformedMessage bs wholeBytes s
  | .replySend => Sys2Proof.Machine.execReplySend s
  | .translationComplete => Sys2Proof.Machine.execTranslationComplete s
  | .levelComputationComplete => Sys2Proof.Machine.execLevelComputationComplete s
  | .idleComputationComplete => Sys2Proof.Machine.execIdleComputationComplete s
  | .bgateRise => Sys2Proof.Machine.execBgateRise s
  | .bgateFall => Sys2Proof.Machine.execBgateFall s
  | .wdataTransition periods => Sys2Proof.Machine.execWdataTransition periods s
  | .markStart fmon => Sys2Proof.Machine.execMarkStart fmon s
  | .patternStepEnd fmon => Sys2Proof.Machine.execPatternStepEnd fmon s
  | .settleEnd => Sys2Proof.Machine.execSettleEnd s
  | .warmUpExpiry => Sys2Proof.Machine.execWarmUpExpiry s
  | .loffAsserted => Sys2Proof.Machine.execLoffAsserted s
  | .loffReleased => Sys2Proof.Machine.execLoffReleased s
  | .temperatureSample temp => Sys2Proof.Machine.execTemperatureSample temp s
  | .gateLimitExpiry => Sys2Proof.Machine.execGateLimitExpiry s
  | .pllLosesLock => Sys2Proof.Machine.execPllLosesLock s
  | .pllRegainsLock => Sys2Proof.Machine.execPllRegainsLock s
  | .lossTimerExpiry => Sys2Proof.Machine.execLossTimerExpiry s
  | .blockSample fmon => Sys2Proof.Machine.execBlockSample fmon s
  | .idleSampleTimerExpiry fmon => Sys2Proof.Machine.execIdleSampleTimerExpiry fmon s
  | .conversionComplete => Sys2Proof.Machine.execConversionComplete s
  | .alertPulseEnd => Sys2Proof.Machine.execAlertPulseEnd s
  | .commandMessageByte b => Sys2Proof.Machine.execCommandMessageByte b s

end Sys2Proof.Machine
end

