-- ==== Sys2Proof/Machine/Timers.lean ====
section
/-!
DEFINITION. What step does on an empty queue: one microsecond passes and each running timer counts it (assumption log 4).
A timer at 0 waits for the command that is its expiry.
-/

namespace Sys2Proof.Machine

open Sys2Proof

/-- A running timer one microsecond later. -/
def countDown (t : Option Nat) : Option Nat := t.map fun us => us - 1

def Motion.tick : Motion → Motion
  | .settled layer => .settled layer
  | .moving source target left => .moving source target (left - 1)

def Laser.tick (l : Laser) : Laser :=
  { l with warmUp := countDown l.warmUp, gateTimer := countDown l.gateTimer, lossTimer := countDown l.lossTimer,
           sampleTimer := l.sampleTimer - 1 }

def Monitor.tick (m : Monitor) : Monitor :=
  { m with idleTimer := countDown m.idleTimer,
           blockSamples := m.blockSamples.map fun d => { d with left := d.left - 1 } }

/-- In a transfer addressed to the part, time passes with SCL low unless the part itself holds it (R164). -/
def Port.tick (p : Port) : Port := if p.transfer = .idle ∨ p.stretched then p else { p with busTimer := p.busTimer + 1 }

/-- One microsecond (R119, R129, R133, R134, R138, R145, R147, R164, R173); nothing runs while RSTN is low. -/
def State.tick (s : State) : State :=
  if s.inReset then s
  else
    (((((s.withPickup { s.pickup with motion := s.pickup.motion.tick }).withLaser s.laser.tick).withMonitor
      s.monitor.tick).withPort s.port.tick).withAlert { s.alert with pulse := countDown s.alert.pulse })

end Sys2Proof.Machine
end

