-- ==== Sys2Proof/Machine/Step.lean ====
section
/-!
DEFINITION. One step: the command at the front of the queue, or one microsecond on an empty queue.
-/

namespace Sys2Proof.Machine

open Sys2Proof

/-- The command at the front of `pending` is taken with the queue's rest; with none waiting a microsecond passes (assumption
log 4). -/
def step (s : State) : Host.Outcome State Fault Refusal :=
  match s.pending with
  | c :: rest => exec c (s.withPending rest)
  | [] => .next s.tick

/-- The command a word spells, put at the front of the queue; the table gives no row bits, so no word spells one
(assumption log 25). -/
def State.withFetchWord (s : State) (nbits w : Nat) : State :=
  match Sys2Proof.decodeTableWord nbits w with
  | some c => s.withPending (c :: s.pending)
  | none => s

end Sys2Proof.Machine
end

