-- ==== Sys2Proof/Safety.lean ====
section
/-!
DEFINITION. The terms in which claims about the part are stated: what it is to execute a command, and the invariants that
the spec's prose promises of every state (R4, R5, R23, R43, R49, R59, R61, R101, R106, R124, R125, R134, R149, R151).
-/

namespace Sys2Proof.Machine

open Sys2Proof

/-! ### Rounding (00_scope.md, 3.2) -/

/-- Rounded half up. -/
def roundHalfUp (x : ℚ) : Int := ⌊x + 1 / 2⌋

/-- Rounded half away from zero. -/
def roundHalfAway (x : ℚ) : Int := if 0 ≤ x then ⌊x + 1 / 2⌋ else -⌊-x + 1 / 2⌋

/-! ### Executing a command -/

/-- The executor holds a command of this level, code and parameters whose change is not yet made, and RSTN is high. -/
def State.executing (s : State) (l : Level) (code : Byte) (ps : List Byte) : Prop :=
  s.inReset = false ∧ s.port.executor = some ⟨l, code, ps, none⟩

/-- The change of the executing command is made, with this result (R160). -/
def State.withResult (s : State) (r : Result) : State :=
  s.withPort { s.port with executor := s.port.executor.map fun e => { e with result := some r } }

/-- The command is answered Denied from every level above the one named, with no data and no change (R161). -/
def State.DeniedAbove (s : State) (greatest : Level) (c : Instr) (code : Byte) (ps : List Byte) : Prop :=
  ∀ l : Level, greatest < l → s.executing l code ps → exec c s = .next (s.withResult ⟨.denied, []⟩)

/-- The code of a row that is an executor command, and the greatest level it is accepted from (sections 11.6, 12.1). -/
def commandOf : Instr → Option (Byte × Level)
  | .loadZone => some (0x10#8, 0)
  | .setPowers => some (0x11#8, 0)
  | .setTrimAbsolute => some (0x12#8, 0)
  | .setTrimShort => some (0x13#8, 0)
  | .setAutotrim => some (0x14#8, 0)
  | .markAbsent => some (0x15#8, 0)
  | .markPresent => some (0x16#8, 0)
  | .closeZone => some (0x17#8, 1)
  | .reopenZone => some (0x18#8, 0)
  | .releaseZone => some (0x19#8, 0)
  | .readZone => some (0x1A#8, 2)
  | .findZone => some (0x1B#8, 2)
  | .sweep => some (0x1C#8, 0)
  | .loadStrategy => some (0x20#8, 0)
  | .releaseStrategy => some (0x21#8, 0)
  | .readStrategy => some (0x22#8, 2)
  | .openStream => some (0x30#8, 1)
  | .closeStream => some (0x31#8, 1)
  | .readStream => some (0x32#8, 2)
  | .addGuard => some (0x33#8, 1)
  | .removeGuard => some (0x34#8, 1)
  | .listGuards => some (0x35#8, 2)
  | .loadLayer => some (0x40#8, 0)
  | .readPickup => some (0x41#8, 2)
  | .loadLaserModel => some (0x50#8, 0)
  | .loadCeilings => some (0x51#8, 0)
  | .laserOn => some (0x52#8, 0)
  | .laserOff => some (0x53#8, 0)
  | .clearFault => some (0x54#8, 0)
  | .readLaser => some (0x55#8, 2)
  | .ackEvents => some (0x60#8, 0)
  | .setPermissions => some (0x61#8, 0)
  | .setAlertMode => some (0x62#8, 0)
  | .readEvents => some (0x63#8, 2)
  | .inquire => some (0x64#8, 2)
  | .reset _ => some (0x70#8, 0)
  | .unmount => some (0x71#8, 0)
  | .powerOn _ => none
  | .rstnLow => none
  | .rstnRelease _ => none
  | .addressByte _ => none
  | .writeTransferEnd => none
  | .allStop => none
  | .busTimeout => none
  | .commandCompletion => none
  | .announce _ _ _ _ _ => none
  | .abort _ => none
  | .quality _ _ _ => none
  | .malformedMessage _ _ => none
  | .replySend => none
  | .translationComplete => none
  | .levelComputationComplete => none
  | .idleComputationComplete => none
  | .bgateRise => none
  | .bgateFall => none
  | .wdataTransition _ => none
  | .markStart _ => none
  | .patternStepEnd _ => none
  | .settleEnd => none
  | .warmUpExpiry => none
  | .loffAsserted => none
  | .loffReleased => none
  | .temperatureSample _ => none
  | .gateLimitExpiry => none
  | .pllLosesLock => none
  | .pllRegainsLock => none
  | .lossTimerExpiry => none
  | .blockSample _ => none
  | .idleSampleTimerExpiry _ => none
  | .conversionComplete => none
  | .alertPulseEnd => none
  | .commandMessageByte _ => none

/-- The command messages of section 12.1: the code byte and the number of parameter bytes that follow it. -/
def messageTable : List (Byte × Nat) :=
  [(0x10#8, 24), (0x11#8, 13), (0x12#8, 3), (0x13#8, 2), (0x14#8, 5), (0x15#8, 1), (0x16#8, 1), (0x17#8, 1),
   (0x18#8, 1), (0x19#8, 1), (0x1A#8, 1), (0x1B#8, 5), (0x1C#8, 1), (0x20#8, 21), (0x21#8, 1), (0x22#8, 1),
   (0x30#8, 2), (0x31#8, 1), (0x32#8, 1), (0x33#8, 9), (0x34#8, 5), (0x35#8, 0), (0x40#8, 7), (0x41#8, 0),
   (0x50#8, 10), (0x51#8, 10), (0x52#8, 0), (0x53#8, 0), (0x54#8, 0), (0x55#8, 0), (0x60#8, 2), (0x61#8, 2),
   (0x62#8, 1), (0x63#8, 0), (0x64#8, 1), (0x70#8, 0), (0x71#8, 0)]

/-- Steps taken one after the other, ending at the first that does not answer a next state. -/
def stepTimes : Nat → State → Host.Outcome State Fault Refusal
  | 0, s => .next s
  | n + 1, s =>
    match step s with
    | .next t => stepTimes n t
    | .fault r => .fault r
    | .refused r => .refused r

/-! ### Replies, requests and the ALERT pulse of one event (R59, R168, R173) -/

/-- Exactly the requests `raised` are set by an event that takes the alert unit from a to b: no other flag and no permission
changes, and in Pulse mode the pulse ends 2 µs later where a granted flag went from clear to set, and is as it was elsewhere
(R168, R170, R173). -/
structure AlertRaised (raised : RequestFlag → Bool) (a b : Alert) : Prop where
  flags : ∀ f, b.isSet f = (a.isSet f || raised f)
  unused : b.requests &&& unusedFlags = a.requests &&& unusedFlags
  settings : b.permissions = a.permissions ∧ b.mode = a.mode
  pulse : a.mode = .pulse → (∃ f, a.isGranted f = true ∧ a.isSet f = false ∧ raised f = true) → b.pulse = some 2
  quiet : a.mode = .level ∨ (∀ f, a.isGranted f = true → a.isSet f = false → raised f = false) → b.pulse = a.pulse

/-- The store has no room for the last of these replies (R59). -/
def State.drops (s : State) (told : List Reply) : Bool :=
  decide (Config.replyStoreDepth - s.link.replies.length < told.length)

/-- The replies `told` of one event join the tail of the store in their order, as far as the 32 places go; the link is otherwise
as it was (R59). -/
def Stored (told : List Reply) (s t : State) : Prop :=
  t.link = { s.link with
    replies := s.link.replies ++ told.take (Config.replyStoreDepth - s.link.replies.length) }

/-- The reply is a REVOKE. -/
def Reply.isRevoke : Reply → Bool
  | .revoke _ _ _ => true
  | .accept _ _ _ => false
  | .refuse _ _ => false
  | .skip _ _ _ => false
  | .done _ _ _ => false

/-- An event produces the replies `told` and sets the request `flag`: its requests are that one, and LINKERR when a reply finds no
room (R59). -/
structure Told (told : List Reply) (flag : RequestFlag) (s t : State) : Prop where
  store : Stored told s t
  alert : AlertRaised (fun f => decide (f = flag) || decide (f = .linkerr) && s.drops told) s.alert t.alert

/-- The REVOKEs, in queue order, of a cut of the runs of the entries `considered` before their first block in a range (R71). -/
def State.cutRevokes (s : State) (reason : RevokeReason) (first last : Nat) (considered : Entry → Bool) : List Reply :=
  (s.queue.filter fun e => considered e && decide (max e.next first < e.stop ∧ max e.next first ≤ last)).map
    fun e => .revoke e.tag (max e.next first - e.next) reason

/-- The REVOKEs, in queue order, of a whole-entry trigger on the entries that `m` matches: none for one whose last block has risen
(R70, R71). -/
def State.endRevokes (s : State) (reason : RevokeReason) (m : Entry → Bool) : List Reply :=
  (s.queue.filter fun e => m e && (decide (e.state = .waiting) || decide (e.next < e.stop))).map
    fun e => .revoke e.tag 0 reason

/-- The REVOKEs of a flush, oldest entry first: none for one that has had its own and waits for its fall (R75). -/
def State.flushRevokes (s : State) (reason : RevokeReason) : List Reply :=
  (s.queue.filter fun e => !s.awaitsFall e).map fun e => .revoke e.tag 0 reason

/-! ### What one event does to several blocks -/

/-- A change to slot i's descriptor is handed to the level computer, from s to t (R15, R32). In `other`, a target whose translation
has been removed has no slot, so no hand-off is for it: the model's choice (assumption log 18). -/
structure HandedOn (i : ZoneSlot) (s t : State) : Prop where
  ready : ∀ g l, targetOf s.queue = some g → g.slot = some i → s.levels.prepared = .ready l →
    t.levels = { s.levels with prepared := .computing (t.levelInputs g), standIn := some l }
  computing : ∀ g c, targetOf s.queue = some g → g.slot = some i → s.levels.prepared = .computing c →
    t.levels = { s.levels with prepared := .computing (t.levelInputs g) }
  other : (∀ g, targetOf s.queue = some g → g.slot ≠ some i) → t.levels = s.levels

/-- The level computer looks for its target in the queue of t, with the sets it had in s: the same tag and block keep both sets,
another target's computation starts and the stand-in set is gone, and with no target both are absent (R30, R31). -/
structure TargetFollowed (s t : State) : Prop where
  same : (targetOf t.queue).map (fun g => (g.tag, g.block)) = s.levels.prepared.key →
    t.levels.prepared = s.levels.prepared ∧ t.levels.standIn = s.levels.standIn
  other : ∀ g, targetOf t.queue = some g → s.levels.prepared.key ≠ some (g.tag, g.block) →
    t.levels.prepared = .computing (t.levelInputs g) ∧ t.levels.standIn = none
  none : targetOf t.queue = Option.none → s.levels.prepared.key ≠ Option.none →
    t.levels.prepared = .absent ∧ t.levels.standIn = Option.none

/-- The pickup of t follows its queue and its laser, from the motion it had in s: a move starts exactly when it was Settled, the
laser is Idle, no entry is Current and the oldest Accepted entry is on another layer; the outputs take that layer's record at once
(R118, R119). -/
structure MoveFollowed (s t : State) : Prop where
  starts : ∀ layer e, s.pickup.motion = .settled layer → t.laser.state = .idle → (∀ f ∈ t.queue, f.state ≠ .current) →
    t.queue.find? (fun e => decide (e.state = .accepted)) = some e → e.layer ≠ layer →
    t.pickup = { s.pickup with
      motion := .moving layer e.layer (s.layerRecord e.layer).settle, sa := (s.layerRecord e.layer).sa,
      fo := (s.layerRecord e.layer).fo }
  stays : (∃ source goal left, s.pickup.motion = .moving source goal left) ∨ t.laser.state ≠ .idle ∨
      (∃ f ∈ t.queue, f.state = .current) ∨ (∀ f ∈ t.queue, f.state ≠ .accepted) ∨
      (∃ layer e, s.pickup.motion = .settled layer ∧
        t.queue.find? (fun e => decide (e.state = .accepted)) = some e ∧ e.layer = layer) →
    t.pickup = s.pickup

/-- The block-in-service record after an event that took the state from s to t: its entry goes when that entry leaves the queue, and
its ended mark is set when that entry, Current with blocks left, has been cut to nothing and stays for its fall; every other field
of it is as it was (R79, R94). -/
def BlockRecord.after (r : BlockRecord) (s t : State) : BlockRecord :=
  { r with
    hasEntry := r.hasEntry && !(s.queue.any fun e => r.isOf e && !(t.queue.any fun f => f.tag == e.tag))
    ended := r.ended || s.queue.any fun e =>
      r.isOf e && decide (e.state = .current ∧ e.next < e.stop) && !t.queue.contains e &&
        t.queue.any fun f => f.tag == e.tag && decide (f.stop ≤ f.next) }

/-- What a trigger that acts on the announce queue and produces the replies `told` may change beside the queue and the slots it
names: pins drop, and a Retiring slot left with none becomes Free, its strategy's count falling; the requests set are REVOKE with a
REVOKE, FREED with a slot so freed and LINKERR with a reply that finds no room, and no other; the block-in-service record follows
its entry; the translator works on the oldest Waiting entry, the level computer follows the queue's target (unless its slot has just
been made Free by the command itself), and a pickup move starts when its conditions hold; every other block and field is as before
(R1, R6, R21, R30, R31, R49, R59, R63, R71, R75, R79, R94, R118, R173). -/
structure TriggerFrame (named : List ZoneSlot) (told : List Reply) (s t : State) : Prop where
  zones : ∀ j, j ∉ named → (t.zone j).pins ≤ (s.zone j).pins ∧
    (t.zone j = { s.zone j with pins := (t.zone j).pins } ∨ (s.zone j).state = .retiring ∧ t.zone j = Zone.freeContent)
  strategies : ∀ k, t.strategy k = { s.strategy k with refs := (t.strategy k).refs } ∧
    (t.strategy k).refs ≤ (s.strategy k).refs
  levels : t.levels = { s.levels with prepared := t.levels.prepared, standIn := t.levels.standIn }
  target : (∀ g i, targetOf t.queue = some g → g.slot = some i → i ∈ named → t.zone i ≠ Zone.freeContent) → TargetFollowed s t
  translator : t.translating = (t.queue.find? fun e => decide (e.state = .waiting)).map Entry.tag
  pickup : MoveFollowed s t
  gate : t.gate = { s.gate with record := s.gate.record.map fun r => r.after s t }
  replies : Stored told s t
  alert : AlertRaised
    (fun f => decide (f = .revoke) && told.any Reply.isRevoke ||
      decide (f = .freed) && (zoneSlots.any fun j =>
        !named.contains j && decide ((s.zone j).state = .retiring ∧ (t.zone j).state = .free)) ||
      decide (f = .linkerr) && s.drops told) s.alert t.alert
  others : t.inReset = s.inReset ∧ t.guards = s.guards ∧ t.streams = s.streams ∧ t.writePath = s.writePath ∧
    t.laser = s.laser ∧ t.monitor = s.monitor ∧ t.port = s.port ∧ t.pending = s.pending

/-- Revocation, with a reason that does not stop output at once, of the entries `considered` over a block range: a remaining run
is cut before its first block in the range, with one REVOKE of what it keeps, in queue order, and the REVOKE request set exactly
when one is produced; an entry cut at its next block leaves, or waits for its fall when Current with a block in service; the other
entries are untouched (R70 to R74, R94). -/
structure RunsCut (reason : RevokeReason) (first last : Nat) (considered : Entry → Bool) (s t : State) : Prop where
  runs : ∀ e ∈ s.queue, considered e = true → ∀ e' ∈ t.queue, e'.tag = e.tag →
    e'.next = e.next ∧ e'.stop ≤ e.stop ∧ ∀ b, e.next ≤ b → b < e.stop →
      (b < e'.stop ↔ ∀ c, e.next ≤ c → c ≤ b → ¬ (first ≤ c ∧ c ≤ last))
  stays : ∀ e ∈ s.queue, considered e = true → ¬ (first ≤ e.next ∧ e.next ≤ last ∧ e.next < e.stop) →
    ∃ e' ∈ t.queue, e'.tag = e.tag ∧ e'.state = e.state ∧ e'.next = e.next
  leaves : ∀ e ∈ s.queue, considered e = true → first ≤ e.next → e.next ≤ last → e.next < e.stop →
    ¬ (e.state = .current ∧ s.inService e = true) → ∀ e' ∈ t.queue, e'.tag ≠ e.tag
  waits : ∀ e ∈ s.queue, considered e = true → first ≤ e.next → e.next ≤ last → e.next < e.stop →
    e.state = .current → s.inService e = true → ∃ e' ∈ t.queue, e'.tag = e.tag ∧ t.awaitsFall e' = true
  others : ∀ e ∈ s.queue, considered e = false → e ∈ t.queue
  replies : Stored (s.cutRevokes reason first last considered) s t
  request : t.alert.isSet .revoke = (s.alert.isSet .revoke ||
    s.queue.any fun e => considered e && decide (max e.next first < e.stop ∧ max e.next first ≤ last))

/-- A zone trigger: the runs of the entries `considered` are cut over the range of slot i, and no translation naming the slot is
left but under a block in service inside the range (R6, R7). -/
structure ZoneCut (i : ZoneSlot) (reason : RevokeReason) (considered : Entry → Bool) (s t : State) : Prop where
  cut : RunsCut reason (s.zone i).first (s.zone i).last considered s t
  translations : ∀ e ∈ s.queue, considered e = true → ∀ e' ∈ t.queue, e'.tag = e.tag → e'.names i = true →
    s.servesIn e (s.zone i).first (s.zone i).last = true

/-- A whole-entry trigger that does not stop output at once, of the entries that `m` matches: a Waiting entry, and one with
blocks left, is cut before its next block with a REVOKE of remaining run 0, and the REVOKE request is set exactly when there is
one; it leaves, or waits for its fall when Current with a block in service; an entry whose last block has risen, and every entry
not matched, is untouched (R70 to R74, R94). -/
structure EntriesCut (reason : RevokeReason) (m : Entry → Bool) (s t : State) : Prop where
  leaves : ∀ e ∈ s.queue, m e = true → e.state = .waiting ∨ e.next < e.stop →
    ¬ (e.state = .current ∧ s.inService e = true) → ∀ e' ∈ t.queue, e'.tag ≠ e.tag
  ends : ∀ e ∈ s.queue, m e = true → e.next < e.stop → e.state = .current → s.inService e = true →
    { e with accepted := e.next - e.start } ∈ t.queue ∧ t.awaitsFall { e with accepted := e.next - e.start } = true
  keeps : ∀ e ∈ s.queue, m e = false ∨ (e.state ≠ .waiting ∧ e.stop ≤ e.next) → e ∈ t.queue
  replies : Stored (s.endRevokes reason m) s t
  request : t.alert.isSet .revoke = (s.alert.isSet .revoke ||
    s.queue.any fun e => m e && (decide (e.state = .waiting) || decide (e.next < e.stop)))

/-- The queue is flushed: empty, no target, the block in service without its entry and otherwise as it was, and a REVOKE of
remaining run 0 for every entry that had not had one, oldest first, with the REVOKE request exactly when there is one
(R75, R79, R168). -/
structure Flushed (reason : RevokeReason) (s t : State) : Prop where
  queue : t.queue = [] ∧ t.translating = none ∧ t.levels.prepared = .absent
  entry : t.gate = { s.gate with
    record := s.gate.record.map fun r => { r with hasEntry := r.hasEntry && !s.queue.any r.isOf } }
  replies : Stored (s.flushRevokes reason) s t
  request : t.alert.isSet .revoke = (s.alert.isSet .revoke || s.queue.any fun e => !s.awaitsFall e)

/-- An on-state goes to Off with the queue flushed: output zero, write path cut, timers cancelled, idle set gone, the conversion in
flight abandoned; the APC offset and the mismatch count stay, and nothing else changes but as the flush does
(R75, R124, R130, R131, R143). -/
structure TurnedOff (reason : RevokeReason) (s t : State) : Prop where
  frame : TriggerFrame [] (s.flushRevokes reason) ((((s.withWritePath none).withLaser
      { s.laser with state := .off, current := 0, lsel := .read, warmUp := none, gateTimer := none }).withLevels
      { s.levels with idleSet := none, idleComp := none, idleAgain := false }).withMonitor t.monitor) t
  monitor : t.monitor = { s.monitor with
    conversion := none, idleTimer := none, peakHold := none, blockSamples := t.monitor.blockSamples }
  samples : ∀ d ∈ t.monitor.blockSamples, d.live = false
  flushed : Flushed reason s t

/-- An on-state goes to Fault: output zero as for Off, the fault record written, the queue flushed, FAULT set; a conversion in
flight, the APC offset and the mismatch count stay (R75, R124, R132, R135, R143). The record names a Served block until its gate
fall, even one whose service had ended before the fault (assumption log 35). -/
structure Faulted (cause : FaultCause) (s t : State) : Prop where
  frame : TriggerFrame [] (s.flushRevokes .fault) (((((s.withWritePath none).withLaser { s.laser with
      state := .fault, current := 0, lsel := .read, warmUp := none, gateTimer := none,
      faultRecord := t.laser.faultRecord }).withLevels
      { s.levels with idleSet := none, idleComp := none, idleAgain := false }).withMonitor t.monitor).raise .fault) t
  record : t.laser.faultRecord.cause = cause ∧ t.laser.faultRecord.left = some s.laser.state ∧
    t.laser.faultRecord.further = false
  block : ∀ b, t.laser.faultRecord.block = some b ↔
    ∃ r, s.gate.record = some r ∧ r.outcome = .served ∧ b = (r.layer, r.block)
  monitor : t.monitor = { s.monitor with
    idleTimer := none, peakHold := none, blockSamples := t.monitor.blockSamples }
  samples : ∀ d ∈ t.monitor.blockSamples, d.live = false
  flushed : Flushed .fault s t

/-- The clock-lock state enters Unlocked: UNLOCK is set, and away from Writing nothing else happens; in Writing the write path and
the gate timer stop, the laser returns to Idle at the read drive of the handed-off set, and the entry of the block in service
leaves, with a REVOKE of remaining run 0 unless its ended mark is set; the level computer's block sets go and what is then its target
is computed afresh, even a target it had before (R30, R45, R76, R96, R138, R139, R147; assumption log 24). -/
structure Unlocks (s t : State) : Prop where
  elsewhere : s.laser.state ≠ .writing →
    t = (s.withLaser { s.laser with clock := .unlocked, lossTimer := none }).raise .unlock
  writing : s.laser.state = .writing → s.levels.servedSinceOn = true → ∀ l, s.levels.handedOff = some l →
    let drive : Int := l.read.current + s.monitor.apc
    let told := s.gate.record.toList.flatMap fun r =>
      if r.hasEntry && !r.ended then [Reply.revoke r.tag 0 .clockUnlock] else []
    TriggerFrame [] told ((((((s.withWritePath none).withLaser { s.laser with
      state := .idle, clock := .unlocked, lossTimer := none, gateTimer := none, lsel := .read,
      current := if drive < 0 then 0 else if (s.laser.ceilings.imax : Int) < drive then s.laser.ceilings.imax
                 else drive.toNat }).withLevels { s.levels with prepared := .absent, standIn := none }).withMonitor
      t.monitor).raise .unlock).raiseIf (decide ((s.laser.ceilings.imax : Int) < drive)) .iclamp) t
  monitor : s.laser.state = .writing → t.monitor = { s.monitor with
    idleTimer := some 100, peakHold := none, blockSamples := t.monitor.blockSamples } ∧
    ∀ d ∈ t.monitor.blockSamples, d.live = false
  entry : s.laser.state = .writing → ∀ r, s.gate.record = some r → r.hasEntry = true →
    t.queue = (s.queue.filter fun e => !r.isOf e) ∧
    ((∃ e ∈ s.queue, r.isOf e = true) → t.gate.record = some { r with hasEntry := false }) ∧
    Stored (if r.ended then [] else [.revoke r.tag 0 .clockUnlock]) s t ∧
    t.alert.isSet .revoke = (s.alert.isSet .revoke || !r.ended)

/-! ### Reset -/

/-- The value the spec gives each block after power-on, a low level on RSTN and RESET, the control port apart
(R27, R29, R45, R56, R59, R77, R80, R99, R114, R123, R124, R142, R143, R168, R170, R171, R173). -/
structure State.ResetValues (s : State) : Prop where
  zones : ∀ i, s.zone i = Zone.freeContent
  strategies : ∀ k, s.strategy k = Strategy.freeContent
  guards : s.guards = []
  streams : ∀ n, s.stream n = Stream.resetContent
  queue : s.queue = [] ∧ s.translating = none
  link : s.link.replies = [] ∧ s.link.sending = [] ∧ s.link.ldo = 0x00#8
  record : s.gate.record = none
  writePath : s.writePath = none
  levels : s.levels.prepared = .absent ∧ s.levels.standIn = none ∧ s.levels.idleSet = none ∧ s.levels.idleComp = none ∧
    s.levels.servedSinceOn = false
  pickup : (∀ n, s.layerRecord n = LayerRecord.absentContent) ∧ s.pickup.motion = .settled 0 ∧ s.pickup.sa = 0 ∧
    s.pickup.fo = 0 ∧ s.pickup.lrdy = true
  laser : s.laser.state = .off ∧ s.laser.current = 0 ∧ s.laser.lsel = .read
  records : s.laser.model = ⟨0, 0, 0, 0, 0, 0, 0⟩ ∧ s.laser.modelLoaded = false ∧
    s.laser.ceilings = ⟨0, 0, 0, 0, 0, 0, 0⟩ ∧ s.laser.ceilingsLoaded = false ∧ s.laser.faultRecord = FaultRecord.clear
  timers : s.laser.warmUp = none ∧ s.laser.gateTimer = none ∧ s.laser.lossTimer = none ∧ s.laser.warnArmed = true
  monitor : s.monitor.apc = 0 ∧ s.monitor.mismatch = 0 ∧ s.monitor.conversion = none ∧ s.monitor.idleTimer = none ∧
    s.monitor.peakHold = none
  alert : s.alert.requests = 0#16 ∧ s.alert.permissions = 0#16 ∧ s.alert.mode = .level ∧ s.alert.active = false

/-! ### Laser output (R43, R124, R125, R134) -/

/-- When the laser may write and read: Writing only while a served Write or Calibrate block is in service, the clock Locked,
the gate timed and the write path active; Reading only while a served Read block is in service; no gate timer and no write
path otherwise (R52, R125, R134). -/
structure State.WriteService (s : State) : Prop where
  writing : s.laser.state = .writing →
    s.laser.clock = .locked ∧ s.laser.gateTimer.isSome = true ∧ s.writePath.isSome = true ∧ s.gate.high = true ∧
      ∃ r, s.gate.record = some r ∧ r.outcome = .served ∧ r.intent ≠ .read
  reading : s.laser.state = .reading →
    s.gate.high = true ∧ ∃ r, s.gate.record = some r ∧ r.outcome = .served ∧ r.intent = .read
  otherwise : s.laser.state ≠ .writing → s.laser.gateTimer = none ∧ s.writePath = none

/-- The peak, bias and bottom currents of a set are within a ceiling (R43). -/
def LevelSet.within (l : LevelSet) (imax : Nat) : Prop :=
  ∀ w, l.write = some w → w.peak.current ≤ imax ∧ w.bias.current ≤ imax ∧ w.bottom.current ≤ imax

/-- The drive current is bounded by Imax, zero in Off and Fault, and LSEL names a write level in Writing alone; with what
every state keeps for it to stay so (R43, R45, R62, R75, R124). -/
structure State.Emission (s : State) : Prop where
  service : s.WriteService
  ceiling : s.laser.current ≤ s.laser.ceilings.imax
  dark : s.laser.state = .off ∨ s.laser.state = .fault → s.laser.current = 0
  level : s.laser.state ≠ .writing → s.laser.lsel = .read
  quiet : s.laser.state.emits = false → s.queue = [] ∧ s.levels.prepared = .absent
  standInFollows : s.levels.prepared = .absent → s.levels.standIn = none
  computing : ∀ i, s.levels.prepared = .computing i → i.ceilings.imax = s.laser.ceilings.imax
  ready : ∀ l, s.levels.prepared = .ready l → l.within s.laser.ceilings.imax
  standIn : ∀ l, s.levels.standIn = some l → l.within s.laser.ceilings.imax
  idle : s.laser.state.on = true → ∀ i, s.levels.idleComp = some i → i.ceilings.imax = s.laser.ceilings.imax
  path : ∀ w, s.writePath = some w →
    w.peak ≤ s.laser.ceilings.imax ∧ w.bias ≤ s.laser.ceilings.imax ∧ w.bottom ≤ s.laser.ceilings.imax

/-! ### Tables (R4, R49) -/

/-- No two Loaded, Absent or Closed descriptors of one layer overlap (R4). -/
def State.ZonesDisjoint (s : State) : Prop :=
  ∀ i j, i ≠ j → (s.zone i).inUse = true → (s.zone j).inUse = true → (s.zone i).layer = (s.zone j).layer →
    rangesOverlap (s.zone i).first (s.zone i).last (s.zone j).first (s.zone j).last = false

/-- How many descriptors, other than Free ones, name a strategy (R49). -/
def State.namedBy (s : State) (k : StrategySlot) : Nat :=
  (zoneSlots.filter fun i => decide ((s.zone i).state ≠ .free ∧ (s.zone i).strategy = some k)).length

/-- Each reference count is the number of descriptors naming the strategy, and a counted strategy is Loaded (R49). -/
def State.RefsCount (s : State) : Prop :=
  ∀ k, (s.strategy k).refs = s.namedBy k ∧ (0 < (s.strategy k).refs → (s.strategy k).loaded = true)

/-- How many translations of queue entries name a slot (R5). -/
def State.translationsOf (s : State) (i : ZoneSlot) : Nat := (s.queue.map fun e => e.slots.count i).sum

/-- Each descriptor's pin count is the number of queue translations naming it, and 0 for a Free one; with what every state
keeps for it to stay so: a Retiring slot has a pin left, a Waiting entry no translation, the two translations of an entry name
different slots, and a removal deferred to a fall is of a translation the entry has (R1, R5, R6, R20). -/
structure State.PinsCount (s : State) : Prop where
  pins : ∀ i, (s.zone i).pins = s.translationsOf i
  free : ∀ i, (s.zone i).state = .free → (s.zone i).pins = 0
  retiring : ∀ i, (s.zone i).state = .retiring → 0 < (s.zone i).pins
  waiting : ∀ e ∈ s.queue, e.state = .waiting → e.slots = []
  distinct : ∀ e ∈ s.queue, e.slots.Nodup
  deferred : ∀ e ∈ s.queue, e.deferred.Nodup ∧ ∀ i ∈ e.deferred, e.names i = true

/-! ### The announce queue (R61, R63) -/

/-- Distinct tags; no entry's next block lies before its start; only the oldest entry may be Current, and the Waiting entries
are the newest; the translator works on the oldest of them (R60, R61, R63). -/
structure State.QueueOrdered (s : State) : Prop where
  tags : (s.queue.map Entry.tag).Nodup
  runs : ∀ e ∈ s.queue, e.start ≤ e.next
  order : s.queue.Pairwise fun a b => b.state ≠ .current ∧ (a.state = .waiting → b.state = .waiting)
  translator : s.translating = (s.queue.find? fun e => decide (e.state = .waiting)).map Entry.tag

/-! ### What follows the queue (R30, R31, R118) -/

/-- The level computer and the pickup follow the announce queue: the prepared set, or the computation in flight, is for the queue's
target and there is none without a target; a stand-in set is for the block that is being computed; and the pickup is never Settled on
a layer with the laser Idle, no Current entry and the oldest Accepted entry on another layer (R29, R30, R31, R118). -/
structure State.Followed (s : State) : Prop where
  target : s.levels.prepared.key = (targetOf s.queue).map fun g => (g.tag, g.block)
  standIn : ∀ l, s.levels.standIn = some l →
    ∃ i, s.levels.prepared = .computing i ∧ i.tag = l.tag ∧ i.block = l.block
  settled : ∀ layer e, s.pickup.motion = .settled layer → s.laser.state = .idle → (∀ f ∈ s.queue, f.state ≠ .current) →
    s.queue.find? (fun e => decide (e.state = .accepted)) = some e → e.layer = layer

/-! ### Capacities and ranges -/

/-- Capacities and ranges of the state: reply store and the reply part-way out (R59), queue (R61), guard list (R106), mismatch count (R149), APC offset
(R151), flag masks (section 12.1), trims (R23), auto-trim (R14), stream counters (R101). -/
structure State.WithinRanges (s : State) : Prop where
  replies : s.link.replies.length ≤ Config.replyStoreDepth ∧ s.link.sending.length ≤ 7
  queue : s.queue.length ≤ Config.queueDepth
  guards : s.guards.length ≤ Config.guardCapacity
  mismatch : s.monitor.mismatch ≤ Config.mismatchLimit
  apc : -64 ≤ s.monitor.apc ∧ s.monitor.apc ≤ 63
  requests : s.alert.requests &&& unusedFlags = 0#16
  permissions : s.alert.permissions &&& unusedFlags = 0#16
  trim : ∀ i, -128 ≤ (s.zone i).trim ∧ (s.zone i).trim ≤ 127
  autotrim : ∀ i, -100 ≤ (s.zone i).target ∧ (s.zone i).target ≤ 100 ∧ (s.zone i).deadband ≤ 20
  counters : ∀ n, (s.stream n).served ≤ Config.counterMax ∧ (s.stream n).skipped ≤ Config.counterMax

end Sys2Proof.Machine
end

