-- ==== Sys2Proof/Certificates/Slice0/Obligations.lean ====
section
/-!
DEFINITION. The statements for the provers, file by file of the spec. `t = (s.withX t.x).withY t.y` in a statement is its frame:
every block of the state but X and Y is as before. A clause `DeniedAbove` is the privilege check of R161 for one command.
-/

section

open Sys2Proof Sys2Proof.Machine

/-! ### The machine as a whole -/

/-- A step runs the command at the front of the queue on the state with the queue's rest. -/
def Obligations.StepRunsFrontCommand : Prop :=
  ∀ (c : Instr) (rest : List Instr) (s : State),
    step (s.withPending (c :: rest)) = exec c (s.withPending rest)

/-- Every command answers a next state in every state, and no command touches the queue of waiting commands; with none waiting a
step is one microsecond: each running timer counts it and nothing else changes, and nothing at all while RSTN is low (the model's
tick, assumption log 4; R119, R129, R133, R134, R138, R145, R147, R164, R173). -/
def Obligations.CommandsAndTicksComplete : Prop :=
  (∀ (c : Instr) (s : State), ∃ t, exec c s = .next t ∧ t.pending = s.pending) ∧
  (∀ s : State, s.pending = [] → s.inReset = true → step s = .next s) ∧
  (∀ s : State, s.pending = [] → s.inReset = false →
    let count := fun timer : Option Nat => timer.map fun us => us - 1
    ∃ t, step s = .next t ∧
      t = ((((s.withPickup { s.pickup with motion := t.pickup.motion }).withLaser
        { s.laser with
          warmUp := count s.laser.warmUp, gateTimer := count s.laser.gateTimer, lossTimer := count s.laser.lossTimer,
          sampleTimer := s.laser.sampleTimer - 1 }).withMonitor
        { s.monitor with
          idleTimer := count s.monitor.idleTimer,
          blockSamples := s.monitor.blockSamples.map fun d => { d with left := d.left - 1 } }).withPort
        { s.port with busTimer := t.port.busTimer }).withAlert { s.alert with pulse := count s.alert.pulse } ∧
      (∀ layer, s.pickup.motion = .settled layer → t.pickup.motion = .settled layer) ∧
      (∀ source target left, s.pickup.motion = .moving source target left →
        t.pickup.motion = .moving source target (left - 1)) ∧
      (s.port.transfer = .idle ∨ s.port.stretched = true → t.port.busTimer = s.port.busTimer) ∧
      (s.port.transfer ≠ .idle → s.port.stretched = false → t.port.busTimer = s.port.busTimer + 1))

/-- While RSTN is low no bus, link, gate, sensor, timer or command event changes anything (assumption log 7). -/
def Obligations.HeldWhileResetPinLow : Prop :=
  ∀ (c : Instr) (s : State), s.inReset = true →
    (∀ p, c ≠ .powerOn p) → (∀ p, c ≠ .rstnRelease p) → c ≠ .rstnLow → exec c s = .next s

/-- The executor's privilege check comes first: a command from a level above those its rule names completes with Denied, no
data and no change, whatever its parameters; from a level its rule names every command but RESET, whose change completes it, leaves
its result in the executor (R161; codes and levels from sections 11.6 and 12.1). A row whose code is not the executing command's does
nothing (assumption log 5). -/
def Obligations.PrivilegeCheckFirst : Prop :=
  ∀ (c : Instr) (code : Byte) (greatest : Level) (s : State), commandOf c = some (code, greatest) →
    (∀ (l : Level) (ps : List Byte), s.executing l code ps →
      (greatest < l → exec c s = .next (s.withResult ⟨.denied, []⟩)) ∧
      (l ≤ greatest → (∀ found, c ≠ .reset found) →
        ∃ t r, exec c s = .next t ∧ t.port = { s.port with executor := some ⟨l, code, ps, some r⟩ })) ∧
    ((∀ (l : Level) (ps : List Byte), s.port.executor ≠ some ⟨l, code, ps, none⟩) → exec c s = .next s)

/-! ### Reset -/

/-- State.reset has the values the spec gives for reset, and Empty slots, an idle executor and no held command (R165). -/
def Obligations.ResetStateValues : Prop :=
  State.reset.ResetValues ∧ State.reset.inReset = false ∧ (∀ l : Level, State.reset.port.slots[l] = none) ∧
    State.reset.port.executor = none ∧ State.reset.port.held = [] ∧ State.reset.port.transfer = .idle

/-- Power-on, and the end of a low level on RSTN, put every block at its reset values and take the straps, the gate, LOFF, the
PLL's report and a temperature sample as they find them; a low level on RSTN puts every block at its reset values and holds the part,
the strap value being kept until it is read again (R57, R80, R131, R133, R138, R142, R156, R165). That the rows carry the levels of the pins,
and that a release with RSTN high does nothing, is the model's reading (assumption logs 5 and 7). -/
def Obligations.ResetPins : Prop :=
  (∀ (p : Pins) (s : State), -40 ≤ p.temp → p.temp ≤ 125 →
     (∃ t, exec (.powerOn p) s = .next t ∧ (s.inReset = true → exec (.rstnRelease p) s = .next t) ∧
       t.ResetValues ∧ t.inReset = false ∧ t.gate.high = p.bgate ∧ t.laser.loff = p.loff ∧
       t.laser.clock = (if p.pllLock then .locked else .unlocked) ∧ t.laser.temp = p.temp ∧ t.laser.overLimit = false ∧
       t.port.k = p.straps ∧ (∀ l : Level, t.port.slots[l] = none) ∧ t.port.executor = none ∧ t.port.held = [] ∧
       t.port.transfer = .idle ∧ t.port.stretched = false ∧ t.link.staleFrame = p.lfrm) ∧
     (s.inReset = false → exec (.rstnRelease p) s = .next s)) ∧
  (∀ s : State, ∃ t, exec .rstnLow s = .next t ∧
     t.ResetValues ∧ t.inReset = true ∧ t.port.k = s.port.k ∧ t.port.executor = none ∧ t.port.held = [] ∧
     t.port.transfer = .idle ∧ t.port.stretched = false)

/-- The RESET command: reset values everywhere, Done in slot 0, slots 1 and 2 Empty, executor idle, holders empty and stretches
released; the strap value, the transfer in progress and its timer are kept; the gate, LOFF and the PLL's report are as they stand, and
a frame open on LDI is left to be discarded (R57, R80, R131, R138, R165, R176). -/
def Obligations.ResetCommand : Prop :=
  ∀ (s : State) (ps : List Byte) (found : ResetLevels), s.executing 0 codeReset ps → -40 ≤ found.temp → found.temp ≤ 125 →
    ∃ t, exec (.reset found) s = .next t ∧
      t.ResetValues ∧ t.inReset = false ∧ t.laser.temp = found.temp ∧ t.laser.overLimit = false ∧
      t.link.staleFrame = found.lfrm ∧
      t.gate.high = s.gate.high ∧ t.laser.loff = s.laser.loff ∧
      t.laser.clock = (if s.laser.pllLock then .locked else .unlocked) ∧
      t.port = { s.port with
        stretched := false, slots := #v[some ⟨.done, []⟩, none, none], executor := none, held := [] }

/-! ### Control port -/

/-- An address byte after a START, with no transfer in progress: the six level addresses and the general call for write are
acknowledged, no other is, and a level with a pending command is stretched (R156, R157, R163). With a transfer still open, the START
before it was a repeated one: the byte does what the end of that transfer and then the same byte do (assumption log 23). -/
def Obligations.AddressByteAnswered : Prop :=
  (∀ (s : State) (b : Byte), s.inReset = false → s.port.stretched = false → s.port.transfer ≠ .idle →
    ∃ ended, exec .writeTransferEnd s = .next ended ∧ ended.port.transfer = .idle ∧ ended.port.stretched = false ∧
      exec (.addressByte b) s = exec (.addressByte b) ended) ∧
  ∀ (s : State) (b : Byte), s.inReset = false → s.port.stretched = false → s.port.transfer = .idle →
    ∃ t, exec (.addressByte b) s = .next t ∧ t = s.withPort t.port ∧
      t.port = { s.port with
        transfer := t.port.transfer, ack := t.port.ack, stretched := t.port.stretched, busTimer := t.port.busTimer } ∧
      (∀ l : Level,
        (l = 0 ∧ b.toNat / 2 = 0x30 + 8 * s.port.k.toNat) ∨ (l = 1 ∧ b.toNat / 2 = 0x31 + 8 * s.port.k.toNat) ∨
          (l = 2 ∧ 0x34 + 8 * s.port.k.toNat ≤ b.toNat / 2 ∧ b.toNat / 2 ≤ 0x37 + 8 * s.port.k.toNat) →
        t.port.ack = true ∧ t.port.transfer = (if b.getLsbD 0 then .read l else .write l .empty) ∧
          t.port.stretched = s.port.isPending l) ∧
      (b = 0x00#8 → t.port.ack = true ∧ t.port.transfer = .generalCall false ∧ t.port.stretched = false) ∧
      (b ≠ 0x00#8 → b.toNat / 2 ≠ 0x30 + 8 * s.port.k.toNat → b.toNat / 2 ≠ 0x31 + 8 * s.port.k.toNat →
        ¬ (0x34 + 8 * s.port.k.toNat ≤ b.toNat / 2 ∧ b.toNat / 2 ≤ 0x37 + 8 * s.port.k.toNat) →
        t.port.ack = false ∧ t.port.transfer = .idle ∧ t.port.stretched = false)

/-- A write transfer, with the codes and lengths of section 12.1's table. A data byte: a known code and each parameter within its
length are acknowledged and kept; an unknown code and everything after it, and a byte beyond the length, are not. Its end: a probe
changes no slot; Unknown and Short are left in the slot without execution; a complete message goes to an idle executor, or waits in its
holder (R158, R160). -/
def Obligations.WriteTransferDecided : Prop :=
  (∀ (s : State) (l : Level) (b : Byte), s.inReset = false → s.port.stretched = false →
     (∀ n, s.port.transfer = .write l .empty → (b, n) ∈ messageTable →
       exec (.commandMessageByte b) s = .next (s.withPort (s.port.answer (.write l (.known b [])) true))) ∧
     (s.port.transfer = .write l .empty → (∀ n, (b, n) ∉ messageTable) →
       exec (.commandMessageByte b) s = .next (s.withPort (s.port.answer (.write l .unknown) false))) ∧
     (s.port.transfer = .write l .unknown →
       exec (.commandMessageByte b) s = .next (s.withPort (s.port.answer (.write l .unknown) false))) ∧
     (∀ code ps n, s.port.transfer = .write l (.known code ps) → (code, n) ∈ messageTable → ps.length < n →
       exec (.commandMessageByte b) s = .next (s.withPort (s.port.answer (.write l (.known code (ps ++ [b]))) true))) ∧
     (∀ code ps n, s.port.transfer = .write l (.known code ps) → (code, n) ∈ messageTable → n ≤ ps.length →
       exec (.commandMessageByte b) s = .next (s.withPort (s.port.answer (.write l (.known code ps)) false)))) ∧
  (∀ (s : State) (l : Level), s.inReset = false → s.port.stretched = false →
     (s.port.transfer = .write l .empty →
       exec .writeTransferEnd s = .next (s.withPort { s.port with transfer := .idle, busTimer := 0 })) ∧
     (s.port.transfer = .write l .unknown →
       exec .writeTransferEnd s = .next (s.withPort { s.port with
         transfer := .idle, busTimer := 0, slots := s.port.slots.set l.val (some ⟨.unknown, []⟩) })) ∧
     (∀ code ps n, s.port.transfer = .write l (.known code ps) → (code, n) ∈ messageTable → ps.length < n →
       exec .writeTransferEnd s = .next (s.withPort { s.port with
         transfer := .idle, busTimer := 0, slots := s.port.slots.set l.val (some ⟨.short, []⟩) })) ∧
     (∀ code ps n, s.port.transfer = .write l (.known code ps) → (code, n) ∈ messageTable → n ≤ ps.length →
       s.port.executor = none →
       exec .writeTransferEnd s = .next (s.withPort { s.port with
         transfer := .idle, busTimer := 0, executor := some ⟨l, code, ps, none⟩ })) ∧
     (∀ code ps n e, s.port.transfer = .write l (.known code ps) → (code, n) ∈ messageTable → n ≤ ps.length →
       s.port.executor = some e →
       exec .writeTransferEnd s = .next (s.withPort { s.port with
         transfer := .idle, busTimer := 0, held := s.port.held ++ [⟨l, code, ps⟩] })))

/-- A completion: the result replaces its slot and no other, the executor starts the command whose transfer ended first or becomes
idle, and a stretch on the slot's addresses, and no other, is released. The bytes a read returns: result code, length, data, then
0xFF, or the empty marker and a length of 0 for an Empty slot (R160, R162, R163). -/
def Obligations.CompletionFillsSlot : Prop :=
  (∀ (s : State) (l : Level) (code : Byte) (ps : List Byte) (r : Result),
     s.inReset = false → s.port.executor = some ⟨l, code, ps, some r⟩ →
       ∃ t, exec .commandCompletion s = .next t ∧ t = s.withPort t.port ∧
         t.port.slots[l] = some r ∧ (∀ m : Level, m ≠ l → t.port.slots[m] = s.port.slots[m]) ∧
         (s.port.held = [] → t.port.executor = none ∧ t.port.held = []) ∧
         (∀ h rest, s.port.held = h :: rest →
           t.port.executor = some ⟨h.level, h.code, h.params, none⟩ ∧ t.port.held = rest) ∧
         (t.port.stretched = true ↔ s.port.stretched = true ∧ s.port.transfer.level ≠ some l) ∧
         t.port.k = s.port.k ∧ t.port.transfer = s.port.transfer ∧ t.port.busTimer = s.port.busTimer) ∧
  (∀ (p : Port) (l : Level) (i : Nat),
     (p.slots[l] = none → p.readByte l i = if i = 0 then 0xFE#8 else if i = 1 then 0x00#8 else 0xFF#8) ∧
     (∀ r, p.slots[l] = some r → p.readByte l i =
       if i = 0 then r.code.byte else if i = 1 then byte1 r.data.length else r.data.getD (i - 2) 0xFF#8))

/-- The all-stop: 0xA5 as the first data byte of a general call is acknowledged and takes an on-state to Off with the queue
flushed with reason LaserOff, and leaves Off and Fault as they stand; as a later byte it is not acknowledged and changes nothing; no
slot, holder or executor is touched (R130, R159). Outside a general call the row stands for the address byte too (assumption
log 8). -/
def Obligations.AllStopActs : Prop :=
  ∀ s : State, s.inReset = false → s.port.stretched = false →
    (∀ taken, s.port.transfer = .generalCall taken → exec (.commandMessageByte 0xA5#8) s = exec .allStop s) ∧
    (s.port.transfer = .generalCall true → exec .allStop s = .next (s.withPort (s.port.answer (.generalCall true) false))) ∧
    (s.port.transfer = .generalCall false ∨ s.port.transfer = .idle → s.laser.state.on = true →
      ∃ t, exec .allStop s = .next t ∧ TurnedOff .laserOff (s.withPort t.port) t ∧ t.port.ack = true ∧
        t.port.slots = s.port.slots ∧ t.port.executor = s.port.executor ∧ t.port.held = s.port.held) ∧
    (s.port.transfer = .generalCall false ∨ s.port.transfer = .idle → s.laser.state.on = false →
      ∃ t, exec .allStop s = .next t ∧ t = s.withPort t.port ∧ t.port.ack = true ∧
        t.port.slots = s.port.slots ∧ t.port.executor = s.port.executor ∧ t.port.held = s.port.held)

/-- A bus timeout abandons a transfer addressed to the part and sets BUSTO, leaving the slots, the holders and the executor; the
part's own stretches, and other transfers, are not timed (R164). The request pulses as R173 says. The row acts whatever the time counted
(assumption log 3). -/
def Obligations.BusTimeoutAbandons : Prop :=
  ∀ s : State, s.inReset = false →
    (s.port.transfer ≠ .idle → s.port.stretched = false →
      ∃ t, exec .busTimeout s = .next t ∧ t = (s.withPort t.port).withAlert t.alert ∧
        t.port.transfer = .idle ∧ t.port.ack = false ∧ t.port.slots = s.port.slots ∧
        t.port.executor = s.port.executor ∧ t.port.held = s.port.held ∧ t.port.k = s.port.k ∧
        AlertRaised (fun f => decide (f = .busto)) s.alert t.alert) ∧
    (s.port.transfer = .idle ∨ s.port.stretched = true → exec .busTimeout s = .next s)

/-- A whole command message reaches the executor: address byte, code byte, every parameter byte and the end of the transfer, taken
one step each from the queue, leave the executor with that level, code and parameters, and nothing else changed but the port's
answer (R157, R158, R160). -/
def Obligations.MessageReachesExecutor : Prop :=
  ∀ (s : State) (address code : Byte) (l : Level) (ps : List Byte),
    s.inReset = false → s.port.stretched = false → s.port.transfer = .idle → s.port.executor = none → s.port.held = [] →
    addressed s.port.k address = some (.write l) → (code, ps.length) ∈ messageTable →
    s.pending = .addressByte address :: .commandMessageByte code :: ps.map .commandMessageByte ++ [.writeTransferEnd] →
      ∃ t, stepTimes (ps.length + 3) s = .next t ∧ t = (s.withPort t.port).withPending [] ∧
        t.port = { s.port with ack := true, busTimer := 0, executor := some ⟨l, code, ps, none⟩ }

/-! ### Zone table -/

/-- LOAD ZONE. A load that passes every check makes the slot Loaded with the carried fields and the rest at their start values, raises
the named strategy's count by one, and is Done with no data. The checks in their order, and the fields a passing message carries:
Range, Occupied, Overlap, WrongState, each with no change (R2, R9, R10). -/
def Obligations.LoadZone : Prop :=
  (∀ (s : State) (ps : List Byte), s.DeniedAbove 0 .loadZone codeLoadZone ps) ∧
  (∀ (s : State) (ps : List Byte) (d : ZoneLoad), s.executing 0 codeLoadZone ps → zoneLoadOf ps = some d →
     (s.zone d.slot).state = .free →
     (∀ i, (s.zone i).inUse = true → (s.zone i).layer = d.layer →
       ¬ (d.first ≤ (s.zone i).last ∧ (s.zone i).first ≤ d.last)) →
     (∀ k, d.strategy = some k → (s.strategy k).loaded = true) → (d.strategy = none → d.kind = .lead) →
       ∃ t, exec .loadZone s = .next (t.withResult ⟨.done, []⟩) ∧ t = (s.withZones t.zones).withStrategies t.strategies ∧
         t.zone d.slot =
           { state := .loaded, layer := d.layer, first := d.first, last := d.last, kind := d.kind, level := d.level,
             powers := d.powers, strategy := d.strategy, trim := 0, autoTrim := false, target := 0, deadband := 0,
             written := false, trimLimit := false, pins := 0 } ∧
         (∀ j, j ≠ d.slot → t.zone j = s.zone j) ∧
         (∀ k, t.strategy k =
           if d.strategy = some k then { s.strategy k with refs := (s.strategy k).refs + 1 } else s.strategy k)) ∧
  (∀ (s : State) (ps : List Byte), s.executing 0 codeLoadZone ps →
     let first := if (byteAt ps 2).getLsbD 0 then u24At ps 3 * 64 else u24At ps 3
     let last := if (byteAt ps 2).getLsbD 0 then u24At ps 6 * 64 + 63 else u24At ps 6
     let badRange := 127 < u8At ps 0 ∨ 3 < u8At ps 1 ∨ 4 < u8At ps 9 ∨ 1 < u8At ps 10 ∨
       (15 < u8At ps 23 ∧ u8At ps 23 ≠ 255) ∨ (∃ p ∈ [11, 13, 15, 17, 19, 21], 2000 < u16At ps p) ∨
       (u8At ps 9 = 0 ∧ u8At ps 23 ≠ 255) ∨ last < first + 255
     (badRange → exec .loadZone s = .next (s.withResult ⟨.range, []⟩)) ∧
     (¬ badRange → ∃ d, zoneLoadOf ps = some d ∧ d.slot.val = u8At ps 0 ∧ d.layer.val = u8At ps 1 ∧ d.first = first ∧
       d.last = last ∧ d.kind.byte = byteAt ps 9 ∧ d.level = u8At ps 10 ∧
       d.powers = ⟨u16At ps 11, u16At ps 13, u16At ps 15, u16At ps 17, u16At ps 19, u16At ps 21⟩ ∧
       d.strategy.map Fin.val = (if u8At ps 23 = 255 then none else some (u8At ps 23)) ∧
       ((s.zone d.slot).state ≠ .free → exec .loadZone s = .next (s.withResult ⟨.occupied, []⟩)) ∧
       ((s.zone d.slot).state = .free →
         (∃ i, (s.zone i).inUse = true ∧ (s.zone i).layer = d.layer ∧
           d.first ≤ (s.zone i).last ∧ (s.zone i).first ≤ d.last) →
         exec .loadZone s = .next (s.withResult ⟨.overlap, []⟩)) ∧
       ((s.zone d.slot).state = .free →
         (∀ i, (s.zone i).inUse = true → (s.zone i).layer = d.layer →
           ¬ (d.first ≤ (s.zone i).last ∧ (s.zone i).first ≤ d.last)) →
         (d.strategy = none ∧ d.kind ≠ .lead ∨ ∃ k, d.strategy = some k ∧ (s.strategy k).loaded = false) →
         exec .loadZone s = .next (s.withResult ⟨.wrongState, []⟩))))

/-- SET POWERS: Range, WrongState, or all six powers replaced, every other field of the table kept, and the change handed on
(R11, R15, R32). That the hand-off leaves the sets of a target without a
slot, whose translation a trigger has removed, is the model's choice (assumption log 18). -/
def Obligations.SetPowersReplaces : Prop :=
  ∀ (s : State) (ps : List Byte),
    s.DeniedAbove 0 .setPowers codeSetPowers ps ∧
    (s.executing 0 codeSetPowers ps →
      (127 < u8At ps 0 ∨ (∃ p ∈ [1, 3, 5, 7, 9, 11], 2000 < u16At ps p) →
        exec .setPowers s = .next (s.withResult ⟨.range, []⟩)) ∧
      (∀ i : ZoneSlot, i.val = u8At ps 0 → (∀ p ∈ [1, 3, 5, 7, 9, 11], u16At ps p ≤ 2000) →
        ((s.zone i).state = .free ∨ (s.zone i).state = .retiring →
          exec .setPowers s = .next (s.withResult ⟨.wrongState, []⟩)) ∧
        ((s.zone i).state ≠ .free → (s.zone i).state ≠ .retiring →
          ∃ t, exec .setPowers s = .next (t.withResult ⟨.done, []⟩) ∧ t = (s.withZones t.zones).withLevels t.levels ∧
            t.zone i = { s.zone i with
              powers := ⟨u16At ps 1, u16At ps 3, u16At ps 5, u16At ps 7, u16At ps 9, u16At ps 11⟩ } ∧
            (∀ j, j ≠ i → t.zone j = s.zone j) ∧ HandedOn i s t)))

/-- SET TRIM in both forms: Range, WrongState, or the trim saturated to -128..+127, the trim-limit flag clear, the result the
trim, no request raised, and the change handed on (R12, R15, R32). That the hand-off leaves the sets of a target without a
slot, whose translation a trigger has removed, is the model's choice (assumption log 18). -/
def Obligations.SetTrimSaturates : Prop :=
  (∀ (s : State) (ps : List Byte),
     s.DeniedAbove 0 .setTrimAbsolute codeSetTrimAbsolute ps ∧ s.DeniedAbove 0 .setTrimShort codeSetTrimShort ps) ∧
  (∀ (s : State) (ps : List Byte) (c : Instr) (code : Byte) (i : ZoneSlot) (v : Int),
     (c = .setTrimAbsolute ∧ code = codeSetTrimAbsolute ∧ v = s16At ps 1) ∨
       (c = .setTrimShort ∧ code = codeSetTrimShort ∧ v = (s.zone i).trim + s8At ps 1) →
     s.executing 0 code ps →
       let trim : Int := if v < -128 then -128 else if 127 < v then 127 else v
       (127 < u8At ps 0 → exec c s = .next (s.withResult ⟨.range, []⟩)) ∧
       (i.val = u8At ps 0 → (s.zone i).state = .free ∨ (s.zone i).state = .retiring →
         exec c s = .next (s.withResult ⟨.wrongState, []⟩)) ∧
       (i.val = u8At ps 0 → (s.zone i).state ≠ .free → (s.zone i).state ≠ .retiring →
         ∃ t, exec c s = .next (t.withResult ⟨.done, [sbyte1 trim]⟩) ∧ t = (s.withZones t.zones).withLevels t.levels ∧
           t.zone i = { s.zone i with trim := trim, trimLimit := false } ∧
           (∀ j, j ≠ i → t.zone j = s.zone j) ∧ HandedOn i s t))

/-- SET AUTOTRIM: Range, WrongState, or the setting stored with its target saturated to -100..+100 and its deadband to 0..20, the
trim-limit flag clear and the trim kept (R14). -/
def Obligations.SetAutotrimStores : Prop :=
  ∀ (s : State) (ps : List Byte),
    s.DeniedAbove 0 .setAutotrim codeSetAutotrim ps ∧
    (s.executing 0 codeSetAutotrim ps →
      let target : Int := if s16At ps 2 < -100 then -100 else if 100 < s16At ps 2 then 100 else s16At ps 2
      let deadband := if 20 < u8At ps 4 then 20 else u8At ps 4
      let on := (byteAt ps 1).getLsbD 0
      (127 < u8At ps 0 → exec .setAutotrim s = .next (s.withResult ⟨.range, []⟩)) ∧
      (∀ i : ZoneSlot, i.val = u8At ps 0 →
        ((s.zone i).state = .free ∨ (s.zone i).state = .retiring →
          exec .setAutotrim s = .next (s.withResult ⟨.wrongState, []⟩)) ∧
        ((s.zone i).state ≠ .free → (s.zone i).state ≠ .retiring →
          ∃ t, exec .setAutotrim s = .next (t.withResult ⟨.done, [flagByte on, sbyte1 target, byte1 deadband]⟩) ∧
            t = s.withZones t.zones ∧
            t.zone i = { s.zone i with autoTrim := on, target := target, deadband := deadband, trimLimit := false } ∧
            (∀ j, j ≠ i → t.zone j = s.zone j))))

/-- MARK PRESENT returns an Absent slot, and REOPEN ZONE a Closed slot that is not of type Once, to Loaded with every field kept;
any other slot is refused and nothing changes (R17, R19). -/
def Obligations.PresentAndReopen : Prop :=
  ∀ (s : State) (ps : List Byte) (i : ZoneSlot),
    s.DeniedAbove 0 .markPresent codeMarkPresent ps ∧
    s.DeniedAbove 0 .reopenZone codeReopenZone ps ∧
    (s.executing 0 codeMarkPresent ps →
      (127 < u8At ps 0 → exec .markPresent s = .next (s.withResult ⟨.range, []⟩)) ∧
      (i.val = u8At ps 0 → (s.zone i).state ≠ .absent → exec .markPresent s = .next (s.withResult ⟨.wrongState, []⟩)) ∧
      (i.val = u8At ps 0 → (s.zone i).state = .absent →
        ∃ t, exec .markPresent s = .next (t.withResult ⟨.done, []⟩) ∧ t = s.withZones t.zones ∧
          t.zone i = { s.zone i with state := .loaded } ∧ ∀ j, j ≠ i → t.zone j = s.zone j)) ∧
    (s.executing 0 codeReopenZone ps →
      (127 < u8At ps 0 → exec .reopenZone s = .next (s.withResult ⟨.range, []⟩)) ∧
      (i.val = u8At ps 0 → (s.zone i).state ≠ .closed ∨ (s.zone i).kind = .once →
        exec .reopenZone s = .next (s.withResult ⟨.wrongState, []⟩)) ∧
      (i.val = u8At ps 0 → (s.zone i).state = .closed → (s.zone i).kind ≠ .once →
        ∃ t, exec .reopenZone s = .next (t.withResult ⟨.done, []⟩) ∧ t = s.withZones t.zones ∧
          t.zone i = { s.zone i with state := .loaded } ∧ ∀ j, j ≠ i → t.zone j = s.zone j))

/-- The refusals of MARK ABSENT, CLOSE ZONE and RELEASE ZONE, in their order, each with no change (R16, R18, R20). -/
def Obligations.ZoneTriggersRefused : Prop :=
  ∀ (s : State) (l : Level) (ps : List Byte) (i : ZoneSlot),
    (s.executing 0 codeMarkAbsent ps →
      (127 < u8At ps 0 → exec .markAbsent s = .next (s.withResult ⟨.range, []⟩)) ∧
      (i.val = u8At ps 0 → (s.zone i).state ≠ .loaded → exec .markAbsent s = .next (s.withResult ⟨.wrongState, []⟩))) ∧
    (s.executing l codeCloseZone ps → l ≤ 1 →
      (127 < u8At ps 0 → exec .closeZone s = .next (s.withResult ⟨.range, []⟩)) ∧
      (i.val = u8At ps 0 →
        ((s.zone i).state ≠ .loaded ∨ (s.zone i).kind = .lead ∨ (s.zone i).kind = .test ∨ (s.zone i).kind = .spare →
          exec .closeZone s = .next (s.withResult ⟨.wrongState, []⟩)) ∧
        ((s.zone i).state = .loaded → (s.zone i).kind = .once ∨ (s.zone i).kind = .rewrite → (s.zone i).level < l.val →
          exec .closeZone s = .next (s.withResult ⟨.denied, []⟩)))) ∧
    (s.executing 0 codeReleaseZone ps →
      (127 < u8At ps 0 → exec .releaseZone s = .next (s.withResult ⟨.range, []⟩)) ∧
      (i.val = u8At ps 0 → (s.zone i).state = .free ∨ (s.zone i).state = .retiring →
        exec .releaseZone s = .next (s.withResult ⟨.wrongState, []⟩)))

/-- MARK ABSENT makes a Loaded slot Absent with every field but its pins kept, and cuts every translated entry naming the slot before
its first block in the range not begun. CLOSE ZONE, from a level not above the zone's, makes a Loaded Once or Rewrite slot Closed, and
cuts every translated Write and Calibrate entry naming the slot, leaving Read entries alone. The laser, the write path and the monitor
go on (R6, R7, R16, R18, R94). -/
def Obligations.MarkAbsentAndCloseZoneCut : Prop :=
  (∀ (s : State) (ps : List Byte) (i : ZoneSlot), s.QueueOrdered → s.executing 0 codeMarkAbsent ps → i.val = u8At ps 0 →
     (s.zone i).state = .loaded →
       ∃ t, exec .markAbsent s = .next (t.withResult ⟨.done, []⟩) ∧
         t.zone i = { s.zone i with state := .absent, pins := (t.zone i).pins } ∧
         ZoneCut i .absent (fun e => e.translated && e.names i) s t ∧
         TriggerFrame [i] (s.cutRevokes .absent (s.zone i).first (s.zone i).last fun e => e.translated && e.names i) s t) ∧
  (∀ (s : State) (l : Level) (ps : List Byte) (i : ZoneSlot), s.QueueOrdered → s.executing l codeCloseZone ps → l ≤ 1 →
     i.val = u8At ps 0 → (s.zone i).state = .loaded → (s.zone i).kind = .once ∨ (s.zone i).kind = .rewrite →
     l.val ≤ (s.zone i).level →
       ∃ t, exec .closeZone s = .next (t.withResult ⟨.done, []⟩) ∧
         t.zone i = { s.zone i with state := .closed, pins := (t.zone i).pins } ∧
         ZoneCut i .closed (fun e => e.writes && e.translated && e.names i) s t ∧
         TriggerFrame [i] (s.cutRevokes .closed (s.zone i).first (s.zone i).last
           fun e => e.writes && e.translated && e.names i) s t)

/-- RELEASE ZONE cuts every translated entry naming the slot, and makes the slot Free when no pin is left, else Retiring with its
fields kept; the result carries the state and the pins (R6, R7, R20). -/
def Obligations.ReleaseZoneFrees : Prop :=
  ∀ (s : State) (ps : List Byte) (i : ZoneSlot), s.QueueOrdered → s.executing 0 codeReleaseZone ps → i.val = u8At ps 0 →
    (s.zone i).inUse = true →
      ∃ t data, exec .releaseZone s = .next (t.withResult ⟨.done, data⟩) ∧
        (t.zone i = Zone.freeContent ∧ data = [0x00#8, 0x00#8] ∨
          t.zone i = { s.zone i with state := .retiring, pins := (t.zone i).pins } ∧ 0 < (t.zone i).pins ∧
            data = [0x04#8, byte1 (t.zone i).pins]) ∧
        ((s.zone i).pins = 0 → t.zone i = Zone.freeContent) ∧
        ZoneCut i .released (fun e => e.translated && e.names i) s t ∧
        TriggerFrame [i] (s.cutRevokes .released (s.zone i).first (s.zone i).last fun e => e.translated && e.names i) s t

/-- SWEEP lists, in ascending order, exactly the slots of the layer whose Written flag is set, clears those flags and changes
nothing else (R26). -/
def Obligations.SweepCollects : Prop :=
  ∀ (s : State) (ps : List Byte),
    s.DeniedAbove 0 .sweep codeSweep ps ∧
    (s.executing 0 codeSweep ps →
      (3 < u8At ps 0 → exec .sweep s = .next (s.withResult ⟨.range, []⟩)) ∧
      (∀ layer : LayerNo, layer.val = u8At ps 0 →
        ∃ (t : State) (slots : List ZoneSlot),
          exec .sweep s = .next (t.withResult ⟨.done, byte1 slots.length :: slots.map fun i => byte1 i.val⟩) ∧
          t = s.withZones t.zones ∧ slots.Pairwise (fun a b : ZoneSlot => a < b) ∧
          (∀ i, i ∈ slots ↔ (s.zone i).layer = layer ∧ (s.zone i).written = true) ∧
          ((∀ i, (s.zone i).state = .free → (s.zone i).written = false) → ∀ i ∈ slots, (s.zone i).state ≠ .free) ∧
          (∀ i, t.zone i = if i ∈ slots then { s.zone i with written := false } else s.zone i)))

/-- Every read command, from every level, answers with what stands at its instant and changes nothing; its data are the fields of
section 12.1 and the records of section 12.3, byte by byte (R24, R25, R51, R104, R112, R122, R141, R174, R175, R178). A timer that has
reached 0 before its row still reports 1 (assumption log 3); that READ STREAM's last-served-present byte is 1 for present and 0 for
absent is the model's choice (assumption log 36). -/
def Obligations.ReadCommandsReport : Prop :=
  let byte := fun n : Nat => BitVec.ofNat 8 n
  let word := fun n : Nat => [byte (n / 256), byte n]
  let long := fun n : Nat => [byte (n / 16777216), byte (n / 65536), byte (n / 256), byte n]
  let signed := fun i : Int => BitVec.ofInt 8 i
  let signedWord := fun i : Int => [BitVec.ofInt 8 (i / 256), BitVec.ofInt 8 i]
  let bit := fun (b : Bool) (n : Nat) => if b then n else 0
  let zoneState := fun | ZoneState.free => 0 | .loaded => 1 | .absent => 2 | .closed => 3 | .retiring => 4
  let zoneType := fun | ZoneKind.lead => 0 | .test => 1 | .spare => 2 | .once => 3 | .rewrite => 4
  let streamMode := fun | StreamMode.closed => 0 | .playback => 1 | .record => 2
  let laserState := fun | LaserState.off => 0 | .standby => 1 | .idle => 2 | .reading => 3 | .writing => 4 | .fault => 5
  let cause := fun | FaultCause.none => 0 | .monitorMismatch => 1 | .overTemp => 2 | .gateStuck => 3
  let layerAndBlock := fun place : Option (LayerNo × Nat) => match place with
    | some (layer, block) => byte layer.val :: long block
    | none => byte 0 :: long 0
  let widths := fun w : ClassWidths => [byte w.dF, byte w.wF, byte w.wM, byte w.wL, byte w.wC]
  ∀ (s : State) (l : Level) (ps : List Byte),
    (s.executing l codeReadZone ps → (127 < u8At ps 0 → exec .readZone s = .next (s.withResult ⟨.range, []⟩)) ∧
      ∀ i : ZoneSlot, i.val = u8At ps 0 →
        let z := s.zone i
        exec .readZone s = .next (s.withResult ⟨.done,
          [byte i.val, byte (zoneState z.state), byte z.layer.val] ++ long z.first ++ long z.last ++
            [byte (zoneType z.kind), byte z.level] ++ word z.powers.pr ++ word z.powers.pwi ++ word z.powers.pwo ++
            word z.powers.pei ++ word z.powers.peo ++ word z.powers.pb ++
            [byte (match z.strategy with | some k => k.val | none => 255), signed z.trim,
             byte (bit z.autoTrim 1 + bit z.written 2 + bit z.trimLimit 4), signed z.target, byte z.deadband, byte z.pins]⟩)) ∧
    (s.executing l codeReadStrategy ps →
      (15 < u8At ps 0 → exec .readStrategy s = .next (s.withResult ⟨.range, []⟩)) ∧
      ∀ k : StrategySlot, k.val = u8At ps 0 →
        let t := s.strategy k
        exec .readStrategy s = .next (s.withResult ⟨.done,
          [byte (bit t.loaded 1), byte t.refs] ++ widths t.record.c2 ++ widths t.record.c3 ++ widths t.record.c4 ++
            widths t.record.c5⟩)) ∧
    (s.executing l codeReadStream ps → (3 < u8At ps 0 → exec .readStream s = .next (s.withResult ⟨.range, []⟩)) ∧
      ∀ n : StreamNo, n.val = u8At ps 0 →
        let t := s.stream n
        exec .readStream s = .next (s.withResult ⟨.done,
          [byte (streamMode t.mode), byte t.owner] ++ long t.served ++ long t.skipped ++
            [byte (bit t.lastServed.isSome 1)] ++ layerAndBlock t.lastServed⟩)) ∧
    (s.executing l codeListGuards ps →
      exec .listGuards s = .next (s.withResult ⟨.done, byte s.guards.length :: s.guards.flatMap fun g =>
        [byte g.layer.val] ++ long g.first ++ long g.last ++ [byte g.setBy]⟩)) ∧
    (s.executing l codeReadPickup ps →
      let motion := match s.pickup.motion with
        | .settled layer => [byte 0, byte layer.val, byte 0] ++ word 0
        | .moving source target left => [byte 1, byte target.val, byte source.val] ++ word (if left = 0 then 1 else left)
      let high := match s.pickup.motion with
        | .settled _ => true
        | .moving _ _ _ => false
      let record := fun layer : LayerNo =>
        let r := s.layerRecord layer
        [byte (bit r.loaded 1)] ++ word r.sa ++ signedWord r.fo ++ word r.settle
      exec .readPickup s = .next (s.withResult ⟨.done,
        motion ++ word s.pickup.sa ++ signedWord s.pickup.fo ++ [byte (bit high 1)] ++
          record 0 ++ record 1 ++ record 2 ++ record 3⟩)) ∧
    (s.executing l codeReadLaser ps →
      let r := s.laser.faultRecord
      let warmUp := match s.laser.state, s.laser.warmUp with
        | .standby, some us => if us = 0 then 1 else (us + 999) / 1000
        | _, _ => 0
      exec .readLaser s = .next (s.withResult ⟨.done,
        [byte (laserState s.laser.state), signed s.laser.temp,
         byte (bit s.laser.overLimit 1 + bit s.laser.warnArmed 2 + bit s.laser.loff 4 +
           bit (decide (s.laser.clock = .locked)) 8 + bit s.laser.modelLoaded 16 + bit s.laser.ceilingsLoaded 32),
         byte warmUp, signed s.monitor.apc, byte s.monitor.mismatch,
         byte (cause r.cause), byte (match r.left with | some state => laserState state | none => 0),
         byte (bit r.block.isSome 1 + bit r.further 2)] ++ layerAndBlock r.block⟩)) ∧
    (s.executing l codeReadEvents ps →
      exec .readEvents s = .next (s.withResult ⟨.done, word s.alert.requests.toNat ++ word s.alert.permissions.toNat ++
        [byte (if s.alert.mode = .pulse then 1 else 0), byte (bit s.alert.active 1)]⟩)) ∧
    (s.executing l codeInquire ps →
      exec .inquire s = .next (s.withResult
        (if u8At ps 0 = 0 then ⟨.done, [0x01#8, 0x0E#8, 0x24#8]⟩
         else if u8At ps 0 = 1 then ⟨.done, [128#8, 16#8, 16#8, 4#8, 4#8, 8#8]⟩
         else ⟨.range, []⟩)))

/-- FIND ZONE: the one descriptor, Loaded, Absent or Closed, that covers the block, with its state; Nothing when none does; Range
outside the layers and the block space; nothing changes (R3, R25). -/
def Obligations.FindZoneLooksUp : Prop :=
  ∀ (s : State) (l : Level) (ps : List Byte) (layer : LayerNo), s.ZonesDisjoint → s.executing l codeFindZone ps →
    (3 < u8At ps 0 ∨ 1073741823 < u32At ps 1 → exec .findZone s = .next (s.withResult ⟨.range, []⟩)) ∧
    (layer.val = u8At ps 0 → u32At ps 1 ≤ 1073741823 →
      (∀ i, (s.zone i).inUse = true → (s.zone i).layer = layer → (s.zone i).first ≤ u32At ps 1 →
        u32At ps 1 ≤ (s.zone i).last →
        exec .findZone s = .next (s.withResult ⟨.done, [byte1 i.val, (s.zone i).state.byte]⟩)) ∧
      ((∀ i, (s.zone i).inUse = true → (s.zone i).layer = layer → (s.zone i).first ≤ u32At ps 1 →
        (s.zone i).last < u32At ps 1) →
        exec .findZone s = .next (s.withResult ⟨.nothing, []⟩)))

/-! ### Strategies, streams and guard ranges -/

/-- LOAD STRATEGY: Range, Occupied, or the slot Loaded with the twenty widths in message order and count 0; RELEASE STRATEGY:
Range, WrongState, InUse, or the Free content; no other slot and no other block changes (R46, R48, R50). -/
def Obligations.StrategySlotsLoadAndFree : Prop :=
  ∀ (s : State) (ps : List Byte),
    let badWidths := (∃ c ∈ [1, 6, 11, 16], 15 < u8At ps c ∨ u8At ps (c + 1) < 2 ∨ 32 < u8At ps (c + 1) ∨
      u8At ps (c + 2) < 2 ∨ 14 < u8At ps (c + 2) ∨ 16 < u8At ps (c + 3) ∨ 32 < u8At ps (c + 4)) ∨
      32 < u8At ps 1 + u8At ps 2 ∨ 32 < u8At ps 6 + u8At ps 7
    s.DeniedAbove 0 .loadStrategy codeLoadStrategy ps ∧ s.DeniedAbove 0 .releaseStrategy codeReleaseStrategy ps ∧
    (s.executing 0 codeLoadStrategy ps →
      (15 < u8At ps 0 ∨ badWidths → exec .loadStrategy s = .next (s.withResult ⟨.range, []⟩)) ∧
      (∀ k : StrategySlot, k.val = u8At ps 0 → ¬ badWidths →
        ((s.strategy k).loaded = true → exec .loadStrategy s = .next (s.withResult ⟨.occupied, []⟩)) ∧
        ((s.strategy k).loaded = false →
          ∃ t, exec .loadStrategy s = .next (t.withResult ⟨.done, []⟩) ∧ t = s.withStrategies t.strategies ∧
            (t.strategy k).loaded = true ∧ (t.strategy k).refs = 0 ∧
            (t.strategy k).record.bytes = (List.range 20).map (fun j => byteAt ps (j + 1)) ∧
            ∀ j, j ≠ k → t.strategy j = s.strategy j))) ∧
    (s.executing 0 codeReleaseStrategy ps →
      (15 < u8At ps 0 → exec .releaseStrategy s = .next (s.withResult ⟨.range, []⟩)) ∧
      (∀ k : StrategySlot, k.val = u8At ps 0 →
        ((s.strategy k).loaded = false → exec .releaseStrategy s = .next (s.withResult ⟨.wrongState, []⟩)) ∧
        ((s.strategy k).loaded = true → 0 < (s.strategy k).refs →
          exec .releaseStrategy s = .next (s.withResult ⟨.inUse, []⟩)) ∧
        ((s.strategy k).loaded = true → (s.strategy k).refs = 0 →
          ∃ t, exec .releaseStrategy s = .next (t.withResult ⟨.done, []⟩) ∧ t = s.withStrategies t.strategies ∧
            t.strategy k = Strategy.freeContent ∧ ∀ j, j ≠ k → t.strategy j = s.strategy j)))

/-- OPEN STREAM: Range, Occupied, or the mode as carried, the requester's level as owner, both counters 0 and last served absent;
nothing is revoked and no other stream changes (R100). -/
def Obligations.OpenStreamOpens : Prop :=
  (∀ (s : State) (ps : List Byte), s.DeniedAbove 1 .openStream codeOpenStream ps) ∧
  (∀ (s : State) (l : Level) (ps : List Byte), s.executing l codeOpenStream ps → l ≤ 1 →
     (3 < u8At ps 0 ∨ (u8At ps 1 ≠ 1 ∧ u8At ps 1 ≠ 2) → exec .openStream s = .next (s.withResult ⟨.range, []⟩)) ∧
     (∀ n : StreamNo, n.val = u8At ps 0 → u8At ps 1 = 1 ∨ u8At ps 1 = 2 →
       ((s.stream n).mode ≠ .closed → exec .openStream s = .next (s.withResult ⟨.occupied, []⟩)) ∧
       ((s.stream n).mode = .closed →
         ∃ t, exec .openStream s = .next (t.withResult ⟨.done, [byteAt ps 1, byte1 l.val]⟩) ∧
           t = s.withStreams t.streams ∧
           t.stream n = { mode := if u8At ps 1 = 1 then .playback else .record, owner := l.val, served := 0, skipped := 0,
                          lastServed := none } ∧
           ∀ m, m ≠ n → t.stream m = s.stream m)))

/-- CLOSE STREAM: Range, WrongState, Denied, or the mode Closed with owner, counters and last served kept, the counters returned, and
every entry of the stream cut before its next block. ABORT: every entry of the scope's stream, or with the all scope every entry, is cut
before its next block with reason Aborted, and stream contexts stay; another scope byte is a malformed message; the frame is one that
began after the last reset (R58, R69 to R73, R94, R102). -/
def Obligations.CloseStreamAndAbortRevoke : Prop :=
  (∀ (s : State) (ps : List Byte), s.DeniedAbove 1 .closeStream codeCloseStream ps) ∧
  (∀ (s : State) (l : Level) (ps : List Byte), s.QueueOrdered → s.executing l codeCloseStream ps → l ≤ 1 →
     (3 < u8At ps 0 → exec .closeStream s = .next (s.withResult ⟨.range, []⟩)) ∧
     (∀ n : StreamNo, n.val = u8At ps 0 →
       ((s.stream n).mode = .closed → exec .closeStream s = .next (s.withResult ⟨.wrongState, []⟩)) ∧
       ((s.stream n).mode ≠ .closed → (s.stream n).owner < l.val →
         exec .closeStream s = .next (s.withResult ⟨.denied, []⟩)) ∧
       ((s.stream n).mode ≠ .closed → l.val ≤ (s.stream n).owner →
         ∃ t, exec .closeStream s =
             .next (t.withResult ⟨.done, bytes4 (s.stream n).served ++ bytes4 (s.stream n).skipped⟩) ∧
           t.stream n = { s.stream n with mode := .closed } ∧ (∀ m, m ≠ n → t.stream m = s.stream m) ∧
           EntriesCut .streamClosed (fun e => decide (e.stream = n)) s t ∧
           TriggerFrame [] (s.endRevokes .streamClosed fun e => decide (e.stream = n)) (s.withStreams t.streams) t))) ∧
  (∀ (s : State) (scope : Byte), s.QueueOrdered → s.inReset = false → s.link.staleFrame = false →
     (scope.toNat < 4 → ∃ t, exec (.abort scope) s = .next t ∧
       EntriesCut .aborted (fun e => decide (e.stream.val = scope.toNat)) s t ∧
       TriggerFrame [] (s.endRevokes .aborted fun e => decide (e.stream.val = scope.toNat)) s t) ∧
     (scope = 0xFF#8 → ∃ t, exec (.abort scope) s = .next t ∧
       EntriesCut .aborted (fun _ => true) s t ∧
       TriggerFrame [] (s.endRevokes .aborted fun _ => true) s t) ∧
     (4 ≤ scope.toNat → scope ≠ 0xFF#8 → exec (.abort scope) s = .next (s.raise .linkerr)))

/-- ADD GUARD: Range, Full, Overlap, Denied over a system zone for level 1, or the range listed behind every range that comes before it
in the order, and the Write and Calibrate runs on its layer cut before their first block in it. REMOVE GUARD: Range, Nothing, Denied,
or the first listed range of that layer and first block leaves the list, the others keeping their order; nothing is revoked
(R106 to R109, R111). -/
def Obligations.GuardListChanges : Prop :=
  (∀ (s : State) (ps : List Byte),
     s.DeniedAbove 1 .addGuard codeAddGuard ps ∧ s.DeniedAbove 1 .removeGuard codeRemoveGuard ps) ∧
  (∀ (s : State) (l : Level) (ps : List Byte), s.QueueOrdered → s.executing l codeAddGuard ps → l ≤ 1 →
     let first := u32At ps 1
     let last := u32At ps 5
     (3 < u8At ps 0 ∨ 1073741823 < first ∨ 1073741823 < last ∨ last < first →
       exec .addGuard s = .next (s.withResult ⟨.range, []⟩)) ∧
     (∀ layer : LayerNo, layer.val = u8At ps 0 → first ≤ last → last ≤ 1073741823 →
       let overlaps := ∃ g ∈ s.guards, g.layer = layer ∧ first ≤ g.last ∧ g.first ≤ last
       let fenced := ∃ i, (s.zone i).inUse = true ∧ (s.zone i).level = 0 ∧ (s.zone i).layer = layer ∧
         first ≤ (s.zone i).last ∧ (s.zone i).first ≤ last
       (16 ≤ s.guards.length → exec .addGuard s = .next (s.withResult ⟨.full, []⟩)) ∧
       (s.guards.length < 16 → overlaps → exec .addGuard s = .next (s.withResult ⟨.overlap, []⟩)) ∧
       (s.guards.length < 16 → ¬ overlaps → l = 1 → fenced → exec .addGuard s = .next (s.withResult ⟨.denied, []⟩)) ∧
       (s.guards.length < 16 → ¬ overlaps → ¬ (l = 1 ∧ fenced) →
         ∃ t before after, exec .addGuard s = .next (t.withResult ⟨.done, [byte1 (s.guards.length + 1)]⟩) ∧
           s.guards = before ++ after ∧ t.guards = before ++ ⟨layer, first, last, l.val⟩ :: after ∧
           (∀ h ∈ before, h.layer < layer ∨ h.layer = layer ∧ h.first < first) ∧
           (∀ h, after.head? = some h → ¬ (h.layer < layer ∨ h.layer = layer ∧ h.first < first)) ∧
           RunsCut .guarded first last (fun e => e.translated && e.writes && decide (e.layer = layer)) s t ∧
           TriggerFrame [] (s.cutRevokes .guarded first last fun e => e.translated && e.writes && decide (e.layer = layer))
             (s.withGuards t.guards) t))) ∧
  (∀ (s : State) (l : Level) (ps : List Byte), s.executing l codeRemoveGuard ps → l ≤ 1 →
     (3 < u8At ps 0 ∨ 1073741823 < u32At ps 1 → exec .removeGuard s = .next (s.withResult ⟨.range, []⟩)) ∧
     (u8At ps 0 ≤ 3 → u32At ps 1 ≤ 1073741823 →
       ((∀ g ∈ s.guards, ¬ (g.layer.val = u8At ps 0 ∧ g.first = u32At ps 1)) →
         exec .removeGuard s = .next (s.withResult ⟨.nothing, []⟩)) ∧
       (∀ before g after, s.guards = before ++ g :: after → g.layer.val = u8At ps 0 → g.first = u32At ps 1 →
         (∀ h ∈ before, ¬ (h.layer.val = u8At ps 0 ∧ h.first = u32At ps 1)) →
         (g.setBy < l.val → exec .removeGuard s = .next (s.withResult ⟨.denied, []⟩)) ∧
         (l.val ≤ g.setBy → exec .removeGuard s =
           .next ((s.withGuards (before ++ after)).withResult ⟨.done, [byte1 (before ++ after).length]⟩)))))

/-! ### Pickup -/

/-- LOAD LAYER: Range, WrongState for the target of a move, LaserActive for the settled layer with the laser not Off; else the record
takes the values, and for the settled layer a re-settle starts with them. A settle end leaves the pickup Settled on the target with its
outputs, or at once Moving to the layer of the oldest Accepted entry when the laser is Idle, no entry is Current and that layer is
another (R116 to R119). -/
def Obligations.PickupLoadsAndSettles : Prop :=
  (∀ (s : State) (ps : List Byte), s.DeniedAbove 0 .loadLayer codeLoadLayer ps) ∧
  (∀ (s : State) (ps : List Byte), s.executing 0 codeLoadLayer ps →
     let badRange := 3 < u8At ps 0 ∨ 4095 < u16At ps 1 ∨ s16At ps 3 < -512 ∨ 511 < s16At ps 3 ∨ u16At ps 5 < 50 ∨
       5000 < u16At ps 5
     let r : LayerRecord := ⟨true, u16At ps 1, s16At ps 3, u16At ps 5⟩
     (badRange → exec .loadLayer s = .next (s.withResult ⟨.range, []⟩)) ∧
     (∀ i : LayerNo, i.val = u8At ps 0 → ¬ badRange →
       (∀ source left, s.pickup.motion = .moving source i left →
         exec .loadLayer s = .next (s.withResult ⟨.wrongState, []⟩)) ∧
       (s.pickup.motion = .settled i → s.laser.state ≠ .off →
         exec .loadLayer s = .next (s.withResult ⟨.laserActive, []⟩)) ∧
       ((∃ source target left, s.pickup.motion = .moving source target left ∧ target ≠ i) ∨
           (∃ layer, s.pickup.motion = .settled layer ∧ layer ≠ i) →
         ∃ t, exec .loadLayer s = .next (t.withResult ⟨.done, [if s.pickup.lrdy then 0x00#8 else 0x01#8]⟩) ∧
           t = s.withPickup { s.pickup with layers := t.pickup.layers } ∧ t.layerRecord i = r ∧
           ∀ j, j ≠ i → t.layerRecord j = s.layerRecord j) ∧
       (s.pickup.motion = .settled i → s.laser.state = .off →
         ∃ t, exec .loadLayer s = .next (t.withResult ⟨.done, [0x01#8]⟩) ∧ t = s.withPickup t.pickup ∧
           t.pickup.motion = .moving i i r.settle ∧ t.pickup.sa = r.sa ∧ t.pickup.fo = r.fo ∧ t.pickup.lrdy = false ∧
           t.layerRecord i = r ∧ ∀ j, j ≠ i → t.layerRecord j = s.layerRecord j))) ∧
  (∀ (s : State) (source target : LayerNo), s.inReset = false →
     s.pickup.motion = .moving source target 0 →
       (∀ e, s.queue.find? (fun e => decide (e.state = .accepted)) = some e → e.layer ≠ target → s.laser.state = .idle →
         (∀ f ∈ s.queue, f.state ≠ .current) →
         exec .settleEnd s = .next (s.withPickup { s.pickup with
           motion := .moving target e.layer (s.layerRecord e.layer).settle, sa := (s.layerRecord e.layer).sa,
           fo := (s.layerRecord e.layer).fo })) ∧
       (s.laser.state ≠ .idle ∨ (∃ f ∈ s.queue, f.state = .current) ∨ (∀ f ∈ s.queue, f.state ≠ .accepted) ∨
           (∃ e, s.queue.find? (fun e => decide (e.state = .accepted)) = some e ∧ e.layer = target) →
         exec .settleEnd s = .next (s.withPickup { s.pickup with motion := .settled target })))

/-! ### Laser -/

/-- LOAD LASER MODEL and LOAD CEILINGS: Range, LaserActive, or the seven fields replaced and the loaded mark set; the latest sample
is marked against the new Tlim, and the temperature warning is armed (R126, R127, R133, R137). -/
def Obligations.LaserRecordsLoad : Prop :=
  ∀ (s : State) (ps : List Byte),
    let badModel := 1000 < u16At ps 0 ∨ u16At ps 3 < 100 ∨ 3000 < u16At ps 3 ∨ 127 < u8At ps 5 ∨
      u16At ps 6 < 1 ∨ 4095 < u16At ps 6 ∨ u8At ps 8 < 1 ∨ 100 < u8At ps 8 ∨ u8At ps 9 < 40 ∨ 125 < u8At ps 9
    let badCeilings := 2000 < u16At ps 0 ∨ 2047 < u16At ps 2 ∨ 2000 < u16At ps 4 ∨ u8At ps 6 < 30 ∨ 125 < u8At ps 6 ∨
      u8At ps 7 < 5 ∨ 200 < u8At ps 7 ∨ u8At ps 8 ∉ [1, 2, 4, 8] ∨ u8At ps 9 < 2 ∨ 25 < u8At ps 9
    (s.executing 0 codeLoadLaserModel ps →
      (badModel → exec .loadLaserModel s = .next (s.withResult ⟨.range, []⟩)) ∧
      (¬ badModel → s.laser.state ≠ .off → exec .loadLaserModel s = .next (s.withResult ⟨.laserActive, []⟩)) ∧
      (¬ badModel → s.laser.state = .off → exec .loadLaserModel s = .next ((s.withLaser { s.laser with
        model := { ith25 := u16At ps 0, kth := u8At ps 2, eta25 := u16At ps 3, keta := u8At ps 5, gain := u16At ps 6,
                   warmUpMs := u8At ps 8, tlim := u8At ps 9 }
        modelLoaded := true
        overLimit := decide ((u8At ps 9 : Int) ≤ s.laser.temp) }).withResult ⟨.done, []⟩))) ∧
    (s.executing 0 codeLoadCeilings ps →
      (badCeilings → exec .loadCeilings s = .next (s.withResult ⟨.range, []⟩)) ∧
      (¬ badCeilings → s.laser.state ≠ .off → exec .loadCeilings s = .next (s.withResult ⟨.laserActive, []⟩)) ∧
      (¬ badCeilings → s.laser.state = .off → exec .loadCeilings s = .next ((s.withLaser { s.laser with
        ceilings := { pmax := u16At ps 0, imax := u16At ps 2, pdef := u16At ps 4, twarn := u8At ps 6,
                      gateSteps := u8At ps 7, clockTol := u8At ps 8, monTol := u8At ps 9 }
        ceilingsLoaded := true
        warnArmed := true }).withResult ⟨.done, []⟩)))

/-- LASER ON: Emergency, WrongState, NotReady, or Standby with the warm-up timed, the first idle computation started, the APC offset
and the mismatch count 0; over the limit the laser then faults with OverTemp, and the result is still Done (R42, R128, R132, R135). That
the fault record names a Served block whose service a flush ended before its fall is the model's choice (assumption log 35). -/
def Obligations.LaserOnStarts : Prop :=
  ∀ (s : State) (ps : List Byte),
    s.DeniedAbove 0 .laserOn codeLaserOn ps ∧
    (s.executing 0 codeLaserOn ps →
      let standby := ((s.withLaser { s.laser with
          state := .standby, warmUp := some (s.laser.model.warmUpMs * 1000), current := 0, lsel := .read }).withLevels
        { s.levels with idleSet := none, idleComp := some ⟨s.laser.model, s.laser.ceilings, s.laser.temp⟩,
                        idleAgain := false, servedSinceOn := false }).withMonitor
        { s.monitor with apc := 0, mismatch := 0 }
      (s.laser.loff = true → exec .laserOn s = .next (s.withResult ⟨.emergency, []⟩)) ∧
      (s.laser.loff = false → s.laser.state ≠ .off → exec .laserOn s = .next (s.withResult ⟨.wrongState, []⟩)) ∧
      (s.laser.loff = false → s.laser.state = .off → s.laser.modelLoaded = false ∨ s.laser.ceilings.imax = 0 →
        exec .laserOn s = .next (s.withResult ⟨.notReady, []⟩)) ∧
      (s.laser.loff = false → s.laser.state = .off → s.laser.modelLoaded = true → 0 < s.laser.ceilings.imax →
        (s.laser.overLimit = false → exec .laserOn s = .next (standby.withResult ⟨.done, []⟩)) ∧
        (s.laser.overLimit = true →
          ∃ t, exec .laserOn s = .next (t.withResult ⟨.done, []⟩) ∧ Faulted .overTemp standby t)))

/-- LASER OFF and LOFF: from an on-state the laser goes Off and the queue is flushed with reason LaserOff or Emergency; Off and Fault
stay as they are, and LASER OFF in Fault is WrongState; a release of LOFF turns nothing on (R130, R131). -/
def Obligations.LaserOffAndLoff : Prop :=
  ∀ (s : State) (ps : List Byte),
    (s.executing 0 codeLaserOff ps →
      (s.laser.state = .fault → exec .laserOff s = .next (s.withResult ⟨.wrongState, []⟩)) ∧
      (s.laser.state = .off → exec .laserOff s = .next (s.withResult ⟨.done, []⟩)) ∧
      (s.laser.state.on = true →
        ∃ t, exec .laserOff s = .next (t.withResult ⟨.done, []⟩) ∧ TurnedOff .laserOff s t)) ∧
    (s.inReset = false → s.laser.state.on = true →
      ∃ t, exec .loffAsserted s = .next t ∧ TurnedOff .emergency (s.withLaser { s.laser with loff := true }) t) ∧
    (s.inReset = false → s.laser.state = .off ∨ s.laser.state = .fault →
      exec .loffAsserted s = .next (s.withLaser { s.laser with loff := true })) ∧
    (s.inReset = false → exec .loffReleased s = .next (s.withLaser { s.laser with loff := false }))

/-- CLEAR FAULT: WrongState outside Fault and while the latest sample is over the limit; else the laser goes Off with output zero, the
record is cleared, its eight bytes as section 12.3 gives them are the result's data, and a conversion in flight is abandoned
(R124, R136, R143, R178; the last by assumption log 31). -/
def Obligations.ClearFaultLeavesFault : Prop :=
  ∀ (s : State) (ps : List Byte),
    s.DeniedAbove 0 .clearFault codeClearFault ps ∧
    (s.executing 0 codeClearFault ps →
      (s.laser.state ≠ .fault ∨ s.laser.overLimit = true → exec .clearFault s = .next (s.withResult ⟨.wrongState, []⟩)) ∧
      (s.laser.state = .fault → s.laser.overLimit = false →
        let r := s.laser.faultRecord
        let state := match r.left with
          | some .standby => 1#8
          | some .idle => 2#8
          | some .reading => 3#8
          | some .writing => 4#8
          | some .fault => 5#8
          | some .off => 0#8
          | none => 0#8
        let cause := match r.cause with
          | .none => 0#8
          | .monitorMismatch => 1#8
          | .overTemp => 2#8
          | .gateStuck => 3#8
        let further := if r.further then 2 else 0
        let place := match r.block with
          | some (layer, block) => [BitVec.ofNat 8 (1 + further), BitVec.ofNat 8 layer.val, BitVec.ofNat 8 (block / 16777216),
              BitVec.ofNat 8 (block / 65536), BitVec.ofNat 8 (block / 256), BitVec.ofNat 8 block]
          | none => [BitVec.ofNat 8 further, 0#8, 0#8, 0#8, 0#8, 0#8]
        ∃ t, exec .clearFault s = .next (t.withResult ⟨.done, cause :: state :: place⟩) ∧
          t = (((s.withWritePath none).withLaser { s.laser with
            state := .off, faultRecord := FaultRecord.clear, current := 0, lsel := .read, warmUp := none,
            gateTimer := none }).withLevels
            { s.levels with idleSet := none, idleComp := none, idleAgain := false }).withMonitor t.monitor ∧
          t.monitor.apc = s.monitor.apc ∧ t.monitor.mismatch = s.monitor.mismatch ∧ t.monitor.conversion = none))

/-- The end of warm-up: Idle at the read drive of the idle set, PCLAMP from its mark, ICLAMP when the drive is held at Imax, READY
set, one pulse for the requests that it sets (R173), the idle sample timer started; without a warm-up running the event does nothing. The gate limit faults a laser in Writing with
cause GateStuck, and does nothing without a gate timer running (R41, R44, R129, R134, R147). Each acts whatever the time counted, and
without its timer does nothing, as the model reads its row (assumption logs 3 and 5). -/
def Obligations.LaserTimersExpire : Prop :=
  (∀ (s : State) (i : IdleSet), s.inReset = false →
     (s.laser.state ≠ .standby ∨ s.laser.warmUp = none → exec .warmUpExpiry s = .next s) ∧
     (s.laser.state = .standby → s.laser.warmUp.isSome = true → s.levels.idleSet = some i →
       s.levels.servedSinceOn = false →
       let drive : Int := i.readCurrent + s.monitor.apc
       ∃ t, exec .warmUpExpiry s = .next t ∧
         t = (((s.withWritePath none).withLaser { s.laser with
           state := .idle, warmUp := none, gateTimer := none, lsel := .read,
           current := if drive < 0 then 0 else if (s.laser.ceilings.imax : Int) < drive then s.laser.ceilings.imax
                      else drive.toNat }).withMonitor t.monitor).withAlert t.alert ∧
         t.monitor = { s.monitor with
           idleTimer := some 100, peakHold := none, blockSamples := t.monitor.blockSamples } ∧
         AlertRaised (fun f => decide (f = .ready) || decide (f = .pclamp) && i.powerClamp ||
           decide (f = .iclamp) && decide ((s.laser.ceilings.imax : Int) < drive)) s.alert t.alert)) ∧
  (∀ s : State, s.inReset = false →
     (s.laser.state = .writing → s.laser.gateTimer.isSome = true →
       ∃ t, exec .gateLimitExpiry s = .next t ∧ Faulted .gateStuck s t) ∧
     (s.laser.state ≠ .writing ∨ s.laser.gateTimer = none → exec .gateLimitExpiry s = .next s))

/-- A temperature sample: it replaces the latest one and is marked against Tlim, raises or arms the warning, faults an on-state over
the limit, sets the further flag at a crossing in Fault, and starts an idle computation (R42, R133, R135, R137). That the 10 ms to the
next sample count from this one, and which block the fault record names after a flush or a clock unlock ended its service, are the
model's choices (assumption logs 29 and 35). -/
def Obligations.TemperatureSampled : Prop :=
  ∀ (s : State) (temp : Int), s.inReset = false → -40 ≤ temp → temp ≤ 125 →
    let hot := s.laser.modelLoaded && decide ((s.laser.model.tlim : Int) ≤ temp)
    let warns := s.laser.ceilingsLoaded && s.laser.warnArmed && decide ((s.laser.ceilings.twarn : Int) ≤ temp)
    let arms := s.laser.ceilingsLoaded && !s.laser.warnArmed && decide (temp < (s.laser.ceilings.twarn : Int) - 2)
    let sampled := (s.withLaser { s.laser with
      temp := temp, overLimit := hot, sampleTimer := 10000,
      warnArmed := (s.laser.warnArmed && !warns) || arms }).raiseIf warns .twarn
    let early := s.laser.state = .standby ∨ (s.laser.state = .idle ∧ s.levels.servedSinceOn = false)
    (hot = true → s.laser.state.on = true →
      ∃ t, exec (.temperatureSample temp) s = .next t ∧ Faulted .overTemp sampled t) ∧
    (hot = true → s.laser.state = .fault → s.laser.overLimit = false →
      exec (.temperatureSample temp) s = .next ((sampled.withLaser { sampled.laser with
        faultRecord := { s.laser.faultRecord with further := true } }).raiseIf (!s.laser.faultRecord.further) .fault)) ∧
    (hot = false → early → s.levels.idleComp = none →
      exec (.temperatureSample temp) s = .next (sampled.withLevels { s.levels with
        idleComp := some ⟨s.laser.model, s.laser.ceilings, temp⟩ })) ∧
    (hot = false → early → s.levels.idleComp.isSome = true →
      exec (.temperatureSample temp) s = .next (sampled.withLevels { s.levels with idleAgain := true })) ∧
    (s.laser.state = .off ∨ (s.laser.state = .fault ∧ (hot = false ∨ s.laser.overLimit = true)) ∨
        (hot = false ∧ s.laser.state.on = true ∧ ¬ early) →
      exec (.temperatureSample temp) s = .next sampled)

/-- The clock-lock table: a loss of lock starts the loss timer, or unlocks at once at tolerance 0; the timer's expiry unlocks; a
regained lock cancels the timer and locks (R138, R139). The expiry acts whatever the time counted, and without the timer does nothing
(assumption logs 3 and 5); an unlock in a write block discards the block sets even of a target that stays (R45; assumption log 24). -/
def Obligations.ClockLockFollowsPll : Prop :=
  ∀ s : State, s.inReset = false →
    let tolerance := if s.laser.ceilingsLoaded then s.laser.ceilings.clockTol else 0
    let lost := s.withLaser { s.laser with pllLock := false }
    (s.laser.clock = .locked → s.laser.lossTimer = none → 0 < tolerance →
      exec .pllLosesLock s = .next (s.withLaser { s.laser with pllLock := false, lossTimer := some tolerance })) ∧
    (s.laser.clock = .locked → s.laser.lossTimer = none → tolerance = 0 →
      ∃ t, exec .pllLosesLock s = .next t ∧ Unlocks lost t) ∧
    (s.laser.clock = .unlocked ∨ s.laser.lossTimer.isSome = true → exec .pllLosesLock s = .next lost) ∧
    exec .pllRegainsLock s =
      .next (s.withLaser { s.laser with pllLock := true, clock := .locked, lossTimer := none }) ∧
    (s.laser.lossTimer.isSome = true → ∃ t, exec .lossTimerExpiry s = .next t ∧ Unlocks s t) ∧
    (s.laser.lossTimer = none → exec .lossTimerExpiry s = .next s)

/-! ### Alerts and device commands -/

/-- ACK EVENTS clears the flags named; SET PERMISSIONS replaces the permissions and in Pulse mode pulses for a set flag newly
granted; SET ALERT MODE stores the mode, and a change of it ends a pulse; each refuses with Range; the pulse timer's end ends the pulse
(R169, R170, R171, R173). -/
def Obligations.AlertCommands : Prop :=
  ∀ (s : State) (ps : List Byte),
    let mask : BitVec 16 := byteAt ps 0 ++ byteAt ps 1
    s.DeniedAbove 0 .ackEvents codeAckEvents ps ∧ s.DeniedAbove 0 .setPermissions codeSetPermissions ps ∧
    s.DeniedAbove 0 .setAlertMode codeSetAlertMode ps ∧
    (s.executing 0 codeAckEvents ps →
      (mask &&& 0xE000#16 ≠ 0#16 → exec .ackEvents s = .next (s.withResult ⟨.range, []⟩)) ∧
      (mask &&& 0xE000#16 = 0#16 → exec .ackEvents s =
        .next ((s.withAlert { s.alert with requests := s.alert.requests &&& ~~~mask }).withResult
          ⟨.done, bytes2 (s.alert.requests &&& ~~~mask).toNat⟩))) ∧
    (s.executing 0 codeSetPermissions ps →
      (mask &&& 0xE000#16 ≠ 0#16 → exec .setPermissions s = .next (s.withResult ⟨.range, []⟩)) ∧
      (mask &&& 0xE000#16 = 0#16 → exec .setPermissions s = .next ((s.withAlert { s.alert with
        permissions := mask
        pulse := if s.alert.mode = .pulse ∧ s.alert.requests &&& mask &&& ~~~s.alert.permissions ≠ 0#16 then some 2
                 else s.alert.pulse }).withResult ⟨.done, bytes2 mask.toNat⟩))) ∧
    (s.executing 0 codeSetAlertMode ps →
      (1 < u8At ps 0 → exec .setAlertMode s = .next (s.withResult ⟨.range, []⟩)) ∧
      (∀ m : AlertMode, (m = .level ∧ u8At ps 0 = 0) ∨ (m = .pulse ∧ u8At ps 0 = 1) →
        exec .setAlertMode s = .next ((s.withAlert { s.alert with
          mode := m, pulse := if s.alert.mode = m then s.alert.pulse else none }).withResult ⟨.done, [byteAt ps 0]⟩))) ∧
    (s.inReset = false → s.alert.pulse = some 0 →
      exec .alertPulseEnd s = .next (s.withAlert { s.alert with pulse := none }))

/-- An event sets its flag and no other; a granted flag going from clear to set pulses in Pulse mode; in Level mode ALERT is active
exactly while a flag is both set and granted, in Pulse mode during a pulse (R168, R170, R172, R173). -/
def Obligations.AlertLineFollows : Prop :=
  ∀ (a : Alert) (f : RequestFlag),
    (a.raise f).isSet f = true ∧ (∀ g, g ≠ f → (a.raise f).isSet g = a.isSet g) ∧
    (a.raise f).permissions = a.permissions ∧ (a.raise f).mode = a.mode ∧
    (a.raise f).pulse =
      (if a.mode = .pulse ∧ a.isGranted f = true ∧ a.isSet f = false then some 2 else a.pulse) ∧
    (a.mode = .level → a.permissions &&& unusedFlags = 0#16 →
      (a.active = true ↔ ∃ g, a.isSet g = true ∧ a.isGranted g = true)) ∧
    (a.mode = .pulse → a.active = a.pulse.isSome)

/-- UNMOUNT: an on-state goes Off, the queue is flushed with reason Unmount, every zone and strategy slot is Free, the guard list
empty, every stream Closed with its counters kept; no FREED; layer records, pickup, laser records, port and alerts are kept, but for
the REVOKE request with a REVOKE and LINKERR with one that finds the store full (R28, R56, R59, R75, R105, R114, R131, R173, R177). -/
def Obligations.UnmountFrees : Prop :=
  ∀ (s : State) (ps : List Byte), s.executing 0 codeUnmount ps →
    ∃ t, exec .unmount s = .next (t.withResult ⟨.done, []⟩) ∧
      (∀ i, t.zone i = Zone.freeContent) ∧ (∀ k, t.strategy k = Strategy.freeContent) ∧ t.guards = [] ∧
      (∀ n, t.stream n = { s.stream n with mode := .closed }) ∧ Flushed .unmount s t ∧
      t.laser = (if s.laser.state.on then { s.laser with
        state := .off, current := 0, lsel := .read, warmUp := none, gateTimer := none } else s.laser) ∧
      (s.laser.state.on = true → t.writePath = none ∧ t.levels.idleSet = none ∧ t.levels.idleComp = none ∧
        t.monitor.conversion = none ∧ t.monitor.idleTimer = none ∧ t.monitor.peakHold = none) ∧
      (s.laser.state.on = false → t.writePath = s.writePath ∧ t.monitor = s.monitor ∧
        t.levels = { s.levels with prepared := .absent, standIn := t.levels.standIn }) ∧
      t.inReset = s.inReset ∧ t.pending = s.pending ∧
      t.monitor.apc = s.monitor.apc ∧ t.monitor.mismatch = s.monitor.mismatch ∧ t.pickup = s.pickup ∧ t.port = s.port ∧
      AlertRaised (fun f => decide (f = .revoke) && (s.queue.any fun e => !s.awaitsFall e) ||
        decide (f = .linkerr) && s.drops (s.flushRevokes .unmount)) s.alert t.alert

/-! ### The block announce link -/

/-- ANNOUNCE: malformed with intent code 3 or a start beyond the block space; refused with QueueFull, DuplicateTag, LaserOff or
BadRun, in that order, with a REFUSE and the REFUSE request, or with the request and LINKERR when the reply store is full (R59, R173);
else a Waiting entry at the tail, with no reply (R58, R60, R62). The frame is one that began after the last reset; of one that did not, MalformedDiscardedAndRepliesSent speaks (R57). -/
def Obligations.AnnounceAdmitted : Prop :=
  ∀ (s : State) (tag packed stp run : Byte) (start : BitVec 32), s.inReset = false → s.link.staleFrame = false →
    let refused := fun reason : RefuseReason => ∃ t, exec (.announce tag packed stp start run) s = .next t ∧
      t = (s.withLink t.link).withAlert t.alert ∧ Told [.refuse tag reason] .refuse s t
    let duplicate := ∃ e ∈ s.queue, e.tag = tag
    let admits := s.laser.state = .idle ∨ s.laser.state = .reading ∨ s.laser.state = .writing
    (packed.extractLsb' 2 2 = 3#2 ∨ 1073741823 < start.toNat →
      exec (.announce tag packed stp start run) s = .next (s.raise .linkerr)) ∧
    (∀ intent, (intent = .read ∧ packed.extractLsb' 2 2 = 0#2) ∨ (intent = .write ∧ packed.extractLsb' 2 2 = 1#2) ∨
        (intent = .calibrate ∧ packed.extractLsb' 2 2 = 2#2) → start.toNat ≤ 1073741823 →
      (8 ≤ s.queue.length → refused .queueFull) ∧
      (s.queue.length < 8 → duplicate → refused .duplicateTag) ∧
      (s.queue.length < 8 → ¬ duplicate → ¬ admits → refused .laserOff) ∧
      (s.queue.length < 8 → ¬ duplicate → admits → run = 0#8 → refused .badRun) ∧
      (s.queue.length < 8 → ¬ duplicate → admits → run ≠ 0#8 →
        ∃ t, exec (.announce tag packed stp start run) s = .next t ∧
          t.queue = s.queue ++ [
            { tag := tag, stream := (packed.extractLsb' 6 2).toFin, intent := intent,
              layer := (packed.extractLsb' 4 2).toFin, start := start.toNat, requested := run.toNat, accepted := 0,
              step := if intent = .calibrate then some (stp.extractLsb' 0 5).toInt else none,
              primary := none, secondary := none, next := start.toNat, served := 0, skipped := 0, state := .waiting,
              deferred := [] }] ∧
          t.link = s.link ∧ t.alert = s.alert ∧ t.zones = s.zones ∧ t.gate = s.gate ∧ TriggerFrame [] [] s t))

/-- QUALITY: the covering zone, unless Absent, Lead or with auto-trim off, has its trim moved by one toward its target outside the
deadband; at a limit the trim stays, the trim-limit flag is set, and TRIMLIM from clear; no reply (R15, R23, R58, R153, R154). The
frame is one that began after the last reset; of one that did not, MalformedDiscardedAndRepliesSent speaks (R57). That R154's table
holds for a target of +100 with deadband 0 too, against R154's example, and that the hand-off of a step leaves the sets of a level
computer's target without a slot, whose translation a trigger has removed, are the model's choices (assumption logs 18 and 34). -/
def Obligations.QualitySteps : Prop :=
  ∀ (s : State) (layer : Byte) (block : BitVec 32) (beta : Byte), s.inReset = false → s.link.staleFrame = false →
    s.ZonesDisjoint →
    let b : Int := if beta.toInt < -100 then -100 else if 100 < beta.toInt then 100 else beta.toInt
    let covers := fun i => (s.zone i).inUse = true ∧ (s.zone i).layer = (layer.extractLsb' 0 2).toFin ∧
      (s.zone i).first ≤ block.toNat ∧ block.toNat ≤ (s.zone i).last
    (1073741823 < block.toNat → exec (.quality layer block beta) s = .next (s.raise .linkerr)) ∧
    (block.toNat ≤ 1073741823 → (∀ i, ¬ covers i) → exec (.quality layer block beta) s = .next s) ∧
    (∀ i, block.toNat ≤ 1073741823 → covers i →
      let z := s.zone i
      (z.state = .absent ∨ z.kind = .lead ∨ z.autoTrim = false ∨ (z.target - z.deadband ≤ b ∧ b ≤ z.target + z.deadband) →
        exec (.quality layer block beta) s = .next s) ∧
      (∀ d : Int, z.state ≠ .absent → z.kind ≠ .lead → z.autoTrim = true →
        (b < z.target - z.deadband ∧ d = 1) ∨ (z.target + z.deadband < b ∧ d = -1) →
        (-128 ≤ z.trim + d → z.trim + d ≤ 127 →
          ∃ t, exec (.quality layer block beta) s = .next t ∧ t = (s.withZones t.zones).withLevels t.levels ∧
            t.zone i = { z with trim := z.trim + d } ∧ (∀ j, j ≠ i → t.zone j = s.zone j) ∧ HandedOn i s t) ∧
        (z.trim + d < -128 ∨ 127 < z.trim + d →
          exec (.quality layer block beta) s =
            .next (if z.trimLimit then s else (s.setZone i { z with trimLimit := true }).raise .trimlim))))

/-- A frame that was open when the last reset completed is discarded at its end without a request, whatever it carries. Any other frame
malformed in one of the ways of R58 is discarded and sets LINKERR. Neither changes anything else. LDO: the bytes of the reply that is
part-way out, then those of the oldest reply, which leaves the store with its first byte, else the idle byte; each reply has the bytes of
section 12.2 (R57, R58, R59, R178). That a row sends one byte, and the instant at which a reply leaves the store, are the model's choice
(assumption logs 10 and 11). -/
def Obligations.MalformedDiscardedAndRepliesSent : Prop :=
  (∀ (s : State) (c : Instr), s.inReset = false → s.link.staleFrame = true →
     (∃ tag packed stp start run, c = .announce tag packed stp start run) ∨ (∃ scope, c = .abort scope) ∨
       (∃ layer block beta, c = .quality layer block beta) ∨ (∃ bytes whole, c = .malformedMessage bytes whole) →
     exec c s = .next (s.withLink { s.link with staleFrame := false })) ∧
  (∀ (s : State) (bytes : List Byte) (whole : Bool), s.inReset = false → s.link.staleFrame = false →
     whole = false ∨
       (bytes.head? ≠ some 0x11#8 ∧ bytes.head? ≠ some 0x12#8 ∧ bytes.head? ≠ some 0x13#8) ∨
       (bytes.head? = some 0x11#8 ∧ (bytes.length ≠ 9 ∨ (bytes.getD 2 0#8).extractLsb' 2 2 = 3#2 ∨
         64 ≤ (bytes.getD 4 0#8).toNat)) ∨
       (bytes.head? = some 0x12#8 ∧ (bytes.length ≠ 2 ∨ (4 ≤ (bytes.getD 1 0#8).toNat ∧ bytes.getD 1 0#8 ≠ 0xFF#8))) ∨
       (bytes.head? = some 0x13#8 ∧ (bytes.length ≠ 7 ∨ 64 ≤ (bytes.getD 2 0#8).toNat)) →
     exec (.malformedMessage bytes whole) s = .next (s.raise .linkerr)) ∧
  (∀ s : State, s.inReset = false →
     (∀ b left, s.link.sending = b :: left →
       exec .replySend s = .next (s.withLink { s.link with sending := left, ldo := b })) ∧
     (∀ r rest, s.link.sending = [] → s.link.replies = r :: rest → ∃ b left, r.bytes = b :: left ∧
       exec .replySend s = .next (s.withLink { s.link with replies := rest, sending := left, ldo := b })) ∧
     (s.link.sending = [] → s.link.replies = [] → exec .replySend s = .next (s.withLink { s.link with ldo := 0x00#8 }))) ∧
  (∀ (tag : Byte) (n m block : Nat) (split : Bool) (refusal : RefuseReason) (skip : SkipReason) (revocation : RevokeReason),
     let place := [BitVec.ofNat 8 (block / 16777216), BitVec.ofNat 8 (block / 65536), BitVec.ofNat 8 (block / 256),
       BitVec.ofNat 8 block]
     (Reply.accept tag n split).bytes = [0x21#8, tag, BitVec.ofNat 8 n, if split then 1#8 else 0#8] ∧
     (Reply.refuse tag refusal).bytes = [0x22#8, tag, refusal.byte] ∧
     (Reply.skip none block skip).bytes = [0x23#8, 0#8, 0#8] ++ place ++ [skip.byte] ∧
     (Reply.skip (some tag) block skip).bytes = [0x23#8, 1#8, tag] ++ place ++ [skip.byte] ∧
     (Reply.done tag n m).bytes = [0x24#8, tag, BitVec.ofNat 8 n, BitVec.ofNat 8 m] ∧
     (Reply.revoke tag n revocation).bytes = [0x25#8, tag, BitVec.ofNat 8 n, revocation.byte]) ∧
  [RefuseReason.queueFull, .duplicateTag, .laserOff, .badRun, .streamClosed, .streamMode, .layerMissing, .zoneMissing, .zoneAbsent,
    .writeDenied, .levelDenied, .guarded].map RefuseReason.byte = (List.range 12).map (fun k => BitVec.ofNat 8 (k + 1)) ∧
  [SkipReason.noEntry, .notReady, .layerMoving, .unlocked].map SkipReason.byte = [1#8, 2#8, 3#8, 5#8] ∧
  [RevokeReason.absent, .closed, .released, .guarded, .streamClosed, .aborted, .clockUnlock, .fault, .emergency, .laserOff,
    .unmount].map RevokeReason.byte = (List.range 11).map (fun k => BitVec.ofNat 8 (k + 1))

/-- The completion of a translation: the first of the eight checks that fails refuses the entry, which leaves with a REFUSE; else the
entry is Accepted with the run cut at the block space's end, the zone's end without a secondary zone, and the first guarded block
of a write run, its pins added and an ACCEPT sent; used up already and not in service, it leaves with DONE (R63 to R68, R85). That this
holds also of an entry skipped past its run by several rises while it was Waiting, and that an entry accepted and gone at one instant is
nobody's target and starts no move, are the model's choices (assumption logs 27 and 33). -/
def Obligations.TranslationDecides : Prop :=
  ∀ (s : State) (e : Entry), s.inReset = false → s.QueueOrdered → s.ZonesDisjoint →
    s.queue.find? (fun f => decide (f.state = .waiting)) = some e →
    let covers := fun (b : Nat) (i : ZoneSlot) => (s.zone i).inUse = true ∧ (s.zone i).layer = e.layer ∧
      (s.zone i).first ≤ b ∧ b ≤ (s.zone i).last
    let writes := e.intent ≠ .read
    let unwritable := fun i => (e.intent = .write ∧ ((s.zone i).kind = .lead ∨ (s.zone i).kind = .test ∨
      (s.zone i).state = .closed)) ∨ (e.intent = .calibrate ∧ (s.zone i).kind ≠ .test)
    let above := fun i => writes ∧ (s.zone i).level < (s.stream e.stream).owner
    let guarded := fun b => ∃ g ∈ s.guards, g.layer = e.layer ∧ g.first ≤ b ∧ b ≤ g.last
    let checks : List (Prop × RefuseReason) := [
      ((s.stream e.stream).mode = .closed, .streamClosed),
      (writes ∧ (s.stream e.stream).mode = .playback, .streamMode),
      ((s.layerRecord e.layer).loaded = false, .layerMissing),
      (∀ i, ¬ covers e.start i, .zoneMissing),
      (∃ i, covers e.start i ∧ (s.zone i).state = .absent, .zoneAbsent),
      (∃ i, covers e.start i ∧ unwritable i, .writeDenied),
      (∃ i, covers e.start i ∧ above i, .levelDenied),
      (writes ∧ guarded e.start, .guarded)]
    (∀ earlier c reason later, checks = earlier ++ (c, reason) :: later → (∀ p ∈ earlier, ¬ p.1) → c →
      ∃ t, exec .translationComplete s = .next t ∧ t.queue = (s.queue.filter fun f => f.tag != e.tag) ∧
        TriggerFrame [] [.refuse e.tag reason] (s.raise .refuse) t) ∧
    ((∀ p ∈ checks, ¬ p.1) →
      ∃ (t pinned : State) (i : ZoneSlot) (second : Option (ZoneSlot × Nat)) (run : Nat),
        exec .translationComplete s = .next t ∧ covers e.start i ∧
        (let within := min e.requested (1073741824 - e.start)
         let split := (s.zone i).last + 1
         let follows := fun j => covers split j ∧ (s.zone j).state ≠ .absent ∧ ¬ unwritable j ∧ ¬ above j
         let toZone := if split < e.start + within ∧ ¬ ∃ j, follows j then split - e.start else within
         run ≤ toZone ∧ (writes → ∀ b, e.start ≤ b → b < e.start + run → ¬ guarded b) ∧
         (run < toZone → writes ∧ guarded (e.start + run)) ∧
         (∀ j b, second = some (j, b) ↔ b = split ∧ follows j ∧ split < e.start + run)) ∧
        (let e' := { e with accepted := run, primary := some i, secondary := second, state := .accepted }
         pinned = s.withZones pinned.zones ∧
         (∀ j, pinned.zone j = { s.zone j with pins := (s.zone j).pins + if e'.names j then 1 else 0 }) ∧
         (e.next < e.start + run ∨ s.inService e = true →
           t.queue = (s.queue.map fun f => if f.tag = e.tag then e' else f) ∧ t.zones = pinned.zones ∧
           TriggerFrame [] [.accept e.tag run second.isSome] pinned t) ∧
         (e.start + run ≤ e.next → s.inService e = false →
           t.queue = (s.queue.filter fun f => f.tag != e.tag) ∧
           TriggerFrame [] [.accept e.tag run second.isSome, .done e.tag e.served e.skipped] pinned t)))

/-- The level computer's target is the Current entry's next block while its run has one left, else the start block of the entry behind it,
or of the oldest entry with none Current, when that entry is Accepted, else none; its slot is the slot of the translation for that block,
none when that translation has been removed (assumption log 18). Every step keeps the level computer and the pickup on the announce queue: the prepared set
or the computation in flight is for the queue's target, the stand-in set is for the block being computed, and with the laser Idle and no Current entry a Settled pickup is on the
layer of the oldest Accepted entry (R29, R30, R31, R118). What each row that changes the queue does at its own instant is in its
statement, through `TargetFollowed` and `MoveFollowed`. -/
def Obligations.FollowersKept : Prop :=
  (∀ (s : State) (e : Entry) (rest : List Entry), s.QueueOrdered → s.queue = e :: rest →
    let targets := fun (f : Entry) (b : Nat) => targetOf s.queue = some
      { tag := f.tag, block := b, intent := f.intent, layer := f.layer, step := f.step
        slot := match f.secondary with
          | some (i, split) => if b < split then f.primary else some i
          | none => f.primary }
    (e.state = .current → e.next < e.start + e.accepted → targets e e.next) ∧
    (e.state = .accepted → targets e e.start) ∧
    (e.state = .current → e.start + e.accepted ≤ e.next →
      (∀ f later, rest = f :: later → f.state = .accepted → targets f f.start) ∧
      ((∀ f later, rest = f :: later → f.state = .waiting) → targetOf s.queue = none)) ∧
    (e.state = .waiting → targetOf s.queue = none)) ∧
  (∀ s : State, s.queue = [] → targetOf s.queue = none) ∧
  (∀ s t : State, s.QueueOrdered → s.Emission → s.Followed → step s = .next t → t.Followed)

/-- Every well-formed message of the formatter, with every field at every value its frame admits, is decoded from the frame that
encodes it (R57, R178, section 12.2). -/
def Obligations.FramesDecode : Prop :=
  ∀ m : LinkMessage, m.wf = true → decodeFrame (encodeMessage m) true = some m

/-! ### Level computation -/

/-- The levels of a computation and of the idle set, in exact rational arithmetic: interpolation rounded half away from zero, trim and
calibrate step rounded half up, power ceiling, threshold and slope at the temperature, current and current ceiling, with the marks
(R35 to R40, R42). -/
def Obligations.LevelsFollowFormulas : Prop :=
  ∀ (i : LevelInputs), i.model.inRange = true → i.first + 255 ≤ i.last → i.first ≤ i.block → i.block ≤ i.last →
    -128 ≤ i.trim → i.trim ≤ 127 → (∀ c, i.step = some c → i.intent = .calibrate ∧ -16 ≤ c ∧ c ≤ 15) →
    -40 ≤ i.temp → i.temp ≤ 125 →
    let held := fun (low high x : Int) => if x < low then low else if high < x then high else x
    let threshold := held 2048 8192 (4096 + i.model.kth * (i.temp - 25))
    let slope := held 2048 6144 (4096 - i.model.keta * (i.temp - 25))
    let ith : Int := roundHalfUp ((i.model.ith25 : ℚ) * threshold / 4096)
    let eta : Int := if ⌊(i.model.eta25 : ℚ) * slope / 4096⌋ < 50 then 50 else ⌊(i.model.eta25 : ℚ) * slope / 4096⌋
    let p1 := fun inner outer : Nat =>
      (inner : Int) + roundHalfAway (((outer : ℚ) - inner) * ((i.block : ℚ) - i.first) / ((i.last : ℚ) - i.first))
    let p2 := fun inner outer : Nat => roundHalfUp ((p1 inner outer : ℚ) * (1024 + i.trim) / 1024)
    let p3 := fun inner outer : Nat => match i.step with
      | some c => roundHalfUp ((p2 inner outer : ℚ) * (64 + c) / 64)
      | none => p2 inner outer
    let power := fun p : Int => if (i.ceilings.pmax : Int) < p then (i.ceilings.pmax : Int) else p
    let current := fun p : Int => ith + roundHalfUp (250 * (power p : ℚ) / eta)
    let isRead := fun (d : DriveLevel) (p : Int) => (d.power : Int) = power p ∧ (d.powerClamp = true ↔ i.ceilings.pmax < p) ∧
      (d.current : Int) = current p
    let isWrite := fun (d : DriveLevel) (p : Int) => (d.power : Int) = power p ∧ (d.powerClamp = true ↔ i.ceilings.pmax < p) ∧
      (d.current : Int) = (if (i.ceilings.imax : Int) < current p then (i.ceilings.imax : Int) else current p) ∧
      (d.currentClamp = true ↔ i.ceilings.imax < current p)
    let l := levelsOf i
    l.tag = i.tag ∧ l.block = i.block ∧ l.intent = i.intent ∧ l.layer = i.layer ∧ l.slot = i.slot ∧ isRead l.read i.powers.pr ∧
    (i.intent = .read → l.write = none) ∧
    (i.intent ≠ .read → ∃ w, l.write = some w ∧ isWrite w.peak (p3 i.powers.pwi i.powers.pwo) ∧
      isWrite w.bias (p3 i.powers.pei i.powers.peo) ∧ isWrite w.bottom i.powers.pb) ∧
    (let idle := idleSetOf ⟨i.model, i.ceilings, i.temp⟩
     let half := ⌊(ith : ℚ) * 7 / 8⌋
     (idle.ith : Int) = ith ∧ (idle.power : Int) = power i.ceilings.pdef ∧
     (idle.powerClamp = true ↔ i.ceilings.pmax < i.ceilings.pdef) ∧ (idle.readCurrent : Int) = current i.ceilings.pdef ∧
     (idle.standby : Int) = (if (i.ceilings.imax : Int) < half then (i.ceilings.imax : Int) else half) ∧
     (idle.standbyClamp = true ↔ i.ceilings.imax < half))

/-- A block computation completes with the levels of the inputs it read, the prepared set ready and the stand-in set absent; an idle
computation gives the idle set, drives it in Standby and in Idle before the first served block, and starts again when a sample came
meanwhile (R33, R41, R42, R44); neither does anything when none is in flight (assumption log 5). -/
def Obligations.LevelComputationsComplete : Prop :=
  ∀ s : State, s.inReset = false →
    (∀ i, s.levels.prepared = .computing i → exec .levelComputationComplete s =
      .next (s.withLevels { s.levels with prepared := .ready (levelsOf i), standIn := none })) ∧
    ((∀ i, s.levels.prepared ≠ .computing i) → exec .levelComputationComplete s = .next s) ∧
    (s.levels.idleComp = none → exec .idleComputationComplete s = .next s) ∧
    (∀ i, s.levels.idleComp = some i →
      let early := s.laser.state = .standby ∨ (s.laser.state = .idle ∧ s.levels.servedSinceOn = false)
      let set := idleSetOf i
      let drive : Int := set.readCurrent + s.monitor.apc
      ∃ base, base = s.withLevels base.levels ∧
        base.levels = { s.levels with idleSet := some set, idleComp := base.levels.idleComp, idleAgain := false } ∧
        (s.levels.idleAgain = true → early → base.levels.idleComp = some ⟨s.laser.model, s.laser.ceilings, s.laser.temp⟩) ∧
        (s.levels.idleAgain = false ∨ ¬ early → base.levels.idleComp = none) ∧
        (s.laser.state = .standby → exec .idleComputationComplete s =
          .next ((base.withLaser { s.laser with current := set.standby, lsel := .read }).raiseIf set.standbyClamp .iclamp)) ∧
        (s.laser.state = .idle → s.levels.servedSinceOn = false → exec .idleComputationComplete s =
          .next ((base.withLaser { s.laser with
            current := if drive < 0 then 0 else if (s.laser.ceilings.imax : Int) < drive then s.laser.ceilings.imax
                       else drive.toNat, lsel := .read }).raiseIf (decide ((s.laser.ceilings.imax : Int) < drive)) .iclamp)) ∧
        (¬ early → exec .idleComputationComplete s = .next base))

/-! ### Block service -/

/-- A rise that finds the entry translated, the pickup settled on its layer, a set for its next block and, for a Write or Calibrate
block, the clock Locked, serves the block: record, entry, stream counter, laser, output, write path, gate timer, Written flag, block
sample and clamp requests at one instant (R34, R52, R81, R86 to R90, R101, R134, R145). -/
def Obligations.RiseServesBlock : Prop :=
  ∀ (s : State) (e : Entry) (rest : List Entry) (l : LevelSet), s.inReset = false → s.gate.high = false → s.QueueOrdered →
    s.queue = e :: rest → e.state ≠ .waiting → s.pickup.motion = .settled e.layer →
    (let fits := fun l : LevelSet => l.tag = e.tag ∧ l.block = e.next
     fits l ∧ (s.levels.prepared = .ready l ∨
       (∀ p, s.levels.prepared = .ready p → ¬ fits p) ∧ s.levels.standIn = some l)) →
    let slot := match e.secondary with
      | some (j, split) => if split ≤ e.next then some j else e.primary
      | none => e.primary
    let st := s.stream e.stream
    let common := fun t : State =>
      t = (((((((s.withGate t.gate).withQueue t.queue).withStreams t.streams).withLevels t.levels).withLaser t.laser).withMonitor
        t.monitor).withAlert t.alert |>.withZones t.zones).withWritePath t.writePath ∧
      t.gate.high = true ∧
      t.gate.record = some
        { hasEntry := true, tag := e.tag, stream := e.stream, layer := e.layer, block := e.next, intent := e.intent,
          slot := slot, outcome := .served, ended := false } ∧
      t.queue = { e with next := e.next + 1, state := .current, served := e.served + 1 } :: rest ∧
      t.stream e.stream = (if st.mode = .closed then st else
        { st with
          served := if st.served < 4294967295 then st.served + 1 else 4294967295, lastServed := some (e.layer, e.next) }) ∧
      (∀ n, n ≠ e.stream → t.stream n = s.stream n) ∧
      t.levels =
        { s.levels with
          prepared := t.levels.prepared, standIn := t.levels.standIn, handedOff := some l, servedSinceOn := true } ∧
      TargetFollowed s t
    (e.intent = .read → l.write = none →
      let drive : Int := l.read.current + s.monitor.apc
      ∃ t, exec .bgateRise s = .next t ∧ common t ∧ t.zones = s.zones ∧ t.writePath = s.writePath ∧
        t.laser =
          { s.laser with
            state := .reading, lsel := .read,
            current := if drive < 0 then 0 else if (s.laser.ceilings.imax : Int) < drive then s.laser.ceilings.imax
                       else drive.toNat } ∧
        t.monitor =
          { s.monitor with
            idleTimer := none, peakHold := none, blockSamples := s.monitor.blockSamples ++ [⟨.reading, true, 4⟩] } ∧
        t.alert = ((s.raiseIf l.read.powerClamp .pclamp).raiseIf
          (decide ((s.laser.ceilings.imax : Int) < drive)) .iclamp).alert) ∧
    (∀ w i k, e.intent ≠ .read → s.laser.clock = .locked → l.write = some w → slot = some i →
      (s.zone i).strategy = some k →
      ∃ t, exec .bgateRise s = .next t ∧ common t ∧
        t.zone i = { s.zone i with written := true } ∧ (∀ j, j ≠ i → t.zone j = s.zone j) ∧
        t.writePath = some
          { record := (s.strategy k).record, peak := w.peak.current, bias := w.bias.current,
            bottom := w.bottom.current, inMark := false, marks := [], steps := [] } ∧
        t.laser =
          { s.laser with
            state := .writing, lsel := .bias, current := w.bias.current,
            gateTimer := some (s.laser.ceilings.gateSteps * 10) } ∧
        t.monitor =
          { s.monitor with
            idleTimer := none, peakHold := none, blockSamples := s.monitor.blockSamples ++ [⟨.writing, true, 4⟩] } ∧
        t.alert = ((s.raiseIf (l.read.powerClamp || w.peak.powerClamp || w.bias.powerClamp || w.bottom.powerClamp)
          .pclamp).raiseIf (w.peak.currentClamp || w.bias.currentClamp || w.bottom.currentClamp) .iclamp).alert)

/-- The first of the four skip conditions that holds skips the entry's next block: the record without slot, the entry's and an open
stream's skipped count one higher, a SKIP and its request, laser, output and monitor untouched; with the queue empty the SKIP is
NoEntry and the record stays absent; with 32 replies stored the SKIP is dropped and LINKERR set, the rest as before (R59); a rise with
the gate High is not taken (R80 to R85; assumption log 5). -/
def Obligations.RiseSkips : Prop :=
  ∀ s : State, s.inReset = false →
    (s.gate.high = true → exec .bgateRise s = .next s) ∧
    (s.gate.high = false → s.queue = [] →
      ∃ t, exec .bgateRise s = .next t ∧
        t = (((s.withGate ⟨true, none⟩).withLink t.link).withAlert t.alert).withLevels t.levels ∧
        Told [.skip none 0 .noEntry] .skip s t ∧
        t.levels = { s.levels with prepared := .absent, standIn := t.levels.standIn }) ∧
    (∀ e rest, s.gate.high = false → s.QueueOrdered → s.queue = e :: rest →
      let fits := fun l : LevelSet => l.tag = e.tag ∧ l.block = e.next
      let checks : List (Prop × SkipReason) := [
        (e.state = .waiting, .notReady),
        (s.pickup.motion ≠ .settled e.layer, .layerMoving),
        ((∀ l, s.levels.prepared = .ready l → ¬ fits l) ∧ (∀ l, s.levels.standIn = some l → ¬ fits l), .notReady),
        (e.intent ≠ .read ∧ s.laser.clock = .unlocked, .unlocked)]
      let st := s.stream e.stream
      ∀ earlier c reason later, checks = earlier ++ (c, reason) :: later → (∀ p ∈ earlier, ¬ p.1) → c →
        ∃ t, exec .bgateRise s = .next t ∧
          t = (((((s.withGate t.gate).withQueue t.queue).withStreams t.streams).withLevels t.levels).withLink
            t.link).withAlert t.alert ∧
          t.gate.high = true ∧
          t.gate.record = some
            { hasEntry := true, tag := e.tag, stream := e.stream, layer := e.layer, block := e.next, intent := e.intent,
              slot := none, outcome := .skipped reason, ended := false } ∧
          t.queue =
            { e with
              next := e.next + 1, skipped := e.skipped + 1
              state := if e.state = .waiting then .waiting else .current } :: rest ∧
          t.stream e.stream = (if st.mode = .closed then st else
            { st with skipped := if st.skipped < 4294967295 then st.skipped + 1 else 4294967295 }) ∧
          (∀ n, n ≠ e.stream → t.stream n = s.stream n) ∧
          t.levels = { s.levels with prepared := t.levels.prepared, standIn := t.levels.standIn } ∧ TargetFollowed s t ∧
          Told [.skip (some e.tag) e.next reason] .skip s t)

/-- A fall ends the block in service: from Reading or Writing the laser returns to Idle at the read drive of the handed-off set; the
translations deferred to this fall go; an entry with its ended mark set leaves without DONE, one whose run is used up leaves with DONE,
any other stays; the gate becomes Low with no record (R55, R80, R91 to R93). A fall with the gate Low is not taken (assumption log 5). -/
def Obligations.FallEnds : Prop :=
  ∀ s : State, s.inReset = false →
    (s.gate.high = false → exec .bgateFall s = .next s) ∧
    (s.gate.high = true → s.gate.record = none → exec .bgateFall s = .next (s.withGate ⟨false, none⟩)) ∧
    (∀ r l, s.gate.high = true → s.gate.record = some r → s.QueueOrdered →
      let returns := s.laser.state = .reading ∨ s.laser.state = .writing
      (returns → s.levels.servedSinceOn = true ∧ s.levels.handedOff = some l) →
      let drive : Int := l.read.current + s.monitor.apc
      ∃ base t told, exec .bgateFall s = .next t ∧ TriggerFrame [] told (base.withGate ⟨false, none⟩) t ∧
        t.gate.record = none ∧
        (¬ returns → base = s) ∧
        (returns →
          base = ((((s.withWritePath none).withLaser
            { s.laser with
              state := .idle, gateTimer := none, lsel := .read,
              current := if drive < 0 then 0 else if (s.laser.ceilings.imax : Int) < drive then s.laser.ceilings.imax
                         else drive.toNat }).withMonitor base.monitor).raiseIf
            (decide ((s.laser.ceilings.imax : Int) < drive)) .iclamp) ∧
          base.monitor =
            { s.monitor with
              idleTimer := some 100, peakHold := none, blockSamples := base.monitor.blockSamples } ∧
          ∀ d ∈ base.monitor.blockSamples, d.live = false) ∧
        ((∀ e ∈ s.queue, r.isOf e = false) → t.queue = s.queue ∧ told = [] ∧ t.zones = s.zones) ∧
        (∀ e ∈ s.queue, r.isOf e = true →
          (r.ended = true → t.queue = (s.queue.filter fun f => f.tag != e.tag) ∧ told = []) ∧
          (r.ended = false → e.state ≠ .waiting → e.start + e.accepted ≤ e.next →
            t.queue = (s.queue.filter fun f => f.tag != e.tag) ∧ told = [.done e.tag e.served e.skipped]) ∧
          (r.ended = false → e.state = .waiting ∨ e.next < e.start + e.accepted →
            ∃ e', t.queue = (s.queue.map fun f => if f.tag = e.tag then e' else f) ∧ told = [] ∧
              e' = { e with primary := e'.primary, secondary := e'.secondary, deferred := e'.deferred } ∧
              (∀ i, e'.names i = (e.names i && !e.deferred.contains i)) ∧
              ∀ i, (s.zone i).state ≠ .retiring →
                t.zone i = { s.zone i with pins := (s.zone i).pins - e.deferred.count i })))

/-- The write path: transitions open and close marks, each classified by its length held to 2T..9T; a mark start begins the pattern of
section 3.3 for its length and class, dropping what was left of the pattern before; each step's end drives the next, bias after the
last; the peak hold takes the highest code of every peak step (R47, R52 to R55, R146). The codes and the mark lengths that the rows
carry, that a code enters the hold whether or not its row acts, that the three rows do no more without a write path, a mark or a step,
and a mark that starts unclassified as a 9T one, are the model's choices and readings (assumption logs 3, 5, 12, 13, 14). -/
def Obligations.WritePathFollows : Prop :=
  ∀ (s : State) (fmon : MonitorCode) (periods : Nat), s.inReset = false →
    (s.writePath = none → exec (.wdataTransition periods) s = .next s ∧ exec (.markStart fmon) s = .next s ∧
      exec (.patternStepEnd fmon) s = .next s) ∧
    (∀ w, s.writePath = some w →
      let levelOf : List PatternStep → LevelCode := fun steps => match steps with
        | step :: _ => step.level
        | [] => .bias
      let currentAt : LevelCode → Nat := fun level =>
        if level = .peak then w.peak else if level = .bottom then w.bottom else if level = .bias then w.bias else 0
      let hold : Option Nat := if levelOf w.steps = .peak then
          some (match s.monitor.peakHold with
            | some h => if h < fmon.toNat then fmon.toNat else h
            | none => fmon.toNat)
        else s.monitor.peakHold
      let seen := { s.monitor with peakHold := hold }
      let driven := fun (marks : List (Option Nat)) (steps : List PatternStep) =>
        ((s.withWritePath (some { w with marks := marks, steps := steps })).withLaser
          { s.laser with lsel := levelOf steps, current := currentAt (levelOf steps) }).withMonitor seen
      let shaped := if periods < 2 then 2 else if 9 < periods then 9 else periods
      (w.inMark = false → exec (.wdataTransition periods) s =
        .next (s.withWritePath (some { w with inMark := true, marks := w.marks ++ [none] }))) ∧
      (∀ older, w.inMark = true → w.marks = older ++ [none] → exec (.wdataTransition periods) s =
        .next (s.withWritePath (some { w with inMark := false, marks := older ++ [some shaped] }))) ∧
      (w.inMark = true → w.marks.getLast? ≠ some none → exec (.wdataTransition periods) s =
        .next (s.withWritePath (some { w with inMark := false }))) ∧
      (w.marks = [] → exec (.markStart fmon) s = .next (s.withMonitor seen)) ∧
      (∀ mark rest n, w.marks = mark :: rest → (mark = some n ∨ (mark = none ∧ n = 9)) → 2 ≤ n → n ≤ 9 →
        let c := if n = 2 then w.record.c2 else if n = 3 then w.record.c3 else if n = 4 then w.record.c4 else w.record.c5
        let pulses := if n ≤ 3 then 0 else if n = 4 then 1 else n - 3
        let pattern : List PatternStep := [⟨.bottom, c.dF⟩, ⟨.peak, c.wF⟩] ++
          (List.replicate pulses [PatternStep.mk .peak c.wM, ⟨.bottom, 16 - c.wM⟩]).flatten ++
          (if 3 ≤ n then [⟨.peak, c.wL⟩] else []) ++ [⟨.bottom, c.wC⟩]
        exec (.markStart fmon) s = .next (driven rest (pattern.filter fun step => step.width != 0))) ∧
      (w.steps = [] → exec (.patternStepEnd fmon) s = .next s) ∧
      (∀ step rest, w.steps = step :: rest → exec (.patternStepEnd fmon) s = .next (driven w.marks rest)))

/-! ### Output monitor -/

/-- A block sample is taken for a block still in service with the laser in the state its rise gave it, and dropped otherwise; a write
sample takes the peak hold's code against the peak target and is dropped with the hold empty; an idle sample is taken at each expiry in
Idle against the read target of the set in use (R144 to R147). FMON's code as the rows carry it, which the peak hold takes first while a
peak step is driven, that they act whatever the time counted, that a sample replaces a conversion still in flight, the list of samples
due, and that a row with no sample due does nothing else, are the model's choices and readings (assumption logs 3, 5, 12, 16, 20). -/
def Obligations.SamplesStart : Prop :=
  ∀ (s : State) (fmon : MonitorCode), s.inReset = false →
    let drivesPeak := ∃ w, s.writePath = some w ∧ (w.steps.head?.map PatternStep.level) = some LevelCode.peak
    ∀ hold : Option Nat,
      (drivesPeak → hold = some (match s.monitor.peakHold with
        | some h => if h < fmon.toNat then fmon.toNat else h
        | none => fmon.toNat)) →
      (¬ drivesPeak → hold = s.monitor.peakHold) →
    let seen := { s.monitor with peakHold := hold }
    let started := fun (m : Monitor) (kind : SampleKind) (code target : Nat) => s.withMonitor
      { m with conversion := some ⟨kind, code, target, s.laser.model.gain, s.laser.ceilings.monTol⟩ }
    (s.monitor.blockSamples = [] → exec (.blockSample fmon) s = .next (s.withMonitor seen)) ∧
    (∀ d rest, s.monitor.blockSamples = d :: rest →
      let base := { seen with blockSamples := rest }
      (d.live = false ∨ s.laser.state ≠ d.state → exec (.blockSample fmon) s = .next (s.withMonitor base)) ∧
      (∀ l, d.live = true → s.laser.state = .reading → d.state = .reading → s.levels.handedOff = some l →
        exec (.blockSample fmon) s = .next (started base .readBlock fmon.toNat l.read.power)) ∧
      (∀ l w, d.live = true → s.laser.state = .writing → d.state = .writing → s.levels.handedOff = some l →
        l.write = some w →
        (∀ code, hold = some code → exec (.blockSample fmon) s = .next (started base .write code w.peak.power)) ∧
        (hold = none → exec (.blockSample fmon) s = .next (s.withMonitor base)))) ∧
    (s.laser.state ≠ .idle ∨ s.monitor.idleTimer = none → exec (.idleSampleTimerExpiry fmon) s = .next (s.withMonitor seen)) ∧
    (s.laser.state = .idle → s.monitor.idleTimer.isSome = true →
      let next := { seen with idleTimer := some 100 }
      (∀ l, s.levels.servedSinceOn = true → s.levels.handedOff = some l →
        exec (.idleSampleTimerExpiry fmon) s = .next (started next .idle fmon.toNat l.read.power)) ∧
      (∀ i, s.levels.servedSinceOn = false → s.levels.idleSet = some i →
        exec (.idleSampleTimerExpiry fmon) s = .next (started next .idle fmon.toNat i.power)))

/-- A conversion completes: the measured power against the target and its allowance moves the mismatch count, and a read-level sample
steps the APC offset, both with the laser emitting; in Fault a mismatch alone counts; the count reaching 8 faults the laser or sets the
further flag; a changed offset forms the read drive again in Reading and Idle (R41, R44, R135, R144, R148 to R151). That the step is
made even at a comparison that faults the laser, that a completion with no conversion in flight does nothing, and which block the fault
record names after a clock unlock ended its service, are the model's readings (assumption logs 5, 15 and 35). -/
def Obligations.ConversionCompletes : Prop :=
  ∀ s : State, s.inReset = false →
    (s.monitor.conversion = none → exec .conversionComplete s = .next s) ∧
    (∀ c, s.monitor.conversion = some c →
      let measured : Int := roundHalfUp ((c.code : ℚ) * c.gain / 1024)
      let good := |measured - c.target| ≤ ⌊(c.tolerance : ℚ) * c.target / 100⌋
      let emits := s.laser.state = .idle ∨ s.laser.state = .reading ∨ s.laser.state = .writing
      let m := s.monitor
      (s.laser.state = .off ∨ s.laser.state = .standby →
        exec .conversionComplete s = .next (s.withMonitor { m with conversion := none })) ∧
      (s.laser.state = .fault →
        (good → exec .conversionComplete s = .next (s.withMonitor { m with conversion := none })) ∧
        (¬ good → m.mismatch ≠ 7 → exec .conversionComplete s = .next (s.withMonitor
          { m with conversion := none, mismatch := if 8 ≤ m.mismatch then 8 else m.mismatch + 1 })) ∧
        (¬ good → m.mismatch = 7 → exec .conversionComplete s = .next (((s.withMonitor
          { m with conversion := none, mismatch := 8 }).withLaser
          { s.laser with faultRecord := { s.laser.faultRecord with further := true } }).raiseIf
            (!s.laser.faultRecord.further) .fault))) ∧
      (∀ apc : Int, emits →
        apc = (if c.kind = .write then m.apc
               else if measured < c.target then (if m.apc < 63 then m.apc + 1 else 63)
               else if (c.target : Int) < measured then (if -64 < m.apc then m.apc - 1 else -64) else m.apc) →
        (∀ count, ¬ (¬ good ∧ m.mismatch = 7) →
          count = (if good then 0 else if 8 ≤ m.mismatch then 8 else m.mismatch + 1) →
          let next := s.withMonitor { m with conversion := none, mismatch := count, apc := apc }
          (apc = m.apc ∨ s.laser.state = .writing → exec .conversionComplete s = .next next) ∧
          (∀ read : Nat, apc ≠ m.apc → s.laser.state = .reading ∨ s.laser.state = .idle →
            (s.laser.state = .reading ∨ s.levels.servedSinceOn = true →
              ∃ l, s.levels.handedOff = some l ∧ l.read.current = read) →
            (s.laser.state = .idle → s.levels.servedSinceOn = false →
              ∃ i, s.levels.idleSet = some i ∧ i.readCurrent = read) →
            let drive : Int := read + apc
            exec .conversionComplete s = .next ((next.withLaser
              { s.laser with
                lsel := .read
                current := if drive < 0 then 0 else if (s.laser.ceilings.imax : Int) < drive then s.laser.ceilings.imax
                           else drive.toNat }).raiseIf (decide ((s.laser.ceilings.imax : Int) < drive)) .iclamp))) ∧
        (¬ good → m.mismatch = 7 → ∃ t, exec .conversionComplete s = .next t ∧
          Faulted .monitorMismatch (s.withMonitor { m with conversion := none, mismatch := 8, apc := apc }) t)))

/-! ### Invariants -/

/-- The invariants of the machine hold after power-on. -/
def Obligations.ResetKeepsInvariants : Prop :=
  State.reset.Followed ∧ State.reset.Emission ∧ State.reset.ZonesDisjoint ∧ State.reset.RefsCount ∧ State.reset.PinsCount ∧
    State.reset.QueueOrdered ∧ State.reset.WithinRanges

/-- Every step keeps the laser's promises: writing only in a served write block with the clock Locked and the gate timed, current at
most Imax, none in Off and Fault (R43, R62, R124, R125, R134). -/
def Obligations.EmissionKept : Prop :=
  ∀ s t : State, s.Emission → step s = .next t → t.Emission

/-- Every step keeps the Loaded, Absent and Closed descriptors of one layer from overlapping (R4). -/
def Obligations.ZonesDisjointKept : Prop :=
  ∀ s t : State, s.ZonesDisjoint → step s = .next t → t.ZonesDisjoint

/-- Every step keeps each strategy's reference count the number of descriptors that name it, and a counted strategy Loaded (R49). -/
def Obligations.RefsCountKept : Prop :=
  ∀ s t : State, s.RefsCount → step s = .next t → t.RefsCount

/-- Every step keeps each descriptor's pin count the number of queue translations naming it, and 0 for a Free one (R5). -/
def Obligations.PinsCountKept : Prop :=
  ∀ s t : State, s.QueueOrdered → s.PinsCount → step s = .next t → t.PinsCount

/-- Every step keeps the queue's tags distinct, its oldest entry the only one that may be Current, its Waiting entries the newest, and
the translator on the oldest of them (R61, R63, R81). -/
def Obligations.QueueOrderKept : Prop :=
  ∀ s t : State, s.QueueOrdered → step s = .next t → t.QueueOrdered

/-- Every step keeps the capacities and ranges: 32 replies, 8 entries, 16 guard ranges, mismatch count 0..8, APC offset -64..+63, flag
masks without bits 13..15, trim -128..+127, target and deadband, stream counters (R14, R23, R59, R61, R101, R106, R149, R151). -/
def Obligations.RangesKept : Prop :=
  ∀ s t : State, s.WithinRanges → step s = .next t → t.WithinRanges

end
end

