-- ==== Sys2Proof/Laws/State.lean ====
section
/-!
SUPPORT. What each update of a block leaves of each field: one lemma per field and update, true by rfl.
-/

namespace Sys2Proof.Laws

open Sys2Proof Sys2Proof.Machine

section
variable (s : State) (v : Bool)
@[simp] theorem withInReset_inReset : (s.withInReset v).inReset = v := rfl
@[simp] theorem withInReset_zones : (s.withInReset v).zones = s.zones := rfl
@[simp] theorem withInReset_strategies : (s.withInReset v).strategies = s.strategies := rfl
@[simp] theorem withInReset_guards : (s.withInReset v).guards = s.guards := rfl
@[simp] theorem withInReset_streams : (s.withInReset v).streams = s.streams := rfl
@[simp] theorem withInReset_queue : (s.withInReset v).queue = s.queue := rfl
@[simp] theorem withInReset_translating : (s.withInReset v).translating = s.translating := rfl
@[simp] theorem withInReset_link : (s.withInReset v).link = s.link := rfl
@[simp] theorem withInReset_gate : (s.withInReset v).gate = s.gate := rfl
@[simp] theorem withInReset_writePath : (s.withInReset v).writePath = s.writePath := rfl
@[simp] theorem withInReset_levels : (s.withInReset v).levels = s.levels := rfl
@[simp] theorem withInReset_pickup : (s.withInReset v).pickup = s.pickup := rfl
@[simp] theorem withInReset_laser : (s.withInReset v).laser = s.laser := rfl
@[simp] theorem withInReset_monitor : (s.withInReset v).monitor = s.monitor := rfl
@[simp] theorem withInReset_port : (s.withInReset v).port = s.port := rfl
@[simp] theorem withInReset_alert : (s.withInReset v).alert = s.alert := rfl
@[simp] theorem withInReset_pending : (s.withInReset v).pending = s.pending := rfl
@[simp] theorem withInReset_same (w : Bool) : (s.withInReset v).withInReset w = s.withInReset w := rfl
@[simp] theorem withInReset_self : s.withInReset s.inReset = s := rfl
end

section
variable (s : State) (v : Vector Zone 128)
@[simp] theorem withZones_inReset : (s.withZones v).inReset = s.inReset := rfl
@[simp] theorem withZones_zones : (s.withZones v).zones = v := rfl
@[simp] theorem withZones_strategies : (s.withZones v).strategies = s.strategies := rfl
@[simp] theorem withZones_guards : (s.withZones v).guards = s.guards := rfl
@[simp] theorem withZones_streams : (s.withZones v).streams = s.streams := rfl
@[simp] theorem withZones_queue : (s.withZones v).queue = s.queue := rfl
@[simp] theorem withZones_translating : (s.withZones v).translating = s.translating := rfl
@[simp] theorem withZones_link : (s.withZones v).link = s.link := rfl
@[simp] theorem withZones_gate : (s.withZones v).gate = s.gate := rfl
@[simp] theorem withZones_writePath : (s.withZones v).writePath = s.writePath := rfl
@[simp] theorem withZones_levels : (s.withZones v).levels = s.levels := rfl
@[simp] theorem withZones_pickup : (s.withZones v).pickup = s.pickup := rfl
@[simp] theorem withZones_laser : (s.withZones v).laser = s.laser := rfl
@[simp] theorem withZones_monitor : (s.withZones v).monitor = s.monitor := rfl
@[simp] theorem withZones_port : (s.withZones v).port = s.port := rfl
@[simp] theorem withZones_alert : (s.withZones v).alert = s.alert := rfl
@[simp] theorem withZones_pending : (s.withZones v).pending = s.pending := rfl
@[simp] theorem withZones_same (w : Vector Zone 128) : (s.withZones v).withZones w = s.withZones w := rfl
@[simp] theorem withZones_self : s.withZones s.zones = s := rfl
end

section
variable (s : State) (v : Vector Strategy 16)
@[simp] theorem withStrategies_inReset : (s.withStrategies v).inReset = s.inReset := rfl
@[simp] theorem withStrategies_zones : (s.withStrategies v).zones = s.zones := rfl
@[simp] theorem withStrategies_strategies : (s.withStrategies v).strategies = v := rfl
@[simp] theorem withStrategies_guards : (s.withStrategies v).guards = s.guards := rfl
@[simp] theorem withStrategies_streams : (s.withStrategies v).streams = s.streams := rfl
@[simp] theorem withStrategies_queue : (s.withStrategies v).queue = s.queue := rfl
@[simp] theorem withStrategies_translating : (s.withStrategies v).translating = s.translating := rfl
@[simp] theorem withStrategies_link : (s.withStrategies v).link = s.link := rfl
@[simp] theorem withStrategies_gate : (s.withStrategies v).gate = s.gate := rfl
@[simp] theorem withStrategies_writePath : (s.withStrategies v).writePath = s.writePath := rfl
@[simp] theorem withStrategies_levels : (s.withStrategies v).levels = s.levels := rfl
@[simp] theorem withStrategies_pickup : (s.withStrategies v).pickup = s.pickup := rfl
@[simp] theorem withStrategies_laser : (s.withStrategies v).laser = s.laser := rfl
@[simp] theorem withStrategies_monitor : (s.withStrategies v).monitor = s.monitor := rfl
@[simp] theorem withStrategies_port : (s.withStrategies v).port = s.port := rfl
@[simp] theorem withStrategies_alert : (s.withStrategies v).alert = s.alert := rfl
@[simp] theorem withStrategies_pending : (s.withStrategies v).pending = s.pending := rfl
@[simp] theorem withStrategies_same (w : Vector Strategy 16) : (s.withStrategies v).withStrategies w = s.withStrategies w := rfl
@[simp] theorem withStrategies_self : s.withStrategies s.strategies = s := rfl
end

section
variable (s : State) (v : List Guard)
@[simp] theorem withGuards_inReset : (s.withGuards v).inReset = s.inReset := rfl
@[simp] theorem withGuards_zones : (s.withGuards v).zones = s.zones := rfl
@[simp] theorem withGuards_strategies : (s.withGuards v).strategies = s.strategies := rfl
@[simp] theorem withGuards_guards : (s.withGuards v).guards = v := rfl
@[simp] theorem withGuards_streams : (s.withGuards v).streams = s.streams := rfl
@[simp] theorem withGuards_queue : (s.withGuards v).queue = s.queue := rfl
@[simp] theorem withGuards_translating : (s.withGuards v).translating = s.translating := rfl
@[simp] theorem withGuards_link : (s.withGuards v).link = s.link := rfl
@[simp] theorem withGuards_gate : (s.withGuards v).gate = s.gate := rfl
@[simp] theorem withGuards_writePath : (s.withGuards v).writePath = s.writePath := rfl
@[simp] theorem withGuards_levels : (s.withGuards v).levels = s.levels := rfl
@[simp] theorem withGuards_pickup : (s.withGuards v).pickup = s.pickup := rfl
@[simp] theorem withGuards_laser : (s.withGuards v).laser = s.laser := rfl
@[simp] theorem withGuards_monitor : (s.withGuards v).monitor = s.monitor := rfl
@[simp] theorem withGuards_port : (s.withGuards v).port = s.port := rfl
@[simp] theorem withGuards_alert : (s.withGuards v).alert = s.alert := rfl
@[simp] theorem withGuards_pending : (s.withGuards v).pending = s.pending := rfl
@[simp] theorem withGuards_same (w : List Guard) : (s.withGuards v).withGuards w = s.withGuards w := rfl
@[simp] theorem withGuards_self : s.withGuards s.guards = s := rfl
end

section
variable (s : State) (v : Vector Stream 4)
@[simp] theorem withStreams_inReset : (s.withStreams v).inReset = s.inReset := rfl
@[simp] theorem withStreams_zones : (s.withStreams v).zones = s.zones := rfl
@[simp] theorem withStreams_strategies : (s.withStreams v).strategies = s.strategies := rfl
@[simp] theorem withStreams_guards : (s.withStreams v).guards = s.guards := rfl
@[simp] theorem withStreams_streams : (s.withStreams v).streams = v := rfl
@[simp] theorem withStreams_queue : (s.withStreams v).queue = s.queue := rfl
@[simp] theorem withStreams_translating : (s.withStreams v).translating = s.translating := rfl
@[simp] theorem withStreams_link : (s.withStreams v).link = s.link := rfl
@[simp] theorem withStreams_gate : (s.withStreams v).gate = s.gate := rfl
@[simp] theorem withStreams_writePath : (s.withStreams v).writePath = s.writePath := rfl
@[simp] theorem withStreams_levels : (s.withStreams v).levels = s.levels := rfl
@[simp] theorem withStreams_pickup : (s.withStreams v).pickup = s.pickup := rfl
@[simp] theorem withStreams_laser : (s.withStreams v).laser = s.laser := rfl
@[simp] theorem withStreams_monitor : (s.withStreams v).monitor = s.monitor := rfl
@[simp] theorem withStreams_port : (s.withStreams v).port = s.port := rfl
@[simp] theorem withStreams_alert : (s.withStreams v).alert = s.alert := rfl
@[simp] theorem withStreams_pending : (s.withStreams v).pending = s.pending := rfl
@[simp] theorem withStreams_same (w : Vector Stream 4) : (s.withStreams v).withStreams w = s.withStreams w := rfl
@[simp] theorem withStreams_self : s.withStreams s.streams = s := rfl
end

section
variable (s : State) (v : List Entry)
@[simp] theorem withQueue_inReset : (s.withQueue v).inReset = s.inReset := rfl
@[simp] theorem withQueue_zones : (s.withQueue v).zones = s.zones := rfl
@[simp] theorem withQueue_strategies : (s.withQueue v).strategies = s.strategies := rfl
@[simp] theorem withQueue_guards : (s.withQueue v).guards = s.guards := rfl
@[simp] theorem withQueue_streams : (s.withQueue v).streams = s.streams := rfl
@[simp] theorem withQueue_queue : (s.withQueue v).queue = v := rfl
@[simp] theorem withQueue_translating : (s.withQueue v).translating = s.translating := rfl
@[simp] theorem withQueue_link : (s.withQueue v).link = s.link := rfl
@[simp] theorem withQueue_gate : (s.withQueue v).gate = s.gate := rfl
@[simp] theorem withQueue_writePath : (s.withQueue v).writePath = s.writePath := rfl
@[simp] theorem withQueue_levels : (s.withQueue v).levels = s.levels := rfl
@[simp] theorem withQueue_pickup : (s.withQueue v).pickup = s.pickup := rfl
@[simp] theorem withQueue_laser : (s.withQueue v).laser = s.laser := rfl
@[simp] theorem withQueue_monitor : (s.withQueue v).monitor = s.monitor := rfl
@[simp] theorem withQueue_port : (s.withQueue v).port = s.port := rfl
@[simp] theorem withQueue_alert : (s.withQueue v).alert = s.alert := rfl
@[simp] theorem withQueue_pending : (s.withQueue v).pending = s.pending := rfl
@[simp] theorem withQueue_same (w : List Entry) : (s.withQueue v).withQueue w = s.withQueue w := rfl
@[simp] theorem withQueue_self : s.withQueue s.queue = s := rfl
end

section
variable (s : State) (v : Option Byte)
@[simp] theorem withTranslating_inReset : (s.withTranslating v).inReset = s.inReset := rfl
@[simp] theorem withTranslating_zones : (s.withTranslating v).zones = s.zones := rfl
@[simp] theorem withTranslating_strategies : (s.withTranslating v).strategies = s.strategies := rfl
@[simp] theorem withTranslating_guards : (s.withTranslating v).guards = s.guards := rfl
@[simp] theorem withTranslating_streams : (s.withTranslating v).streams = s.streams := rfl
@[simp] theorem withTranslating_queue : (s.withTranslating v).queue = s.queue := rfl
@[simp] theorem withTranslating_translating : (s.withTranslating v).translating = v := rfl
@[simp] theorem withTranslating_link : (s.withTranslating v).link = s.link := rfl
@[simp] theorem withTranslating_gate : (s.withTranslating v).gate = s.gate := rfl
@[simp] theorem withTranslating_writePath : (s.withTranslating v).writePath = s.writePath := rfl
@[simp] theorem withTranslating_levels : (s.withTranslating v).levels = s.levels := rfl
@[simp] theorem withTranslating_pickup : (s.withTranslating v).pickup = s.pickup := rfl
@[simp] theorem withTranslating_laser : (s.withTranslating v).laser = s.laser := rfl
@[simp] theorem withTranslating_monitor : (s.withTranslating v).monitor = s.monitor := rfl
@[simp] theorem withTranslating_port : (s.withTranslating v).port = s.port := rfl
@[simp] theorem withTranslating_alert : (s.withTranslating v).alert = s.alert := rfl
@[simp] theorem withTranslating_pending : (s.withTranslating v).pending = s.pending := rfl
@[simp] theorem withTranslating_same (w : Option Byte) : (s.withTranslating v).withTranslating w = s.withTranslating w := rfl
@[simp] theorem withTranslating_self : s.withTranslating s.translating = s := rfl
end

section
variable (s : State) (v : Link)
@[simp] theorem withLink_inReset : (s.withLink v).inReset = s.inReset := rfl
@[simp] theorem withLink_zones : (s.withLink v).zones = s.zones := rfl
@[simp] theorem withLink_strategies : (s.withLink v).strategies = s.strategies := rfl
@[simp] theorem withLink_guards : (s.withLink v).guards = s.guards := rfl
@[simp] theorem withLink_streams : (s.withLink v).streams = s.streams := rfl
@[simp] theorem withLink_queue : (s.withLink v).queue = s.queue := rfl
@[simp] theorem withLink_translating : (s.withLink v).translating = s.translating := rfl
@[simp] theorem withLink_link : (s.withLink v).link = v := rfl
@[simp] theorem withLink_gate : (s.withLink v).gate = s.gate := rfl
@[simp] theorem withLink_writePath : (s.withLink v).writePath = s.writePath := rfl
@[simp] theorem withLink_levels : (s.withLink v).levels = s.levels := rfl
@[simp] theorem withLink_pickup : (s.withLink v).pickup = s.pickup := rfl
@[simp] theorem withLink_laser : (s.withLink v).laser = s.laser := rfl
@[simp] theorem withLink_monitor : (s.withLink v).monitor = s.monitor := rfl
@[simp] theorem withLink_port : (s.withLink v).port = s.port := rfl
@[simp] theorem withLink_alert : (s.withLink v).alert = s.alert := rfl
@[simp] theorem withLink_pending : (s.withLink v).pending = s.pending := rfl
@[simp] theorem withLink_same (w : Link) : (s.withLink v).withLink w = s.withLink w := rfl
@[simp] theorem withLink_self : s.withLink s.link = s := rfl
end

section
variable (s : State) (v : Gate)
@[simp] theorem withGate_inReset : (s.withGate v).inReset = s.inReset := rfl
@[simp] theorem withGate_zones : (s.withGate v).zones = s.zones := rfl
@[simp] theorem withGate_strategies : (s.withGate v).strategies = s.strategies := rfl
@[simp] theorem withGate_guards : (s.withGate v).guards = s.guards := rfl
@[simp] theorem withGate_streams : (s.withGate v).streams = s.streams := rfl
@[simp] theorem withGate_queue : (s.withGate v).queue = s.queue := rfl
@[simp] theorem withGate_translating : (s.withGate v).translating = s.translating := rfl
@[simp] theorem withGate_link : (s.withGate v).link = s.link := rfl
@[simp] theorem withGate_gate : (s.withGate v).gate = v := rfl
@[simp] theorem withGate_writePath : (s.withGate v).writePath = s.writePath := rfl
@[simp] theorem withGate_levels : (s.withGate v).levels = s.levels := rfl
@[simp] theorem withGate_pickup : (s.withGate v).pickup = s.pickup := rfl
@[simp] theorem withGate_laser : (s.withGate v).laser = s.laser := rfl
@[simp] theorem withGate_monitor : (s.withGate v).monitor = s.monitor := rfl
@[simp] theorem withGate_port : (s.withGate v).port = s.port := rfl
@[simp] theorem withGate_alert : (s.withGate v).alert = s.alert := rfl
@[simp] theorem withGate_pending : (s.withGate v).pending = s.pending := rfl
@[simp] theorem withGate_same (w : Gate) : (s.withGate v).withGate w = s.withGate w := rfl
@[simp] theorem withGate_self : s.withGate s.gate = s := rfl
end

section
variable (s : State) (v : Option WritePath)
@[simp] theorem withWritePath_inReset : (s.withWritePath v).inReset = s.inReset := rfl
@[simp] theorem withWritePath_zones : (s.withWritePath v).zones = s.zones := rfl
@[simp] theorem withWritePath_strategies : (s.withWritePath v).strategies = s.strategies := rfl
@[simp] theorem withWritePath_guards : (s.withWritePath v).guards = s.guards := rfl
@[simp] theorem withWritePath_streams : (s.withWritePath v).streams = s.streams := rfl
@[simp] theorem withWritePath_queue : (s.withWritePath v).queue = s.queue := rfl
@[simp] theorem withWritePath_translating : (s.withWritePath v).translating = s.translating := rfl
@[simp] theorem withWritePath_link : (s.withWritePath v).link = s.link := rfl
@[simp] theorem withWritePath_gate : (s.withWritePath v).gate = s.gate := rfl
@[simp] theorem withWritePath_writePath : (s.withWritePath v).writePath = v := rfl
@[simp] theorem withWritePath_levels : (s.withWritePath v).levels = s.levels := rfl
@[simp] theorem withWritePath_pickup : (s.withWritePath v).pickup = s.pickup := rfl
@[simp] theorem withWritePath_laser : (s.withWritePath v).laser = s.laser := rfl
@[simp] theorem withWritePath_monitor : (s.withWritePath v).monitor = s.monitor := rfl
@[simp] theorem withWritePath_port : (s.withWritePath v).port = s.port := rfl
@[simp] theorem withWritePath_alert : (s.withWritePath v).alert = s.alert := rfl
@[simp] theorem withWritePath_pending : (s.withWritePath v).pending = s.pending := rfl
@[simp] theorem withWritePath_same (w : Option WritePath) : (s.withWritePath v).withWritePath w = s.withWritePath w := rfl
@[simp] theorem withWritePath_self : s.withWritePath s.writePath = s := rfl
end

section
variable (s : State) (v : LevelComputer)
@[simp] theorem withLevels_inReset : (s.withLevels v).inReset = s.inReset := rfl
@[simp] theorem withLevels_zones : (s.withLevels v).zones = s.zones := rfl
@[simp] theorem withLevels_strategies : (s.withLevels v).strategies = s.strategies := rfl
@[simp] theorem withLevels_guards : (s.withLevels v).guards = s.guards := rfl
@[simp] theorem withLevels_streams : (s.withLevels v).streams = s.streams := rfl
@[simp] theorem withLevels_queue : (s.withLevels v).queue = s.queue := rfl
@[simp] theorem withLevels_translating : (s.withLevels v).translating = s.translating := rfl
@[simp] theorem withLevels_link : (s.withLevels v).link = s.link := rfl
@[simp] theorem withLevels_gate : (s.withLevels v).gate = s.gate := rfl
@[simp] theorem withLevels_writePath : (s.withLevels v).writePath = s.writePath := rfl
@[simp] theorem withLevels_levels : (s.withLevels v).levels = v := rfl
@[simp] theorem withLevels_pickup : (s.withLevels v).pickup = s.pickup := rfl
@[simp] theorem withLevels_laser : (s.withLevels v).laser = s.laser := rfl
@[simp] theorem withLevels_monitor : (s.withLevels v).monitor = s.monitor := rfl
@[simp] theorem withLevels_port : (s.withLevels v).port = s.port := rfl
@[simp] theorem withLevels_alert : (s.withLevels v).alert = s.alert := rfl
@[simp] theorem withLevels_pending : (s.withLevels v).pending = s.pending := rfl
@[simp] theorem withLevels_same (w : LevelComputer) : (s.withLevels v).withLevels w = s.withLevels w := rfl
@[simp] theorem withLevels_self : s.withLevels s.levels = s := rfl
end

section
variable (s : State) (v : Pickup)
@[simp] theorem withPickup_inReset : (s.withPickup v).inReset = s.inReset := rfl
@[simp] theorem withPickup_zones : (s.withPickup v).zones = s.zones := rfl
@[simp] theorem withPickup_strategies : (s.withPickup v).strategies = s.strategies := rfl
@[simp] theorem withPickup_guards : (s.withPickup v).guards = s.guards := rfl
@[simp] theorem withPickup_streams : (s.withPickup v).streams = s.streams := rfl
@[simp] theorem withPickup_queue : (s.withPickup v).queue = s.queue := rfl
@[simp] theorem withPickup_translating : (s.withPickup v).translating = s.translating := rfl
@[simp] theorem withPickup_link : (s.withPickup v).link = s.link := rfl
@[simp] theorem withPickup_gate : (s.withPickup v).gate = s.gate := rfl
@[simp] theorem withPickup_writePath : (s.withPickup v).writePath = s.writePath := rfl
@[simp] theorem withPickup_levels : (s.withPickup v).levels = s.levels := rfl
@[simp] theorem withPickup_pickup : (s.withPickup v).pickup = v := rfl
@[simp] theorem withPickup_laser : (s.withPickup v).laser = s.laser := rfl
@[simp] theorem withPickup_monitor : (s.withPickup v).monitor = s.monitor := rfl
@[simp] theorem withPickup_port : (s.withPickup v).port = s.port := rfl
@[simp] theorem withPickup_alert : (s.withPickup v).alert = s.alert := rfl
@[simp] theorem withPickup_pending : (s.withPickup v).pending = s.pending := rfl
@[simp] theorem withPickup_same (w : Pickup) : (s.withPickup v).withPickup w = s.withPickup w := rfl
@[simp] theorem withPickup_self : s.withPickup s.pickup = s := rfl
end

section
variable (s : State) (v : Laser)
@[simp] theorem withLaser_inReset : (s.withLaser v).inReset = s.inReset := rfl
@[simp] theorem withLaser_zones : (s.withLaser v).zones = s.zones := rfl
@[simp] theorem withLaser_strategies : (s.withLaser v).strategies = s.strategies := rfl
@[simp] theorem withLaser_guards : (s.withLaser v).guards = s.guards := rfl
@[simp] theorem withLaser_streams : (s.withLaser v).streams = s.streams := rfl
@[simp] theorem withLaser_queue : (s.withLaser v).queue = s.queue := rfl
@[simp] theorem withLaser_translating : (s.withLaser v).translating = s.translating := rfl
@[simp] theorem withLaser_link : (s.withLaser v).link = s.link := rfl
@[simp] theorem withLaser_gate : (s.withLaser v).gate = s.gate := rfl
@[simp] theorem withLaser_writePath : (s.withLaser v).writePath = s.writePath := rfl
@[simp] theorem withLaser_levels : (s.withLaser v).levels = s.levels := rfl
@[simp] theorem withLaser_pickup : (s.withLaser v).pickup = s.pickup := rfl
@[simp] theorem withLaser_laser : (s.withLaser v).laser = v := rfl
@[simp] theorem withLaser_monitor : (s.withLaser v).monitor = s.monitor := rfl
@[simp] theorem withLaser_port : (s.withLaser v).port = s.port := rfl
@[simp] theorem withLaser_alert : (s.withLaser v).alert = s.alert := rfl
@[simp] theorem withLaser_pending : (s.withLaser v).pending = s.pending := rfl
@[simp] theorem withLaser_same (w : Laser) : (s.withLaser v).withLaser w = s.withLaser w := rfl
@[simp] theorem withLaser_self : s.withLaser s.laser = s := rfl
end

section
variable (s : State) (v : Monitor)
@[simp] theorem withMonitor_inReset : (s.withMonitor v).inReset = s.inReset := rfl
@[simp] theorem withMonitor_zones : (s.withMonitor v).zones = s.zones := rfl
@[simp] theorem withMonitor_strategies : (s.withMonitor v).strategies = s.strategies := rfl
@[simp] theorem withMonitor_guards : (s.withMonitor v).guards = s.guards := rfl
@[simp] theorem withMonitor_streams : (s.withMonitor v).streams = s.streams := rfl
@[simp] theorem withMonitor_queue : (s.withMonitor v).queue = s.queue := rfl
@[simp] theorem withMonitor_translating : (s.withMonitor v).translating = s.translating := rfl
@[simp] theorem withMonitor_link : (s.withMonitor v).link = s.link := rfl
@[simp] theorem withMonitor_gate : (s.withMonitor v).gate = s.gate := rfl
@[simp] theorem withMonitor_writePath : (s.withMonitor v).writePath = s.writePath := rfl
@[simp] theorem withMonitor_levels : (s.withMonitor v).levels = s.levels := rfl
@[simp] theorem withMonitor_pickup : (s.withMonitor v).pickup = s.pickup := rfl
@[simp] theorem withMonitor_laser : (s.withMonitor v).laser = s.laser := rfl
@[simp] theorem withMonitor_monitor : (s.withMonitor v).monitor = v := rfl
@[simp] theorem withMonitor_port : (s.withMonitor v).port = s.port := rfl
@[simp] theorem withMonitor_alert : (s.withMonitor v).alert = s.alert := rfl
@[simp] theorem withMonitor_pending : (s.withMonitor v).pending = s.pending := rfl
@[simp] theorem withMonitor_same (w : Monitor) : (s.withMonitor v).withMonitor w = s.withMonitor w := rfl
@[simp] theorem withMonitor_self : s.withMonitor s.monitor = s := rfl
end

section
variable (s : State) (v : Port)
@[simp] theorem withPort_inReset : (s.withPort v).inReset = s.inReset := rfl
@[simp] theorem withPort_zones : (s.withPort v).zones = s.zones := rfl
@[simp] theorem withPort_strategies : (s.withPort v).strategies = s.strategies := rfl
@[simp] theorem withPort_guards : (s.withPort v).guards = s.guards := rfl
@[simp] theorem withPort_streams : (s.withPort v).streams = s.streams := rfl
@[simp] theorem withPort_queue : (s.withPort v).queue = s.queue := rfl
@[simp] theorem withPort_translating : (s.withPort v).translating = s.translating := rfl
@[simp] theorem withPort_link : (s.withPort v).link = s.link := rfl
@[simp] theorem withPort_gate : (s.withPort v).gate = s.gate := rfl
@[simp] theorem withPort_writePath : (s.withPort v).writePath = s.writePath := rfl
@[simp] theorem withPort_levels : (s.withPort v).levels = s.levels := rfl
@[simp] theorem withPort_pickup : (s.withPort v).pickup = s.pickup := rfl
@[simp] theorem withPort_laser : (s.withPort v).laser = s.laser := rfl
@[simp] theorem withPort_monitor : (s.withPort v).monitor = s.monitor := rfl
@[simp] theorem withPort_port : (s.withPort v).port = v := rfl
@[simp] theorem withPort_alert : (s.withPort v).alert = s.alert := rfl
@[simp] theorem withPort_pending : (s.withPort v).pending = s.pending := rfl
@[simp] theorem withPort_same (w : Port) : (s.withPort v).withPort w = s.withPort w := rfl
@[simp] theorem withPort_self : s.withPort s.port = s := rfl
end

section
variable (s : State) (v : Alert)
@[simp] theorem withAlert_inReset : (s.withAlert v).inReset = s.inReset := rfl
@[simp] theorem withAlert_zones : (s.withAlert v).zones = s.zones := rfl
@[simp] theorem withAlert_strategies : (s.withAlert v).strategies = s.strategies := rfl
@[simp] theorem withAlert_guards : (s.withAlert v).guards = s.guards := rfl
@[simp] theorem withAlert_streams : (s.withAlert v).streams = s.streams := rfl
@[simp] theorem withAlert_queue : (s.withAlert v).queue = s.queue := rfl
@[simp] theorem withAlert_translating : (s.withAlert v).translating = s.translating := rfl
@[simp] theorem withAlert_link : (s.withAlert v).link = s.link := rfl
@[simp] theorem withAlert_gate : (s.withAlert v).gate = s.gate := rfl
@[simp] theorem withAlert_writePath : (s.withAlert v).writePath = s.writePath := rfl
@[simp] theorem withAlert_levels : (s.withAlert v).levels = s.levels := rfl
@[simp] theorem withAlert_pickup : (s.withAlert v).pickup = s.pickup := rfl
@[simp] theorem withAlert_laser : (s.withAlert v).laser = s.laser := rfl
@[simp] theorem withAlert_monitor : (s.withAlert v).monitor = s.monitor := rfl
@[simp] theorem withAlert_port : (s.withAlert v).port = s.port := rfl
@[simp] theorem withAlert_alert : (s.withAlert v).alert = v := rfl
@[simp] theorem withAlert_pending : (s.withAlert v).pending = s.pending := rfl
@[simp] theorem withAlert_same (w : Alert) : (s.withAlert v).withAlert w = s.withAlert w := rfl
@[simp] theorem withAlert_self : s.withAlert s.alert = s := rfl
end

section
variable (s : State) (v : List Instr)
@[simp] theorem withPending_inReset : (s.withPending v).inReset = s.inReset := rfl
@[simp] theorem withPending_zones : (s.withPending v).zones = s.zones := rfl
@[simp] theorem withPending_strategies : (s.withPending v).strategies = s.strategies := rfl
@[simp] theorem withPending_guards : (s.withPending v).guards = s.guards := rfl
@[simp] theorem withPending_streams : (s.withPending v).streams = s.streams := rfl
@[simp] theorem withPending_queue : (s.withPending v).queue = s.queue := rfl
@[simp] theorem withPending_translating : (s.withPending v).translating = s.translating := rfl
@[simp] theorem withPending_link : (s.withPending v).link = s.link := rfl
@[simp] theorem withPending_gate : (s.withPending v).gate = s.gate := rfl
@[simp] theorem withPending_writePath : (s.withPending v).writePath = s.writePath := rfl
@[simp] theorem withPending_levels : (s.withPending v).levels = s.levels := rfl
@[simp] theorem withPending_pickup : (s.withPending v).pickup = s.pickup := rfl
@[simp] theorem withPending_laser : (s.withPending v).laser = s.laser := rfl
@[simp] theorem withPending_monitor : (s.withPending v).monitor = s.monitor := rfl
@[simp] theorem withPending_port : (s.withPending v).port = s.port := rfl
@[simp] theorem withPending_alert : (s.withPending v).alert = s.alert := rfl
@[simp] theorem withPending_pending : (s.withPending v).pending = v := rfl
@[simp] theorem withPending_same (w : List Instr) : (s.withPending v).withPending w = s.withPending w := rfl
@[simp] theorem withPending_self : s.withPending s.pending = s := rfl
end

end Sys2Proof.Laws
end

