-- ==== Sys2Proof/Laws/Ops.lean ====
section
/-!
SUPPORT. What each shared operation of Machine/Ops.lean leaves alone: one frame lemma per operation, naming every block it does not
touch, and its parts as simp lemmas.
-/

namespace Sys2Proof.Laws

open Sys2Proof Sys2Proof.Machine

section
variable (s : State) (f : RequestFlag)
theorem raise_frame :
    (s.raise f).inReset = s.inReset ∧
    (s.raise f).zones = s.zones ∧
    (s.raise f).strategies = s.strategies ∧
    (s.raise f).guards = s.guards ∧
    (s.raise f).streams = s.streams ∧
    (s.raise f).queue = s.queue ∧
    (s.raise f).translating = s.translating ∧
    (s.raise f).link = s.link ∧
    (s.raise f).gate = s.gate ∧
    (s.raise f).writePath = s.writePath ∧
    (s.raise f).levels = s.levels ∧
    (s.raise f).pickup = s.pickup ∧
    (s.raise f).laser = s.laser ∧
    (s.raise f).monitor = s.monitor ∧
    (s.raise f).port = s.port ∧
    (s.raise f).pending = s.pending := by
  simp [State.raise]
@[simp] theorem raise_inReset : (s.raise f).inReset = s.inReset := (raise_frame s f).1
@[simp] theorem raise_zones : (s.raise f).zones = s.zones := (raise_frame s f).2.1
@[simp] theorem raise_strategies : (s.raise f).strategies = s.strategies := (raise_frame s f).2.2.1
@[simp] theorem raise_guards : (s.raise f).guards = s.guards := (raise_frame s f).2.2.2.1
@[simp] theorem raise_streams : (s.raise f).streams = s.streams := (raise_frame s f).2.2.2.2.1
@[simp] theorem raise_queue : (s.raise f).queue = s.queue := (raise_frame s f).2.2.2.2.2.1
@[simp] theorem raise_translating : (s.raise f).translating = s.translating := (raise_frame s f).2.2.2.2.2.2.1
@[simp] theorem raise_link : (s.raise f).link = s.link := (raise_frame s f).2.2.2.2.2.2.2.1
@[simp] theorem raise_gate : (s.raise f).gate = s.gate := (raise_frame s f).2.2.2.2.2.2.2.2.1
@[simp] theorem raise_writePath : (s.raise f).writePath = s.writePath := (raise_frame s f).2.2.2.2.2.2.2.2.2.1
@[simp] theorem raise_levels : (s.raise f).levels = s.levels := (raise_frame s f).2.2.2.2.2.2.2.2.2.2.1
@[simp] theorem raise_pickup : (s.raise f).pickup = s.pickup := (raise_frame s f).2.2.2.2.2.2.2.2.2.2.2.1
@[simp] theorem raise_laser : (s.raise f).laser = s.laser := (raise_frame s f).2.2.2.2.2.2.2.2.2.2.2.2.1
@[simp] theorem raise_monitor : (s.raise f).monitor = s.monitor := (raise_frame s f).2.2.2.2.2.2.2.2.2.2.2.2.2.1
@[simp] theorem raise_port : (s.raise f).port = s.port := (raise_frame s f).2.2.2.2.2.2.2.2.2.2.2.2.2.2.1
@[simp] theorem raise_pending : (s.raise f).pending = s.pending := (raise_frame s f).2.2.2.2.2.2.2.2.2.2.2.2.2.2.2
end

section
variable (s : State) (c : Bool) (f : RequestFlag)
theorem raiseIf_frame :
    (s.raiseIf c f).inReset = s.inReset ∧
    (s.raiseIf c f).zones = s.zones ∧
    (s.raiseIf c f).strategies = s.strategies ∧
    (s.raiseIf c f).guards = s.guards ∧
    (s.raiseIf c f).streams = s.streams ∧
    (s.raiseIf c f).queue = s.queue ∧
    (s.raiseIf c f).translating = s.translating ∧
    (s.raiseIf c f).link = s.link ∧
    (s.raiseIf c f).gate = s.gate ∧
    (s.raiseIf c f).writePath = s.writePath ∧
    (s.raiseIf c f).levels = s.levels ∧
    (s.raiseIf c f).pickup = s.pickup ∧
    (s.raiseIf c f).laser = s.laser ∧
    (s.raiseIf c f).monitor = s.monitor ∧
    (s.raiseIf c f).port = s.port ∧
    (s.raiseIf c f).pending = s.pending := by
  unfold State.raiseIf
  split <;> simp
@[simp] theorem raiseIf_inReset : (s.raiseIf c f).inReset = s.inReset := (raiseIf_frame s c f).1
@[simp] theorem raiseIf_zones : (s.raiseIf c f).zones = s.zones := (raiseIf_frame s c f).2.1
@[simp] theorem raiseIf_strategies : (s.raiseIf c f).strategies = s.strategies := (raiseIf_frame s c f).2.2.1
@[simp] theorem raiseIf_guards : (s.raiseIf c f).guards = s.guards := (raiseIf_frame s c f).2.2.2.1
@[simp] theorem raiseIf_streams : (s.raiseIf c f).streams = s.streams := (raiseIf_frame s c f).2.2.2.2.1
@[simp] theorem raiseIf_queue : (s.raiseIf c f).queue = s.queue := (raiseIf_frame s c f).2.2.2.2.2.1
@[simp] theorem raiseIf_translating : (s.raiseIf c f).translating = s.translating := (raiseIf_frame s c f).2.2.2.2.2.2.1
@[simp] theorem raiseIf_link : (s.raiseIf c f).link = s.link := (raiseIf_frame s c f).2.2.2.2.2.2.2.1
@[simp] theorem raiseIf_gate : (s.raiseIf c f).gate = s.gate := (raiseIf_frame s c f).2.2.2.2.2.2.2.2.1
@[simp] theorem raiseIf_writePath : (s.raiseIf c f).writePath = s.writePath := (raiseIf_frame s c f).2.2.2.2.2.2.2.2.2.1
@[simp] theorem raiseIf_levels : (s.raiseIf c f).levels = s.levels := (raiseIf_frame s c f).2.2.2.2.2.2.2.2.2.2.1
@[simp] theorem raiseIf_pickup : (s.raiseIf c f).pickup = s.pickup := (raiseIf_frame s c f).2.2.2.2.2.2.2.2.2.2.2.1
@[simp] theorem raiseIf_laser : (s.raiseIf c f).laser = s.laser := (raiseIf_frame s c f).2.2.2.2.2.2.2.2.2.2.2.2.1
@[simp] theorem raiseIf_monitor : (s.raiseIf c f).monitor = s.monitor := (raiseIf_frame s c f).2.2.2.2.2.2.2.2.2.2.2.2.2.1
@[simp] theorem raiseIf_port : (s.raiseIf c f).port = s.port := (raiseIf_frame s c f).2.2.2.2.2.2.2.2.2.2.2.2.2.2.1
@[simp] theorem raiseIf_pending : (s.raiseIf c f).pending = s.pending := (raiseIf_frame s c f).2.2.2.2.2.2.2.2.2.2.2.2.2.2.2
end

section
variable (s : State) (i : ZoneSlot) (z : Zone)
theorem setZone_frame :
    (s.setZone i z).inReset = s.inReset ∧
    (s.setZone i z).strategies = s.strategies ∧
    (s.setZone i z).guards = s.guards ∧
    (s.setZone i z).streams = s.streams ∧
    (s.setZone i z).queue = s.queue ∧
    (s.setZone i z).translating = s.translating ∧
    (s.setZone i z).link = s.link ∧
    (s.setZone i z).gate = s.gate ∧
    (s.setZone i z).writePath = s.writePath ∧
    (s.setZone i z).levels = s.levels ∧
    (s.setZone i z).pickup = s.pickup ∧
    (s.setZone i z).laser = s.laser ∧
    (s.setZone i z).monitor = s.monitor ∧
    (s.setZone i z).port = s.port ∧
    (s.setZone i z).alert = s.alert ∧
    (s.setZone i z).pending = s.pending := by
  simp [State.setZone]
@[simp] theorem setZone_inReset : (s.setZone i z).inReset = s.inReset := (setZone_frame s i z).1
@[simp] theorem setZone_strategies : (s.setZone i z).strategies = s.strategies := (setZone_frame s i z).2.1
@[simp] theorem setZone_guards : (s.setZone i z).guards = s.guards := (setZone_frame s i z).2.2.1
@[simp] theorem setZone_streams : (s.setZone i z).streams = s.streams := (setZone_frame s i z).2.2.2.1
@[simp] theorem setZone_queue : (s.setZone i z).queue = s.queue := (setZone_frame s i z).2.2.2.2.1
@[simp] theorem setZone_translating : (s.setZone i z).translating = s.translating := (setZone_frame s i z).2.2.2.2.2.1
@[simp] theorem setZone_link : (s.setZone i z).link = s.link := (setZone_frame s i z).2.2.2.2.2.2.1
@[simp] theorem setZone_gate : (s.setZone i z).gate = s.gate := (setZone_frame s i z).2.2.2.2.2.2.2.1
@[simp] theorem setZone_writePath : (s.setZone i z).writePath = s.writePath := (setZone_frame s i z).2.2.2.2.2.2.2.2.1
@[simp] theorem setZone_levels : (s.setZone i z).levels = s.levels := (setZone_frame s i z).2.2.2.2.2.2.2.2.2.1
@[simp] theorem setZone_pickup : (s.setZone i z).pickup = s.pickup := (setZone_frame s i z).2.2.2.2.2.2.2.2.2.2.1
@[simp] theorem setZone_laser : (s.setZone i z).laser = s.laser := (setZone_frame s i z).2.2.2.2.2.2.2.2.2.2.2.1
@[simp] theorem setZone_monitor : (s.setZone i z).monitor = s.monitor := (setZone_frame s i z).2.2.2.2.2.2.2.2.2.2.2.2.1
@[simp] theorem setZone_port : (s.setZone i z).port = s.port := (setZone_frame s i z).2.2.2.2.2.2.2.2.2.2.2.2.2.1
@[simp] theorem setZone_alert : (s.setZone i z).alert = s.alert := (setZone_frame s i z).2.2.2.2.2.2.2.2.2.2.2.2.2.2.1
@[simp] theorem setZone_pending : (s.setZone i z).pending = s.pending := (setZone_frame s i z).2.2.2.2.2.2.2.2.2.2.2.2.2.2.2
end

section
variable (s : State) (i : StrategySlot) (t : Strategy)
theorem setStrategy_frame :
    (s.setStrategy i t).inReset = s.inReset ∧
    (s.setStrategy i t).zones = s.zones ∧
    (s.setStrategy i t).guards = s.guards ∧
    (s.setStrategy i t).streams = s.streams ∧
    (s.setStrategy i t).queue = s.queue ∧
    (s.setStrategy i t).translating = s.translating ∧
    (s.setStrategy i t).link = s.link ∧
    (s.setStrategy i t).gate = s.gate ∧
    (s.setStrategy i t).writePath = s.writePath ∧
    (s.setStrategy i t).levels = s.levels ∧
    (s.setStrategy i t).pickup = s.pickup ∧
    (s.setStrategy i t).laser = s.laser ∧
    (s.setStrategy i t).monitor = s.monitor ∧
    (s.setStrategy i t).port = s.port ∧
    (s.setStrategy i t).alert = s.alert ∧
    (s.setStrategy i t).pending = s.pending := by
  simp [State.setStrategy]
@[simp] theorem setStrategy_inReset : (s.setStrategy i t).inReset = s.inReset := (setStrategy_frame s i t).1
@[simp] theorem setStrategy_zones : (s.setStrategy i t).zones = s.zones := (setStrategy_frame s i t).2.1
@[simp] theorem setStrategy_guards : (s.setStrategy i t).guards = s.guards := (setStrategy_frame s i t).2.2.1
@[simp] theorem setStrategy_streams : (s.setStrategy i t).streams = s.streams := (setStrategy_frame s i t).2.2.2.1
@[simp] theorem setStrategy_queue : (s.setStrategy i t).queue = s.queue := (setStrategy_frame s i t).2.2.2.2.1
@[simp] theorem setStrategy_translating : (s.setStrategy i t).translating = s.translating := (setStrategy_frame s i t).2.2.2.2.2.1
@[simp] theorem setStrategy_link : (s.setStrategy i t).link = s.link := (setStrategy_frame s i t).2.2.2.2.2.2.1
@[simp] theorem setStrategy_gate : (s.setStrategy i t).gate = s.gate := (setStrategy_frame s i t).2.2.2.2.2.2.2.1
@[simp] theorem setStrategy_writePath : (s.setStrategy i t).writePath = s.writePath := (setStrategy_frame s i t).2.2.2.2.2.2.2.2.1
@[simp] theorem setStrategy_levels : (s.setStrategy i t).levels = s.levels := (setStrategy_frame s i t).2.2.2.2.2.2.2.2.2.1
@[simp] theorem setStrategy_pickup : (s.setStrategy i t).pickup = s.pickup := (setStrategy_frame s i t).2.2.2.2.2.2.2.2.2.2.1
@[simp] theorem setStrategy_laser : (s.setStrategy i t).laser = s.laser := (setStrategy_frame s i t).2.2.2.2.2.2.2.2.2.2.2.1
@[simp] theorem setStrategy_monitor : (s.setStrategy i t).monitor = s.monitor := (setStrategy_frame s i t).2.2.2.2.2.2.2.2.2.2.2.2.1
@[simp] theorem setStrategy_port : (s.setStrategy i t).port = s.port := (setStrategy_frame s i t).2.2.2.2.2.2.2.2.2.2.2.2.2.1
@[simp] theorem setStrategy_alert : (s.setStrategy i t).alert = s.alert := (setStrategy_frame s i t).2.2.2.2.2.2.2.2.2.2.2.2.2.2.1
@[simp] theorem setStrategy_pending : (s.setStrategy i t).pending = s.pending := (setStrategy_frame s i t).2.2.2.2.2.2.2.2.2.2.2.2.2.2.2
end

section
variable (s : State) (i : StreamNo) (t : Stream)
theorem setStream_frame :
    (s.setStream i t).inReset = s.inReset ∧
    (s.setStream i t).zones = s.zones ∧
    (s.setStream i t).strategies = s.strategies ∧
    (s.setStream i t).guards = s.guards ∧
    (s.setStream i t).queue = s.queue ∧
    (s.setStream i t).translating = s.translating ∧
    (s.setStream i t).link = s.link ∧
    (s.setStream i t).gate = s.gate ∧
    (s.setStream i t).writePath = s.writePath ∧
    (s.setStream i t).levels = s.levels ∧
    (s.setStream i t).pickup = s.pickup ∧
    (s.setStream i t).laser = s.laser ∧
    (s.setStream i t).monitor = s.monitor ∧
    (s.setStream i t).port = s.port ∧
    (s.setStream i t).alert = s.alert ∧
    (s.setStream i t).pending = s.pending := by
  simp [State.setStream]
@[simp] theorem setStream_inReset : (s.setStream i t).inReset = s.inReset := (setStream_frame s i t).1
@[simp] theorem setStream_zones : (s.setStream i t).zones = s.zones := (setStream_frame s i t).2.1
@[simp] theorem setStream_strategies : (s.setStream i t).strategies = s.strategies := (setStream_frame s i t).2.2.1
@[simp] theorem setStream_guards : (s.setStream i t).guards = s.guards := (setStream_frame s i t).2.2.2.1
@[simp] theorem setStream_queue : (s.setStream i t).queue = s.queue := (setStream_frame s i t).2.2.2.2.1
@[simp] theorem setStream_translating : (s.setStream i t).translating = s.translating := (setStream_frame s i t).2.2.2.2.2.1
@[simp] theorem setStream_link : (s.setStream i t).link = s.link := (setStream_frame s i t).2.2.2.2.2.2.1
@[simp] theorem setStream_gate : (s.setStream i t).gate = s.gate := (setStream_frame s i t).2.2.2.2.2.2.2.1
@[simp] theorem setStream_writePath : (s.setStream i t).writePath = s.writePath := (setStream_frame s i t).2.2.2.2.2.2.2.2.1
@[simp] theorem setStream_levels : (s.setStream i t).levels = s.levels := (setStream_frame s i t).2.2.2.2.2.2.2.2.2.1
@[simp] theorem setStream_pickup : (s.setStream i t).pickup = s.pickup := (setStream_frame s i t).2.2.2.2.2.2.2.2.2.2.1
@[simp] theorem setStream_laser : (s.setStream i t).laser = s.laser := (setStream_frame s i t).2.2.2.2.2.2.2.2.2.2.2.1
@[simp] theorem setStream_monitor : (s.setStream i t).monitor = s.monitor := (setStream_frame s i t).2.2.2.2.2.2.2.2.2.2.2.2.1
@[simp] theorem setStream_port : (s.setStream i t).port = s.port := (setStream_frame s i t).2.2.2.2.2.2.2.2.2.2.2.2.2.1
@[simp] theorem setStream_alert : (s.setStream i t).alert = s.alert := (setStream_frame s i t).2.2.2.2.2.2.2.2.2.2.2.2.2.2.1
@[simp] theorem setStream_pending : (s.setStream i t).pending = s.pending := (setStream_frame s i t).2.2.2.2.2.2.2.2.2.2.2.2.2.2.2
end

section
variable (s : State) (r : Reply)
theorem produce_frame :
    (s.produce r).inReset = s.inReset ∧
    (s.produce r).zones = s.zones ∧
    (s.produce r).strategies = s.strategies ∧
    (s.produce r).guards = s.guards ∧
    (s.produce r).streams = s.streams ∧
    (s.produce r).queue = s.queue ∧
    (s.produce r).translating = s.translating ∧
    (s.produce r).gate = s.gate ∧
    (s.produce r).writePath = s.writePath ∧
    (s.produce r).levels = s.levels ∧
    (s.produce r).pickup = s.pickup ∧
    (s.produce r).laser = s.laser ∧
    (s.produce r).monitor = s.monitor ∧
    (s.produce r).port = s.port ∧
    (s.produce r).pending = s.pending := by
  unfold State.produce
  split <;> simp
@[simp] theorem produce_inReset : (s.produce r).inReset = s.inReset := (produce_frame s r).1
@[simp] theorem produce_zones : (s.produce r).zones = s.zones := (produce_frame s r).2.1
@[simp] theorem produce_strategies : (s.produce r).strategies = s.strategies := (produce_frame s r).2.2.1
@[simp] theorem produce_guards : (s.produce r).guards = s.guards := (produce_frame s r).2.2.2.1
@[simp] theorem produce_streams : (s.produce r).streams = s.streams := (produce_frame s r).2.2.2.2.1
@[simp] theorem produce_queue : (s.produce r).queue = s.queue := (produce_frame s r).2.2.2.2.2.1
@[simp] theorem produce_translating : (s.produce r).translating = s.translating := (produce_frame s r).2.2.2.2.2.2.1
@[simp] theorem produce_gate : (s.produce r).gate = s.gate := (produce_frame s r).2.2.2.2.2.2.2.1
@[simp] theorem produce_writePath : (s.produce r).writePath = s.writePath := (produce_frame s r).2.2.2.2.2.2.2.2.1
@[simp] theorem produce_levels : (s.produce r).levels = s.levels := (produce_frame s r).2.2.2.2.2.2.2.2.2.1
@[simp] theorem produce_pickup : (s.produce r).pickup = s.pickup := (produce_frame s r).2.2.2.2.2.2.2.2.2.2.1
@[simp] theorem produce_laser : (s.produce r).laser = s.laser := (produce_frame s r).2.2.2.2.2.2.2.2.2.2.2.1
@[simp] theorem produce_monitor : (s.produce r).monitor = s.monitor := (produce_frame s r).2.2.2.2.2.2.2.2.2.2.2.2.1
@[simp] theorem produce_port : (s.produce r).port = s.port := (produce_frame s r).2.2.2.2.2.2.2.2.2.2.2.2.2.1
@[simp] theorem produce_pending : (s.produce r).pending = s.pending := (produce_frame s r).2.2.2.2.2.2.2.2.2.2.2.2.2.2
end

section
variable (s : State) (rs : List Reply)
theorem produceAll_frame :
    (s.produceAll rs).inReset = s.inReset ∧
    (s.produceAll rs).zones = s.zones ∧
    (s.produceAll rs).strategies = s.strategies ∧
    (s.produceAll rs).guards = s.guards ∧
    (s.produceAll rs).streams = s.streams ∧
    (s.produceAll rs).queue = s.queue ∧
    (s.produceAll rs).translating = s.translating ∧
    (s.produceAll rs).gate = s.gate ∧
    (s.produceAll rs).writePath = s.writePath ∧
    (s.produceAll rs).levels = s.levels ∧
    (s.produceAll rs).pickup = s.pickup ∧
    (s.produceAll rs).laser = s.laser ∧
    (s.produceAll rs).monitor = s.monitor ∧
    (s.produceAll rs).port = s.port ∧
    (s.produceAll rs).pending = s.pending := by
  unfold State.produceAll
  induction rs generalizing s with
  | nil => simp
  | cons r rs ih => simp only [List.foldl_cons, ih, produce_frame, and_self]
@[simp] theorem produceAll_inReset : (s.produceAll rs).inReset = s.inReset := (produceAll_frame s rs).1
@[simp] theorem produceAll_zones : (s.produceAll rs).zones = s.zones := (produceAll_frame s rs).2.1
@[simp] theorem produceAll_strategies : (s.produceAll rs).strategies = s.strategies := (produceAll_frame s rs).2.2.1
@[simp] theorem produceAll_guards : (s.produceAll rs).guards = s.guards := (produceAll_frame s rs).2.2.2.1
@[simp] theorem produceAll_streams : (s.produceAll rs).streams = s.streams := (produceAll_frame s rs).2.2.2.2.1
@[simp] theorem produceAll_queue : (s.produceAll rs).queue = s.queue := (produceAll_frame s rs).2.2.2.2.2.1
@[simp] theorem produceAll_translating : (s.produceAll rs).translating = s.translating := (produceAll_frame s rs).2.2.2.2.2.2.1
@[simp] theorem produceAll_gate : (s.produceAll rs).gate = s.gate := (produceAll_frame s rs).2.2.2.2.2.2.2.1
@[simp] theorem produceAll_writePath : (s.produceAll rs).writePath = s.writePath := (produceAll_frame s rs).2.2.2.2.2.2.2.2.1
@[simp] theorem produceAll_levels : (s.produceAll rs).levels = s.levels := (produceAll_frame s rs).2.2.2.2.2.2.2.2.2.1
@[simp] theorem produceAll_pickup : (s.produceAll rs).pickup = s.pickup := (produceAll_frame s rs).2.2.2.2.2.2.2.2.2.2.1
@[simp] theorem produceAll_laser : (s.produceAll rs).laser = s.laser := (produceAll_frame s rs).2.2.2.2.2.2.2.2.2.2.2.1
@[simp] theorem produceAll_monitor : (s.produceAll rs).monitor = s.monitor := (produceAll_frame s rs).2.2.2.2.2.2.2.2.2.2.2.2.1
@[simp] theorem produceAll_port : (s.produceAll rs).port = s.port := (produceAll_frame s rs).2.2.2.2.2.2.2.2.2.2.2.2.2.1
@[simp] theorem produceAll_pending : (s.produceAll rs).pending = s.pending := (produceAll_frame s rs).2.2.2.2.2.2.2.2.2.2.2.2.2.2
end

section
variable (s : State) (tag : Option Byte) (block : Nat) (reason : SkipReason)
theorem produceSkip_frame :
    (s.produceSkip tag block reason).inReset = s.inReset ∧
    (s.produceSkip tag block reason).zones = s.zones ∧
    (s.produceSkip tag block reason).strategies = s.strategies ∧
    (s.produceSkip tag block reason).guards = s.guards ∧
    (s.produceSkip tag block reason).streams = s.streams ∧
    (s.produceSkip tag block reason).queue = s.queue ∧
    (s.produceSkip tag block reason).translating = s.translating ∧
    (s.produceSkip tag block reason).gate = s.gate ∧
    (s.produceSkip tag block reason).writePath = s.writePath ∧
    (s.produceSkip tag block reason).levels = s.levels ∧
    (s.produceSkip tag block reason).pickup = s.pickup ∧
    (s.produceSkip tag block reason).laser = s.laser ∧
    (s.produceSkip tag block reason).monitor = s.monitor ∧
    (s.produceSkip tag block reason).port = s.port ∧
    (s.produceSkip tag block reason).pending = s.pending := by
  simp [State.produceSkip]
@[simp] theorem produceSkip_inReset : (s.produceSkip tag block reason).inReset = s.inReset := (produceSkip_frame s tag block reason).1
@[simp] theorem produceSkip_zones : (s.produceSkip tag block reason).zones = s.zones := (produceSkip_frame s tag block reason).2.1
@[simp] theorem produceSkip_strategies : (s.produceSkip tag block reason).strategies = s.strategies := (produceSkip_frame s tag block reason).2.2.1
@[simp] theorem produceSkip_guards : (s.produceSkip tag block reason).guards = s.guards := (produceSkip_frame s tag block reason).2.2.2.1
@[simp] theorem produceSkip_streams : (s.produceSkip tag block reason).streams = s.streams := (produceSkip_frame s tag block reason).2.2.2.2.1
@[simp] theorem produceSkip_queue : (s.produceSkip tag block reason).queue = s.queue := (produceSkip_frame s tag block reason).2.2.2.2.2.1
@[simp] theorem produceSkip_translating : (s.produceSkip tag block reason).translating = s.translating := (produceSkip_frame s tag block reason).2.2.2.2.2.2.1
@[simp] theorem produceSkip_gate : (s.produceSkip tag block reason).gate = s.gate := (produceSkip_frame s tag block reason).2.2.2.2.2.2.2.1
@[simp] theorem produceSkip_writePath : (s.produceSkip tag block reason).writePath = s.writePath := (produceSkip_frame s tag block reason).2.2.2.2.2.2.2.2.1
@[simp] theorem produceSkip_levels : (s.produceSkip tag block reason).levels = s.levels := (produceSkip_frame s tag block reason).2.2.2.2.2.2.2.2.2.1
@[simp] theorem produceSkip_pickup : (s.produceSkip tag block reason).pickup = s.pickup := (produceSkip_frame s tag block reason).2.2.2.2.2.2.2.2.2.2.1
@[simp] theorem produceSkip_laser : (s.produceSkip tag block reason).laser = s.laser := (produceSkip_frame s tag block reason).2.2.2.2.2.2.2.2.2.2.2.1
@[simp] theorem produceSkip_monitor : (s.produceSkip tag block reason).monitor = s.monitor := (produceSkip_frame s tag block reason).2.2.2.2.2.2.2.2.2.2.2.2.1
@[simp] theorem produceSkip_port : (s.produceSkip tag block reason).port = s.port := (produceSkip_frame s tag block reason).2.2.2.2.2.2.2.2.2.2.2.2.2.1
@[simp] theorem produceSkip_pending : (s.produceSkip tag block reason).pending = s.pending := (produceSkip_frame s tag block reason).2.2.2.2.2.2.2.2.2.2.2.2.2.2
end

section
variable (s : State) (tag : Byte) (reason : RefuseReason)
theorem produceRefuse_frame :
    (s.produceRefuse tag reason).inReset = s.inReset ∧
    (s.produceRefuse tag reason).zones = s.zones ∧
    (s.produceRefuse tag reason).strategies = s.strategies ∧
    (s.produceRefuse tag reason).guards = s.guards ∧
    (s.produceRefuse tag reason).streams = s.streams ∧
    (s.produceRefuse tag reason).queue = s.queue ∧
    (s.produceRefuse tag reason).translating = s.translating ∧
    (s.produceRefuse tag reason).gate = s.gate ∧
    (s.produceRefuse tag reason).writePath = s.writePath ∧
    (s.produceRefuse tag reason).levels = s.levels ∧
    (s.produceRefuse tag reason).pickup = s.pickup ∧
    (s.produceRefuse tag reason).laser = s.laser ∧
    (s.produceRefuse tag reason).monitor = s.monitor ∧
    (s.produceRefuse tag reason).port = s.port ∧
    (s.produceRefuse tag reason).pending = s.pending := by
  simp [State.produceRefuse]
@[simp] theorem produceRefuse_inReset : (s.produceRefuse tag reason).inReset = s.inReset := (produceRefuse_frame s tag reason).1
@[simp] theorem produceRefuse_zones : (s.produceRefuse tag reason).zones = s.zones := (produceRefuse_frame s tag reason).2.1
@[simp] theorem produceRefuse_strategies : (s.produceRefuse tag reason).strategies = s.strategies := (produceRefuse_frame s tag reason).2.2.1
@[simp] theorem produceRefuse_guards : (s.produceRefuse tag reason).guards = s.guards := (produceRefuse_frame s tag reason).2.2.2.1
@[simp] theorem produceRefuse_streams : (s.produceRefuse tag reason).streams = s.streams := (produceRefuse_frame s tag reason).2.2.2.2.1
@[simp] theorem produceRefuse_queue : (s.produceRefuse tag reason).queue = s.queue := (produceRefuse_frame s tag reason).2.2.2.2.2.1
@[simp] theorem produceRefuse_translating : (s.produceRefuse tag reason).translating = s.translating := (produceRefuse_frame s tag reason).2.2.2.2.2.2.1
@[simp] theorem produceRefuse_gate : (s.produceRefuse tag reason).gate = s.gate := (produceRefuse_frame s tag reason).2.2.2.2.2.2.2.1
@[simp] theorem produceRefuse_writePath : (s.produceRefuse tag reason).writePath = s.writePath := (produceRefuse_frame s tag reason).2.2.2.2.2.2.2.2.1
@[simp] theorem produceRefuse_levels : (s.produceRefuse tag reason).levels = s.levels := (produceRefuse_frame s tag reason).2.2.2.2.2.2.2.2.2.1
@[simp] theorem produceRefuse_pickup : (s.produceRefuse tag reason).pickup = s.pickup := (produceRefuse_frame s tag reason).2.2.2.2.2.2.2.2.2.2.1
@[simp] theorem produceRefuse_laser : (s.produceRefuse tag reason).laser = s.laser := (produceRefuse_frame s tag reason).2.2.2.2.2.2.2.2.2.2.2.1
@[simp] theorem produceRefuse_monitor : (s.produceRefuse tag reason).monitor = s.monitor := (produceRefuse_frame s tag reason).2.2.2.2.2.2.2.2.2.2.2.2.1
@[simp] theorem produceRefuse_port : (s.produceRefuse tag reason).port = s.port := (produceRefuse_frame s tag reason).2.2.2.2.2.2.2.2.2.2.2.2.2.1
@[simp] theorem produceRefuse_pending : (s.produceRefuse tag reason).pending = s.pending := (produceRefuse_frame s tag reason).2.2.2.2.2.2.2.2.2.2.2.2.2.2
end

section
variable (s : State) (rs : List Reply)
theorem produceRevokes_frame :
    (s.produceRevokes rs).inReset = s.inReset ∧
    (s.produceRevokes rs).zones = s.zones ∧
    (s.produceRevokes rs).strategies = s.strategies ∧
    (s.produceRevokes rs).guards = s.guards ∧
    (s.produceRevokes rs).streams = s.streams ∧
    (s.produceRevokes rs).queue = s.queue ∧
    (s.produceRevokes rs).translating = s.translating ∧
    (s.produceRevokes rs).gate = s.gate ∧
    (s.produceRevokes rs).writePath = s.writePath ∧
    (s.produceRevokes rs).levels = s.levels ∧
    (s.produceRevokes rs).pickup = s.pickup ∧
    (s.produceRevokes rs).laser = s.laser ∧
    (s.produceRevokes rs).monitor = s.monitor ∧
    (s.produceRevokes rs).port = s.port ∧
    (s.produceRevokes rs).pending = s.pending := by
  simp [State.produceRevokes]
@[simp] theorem produceRevokes_inReset : (s.produceRevokes rs).inReset = s.inReset := (produceRevokes_frame s rs).1
@[simp] theorem produceRevokes_zones : (s.produceRevokes rs).zones = s.zones := (produceRevokes_frame s rs).2.1
@[simp] theorem produceRevokes_strategies : (s.produceRevokes rs).strategies = s.strategies := (produceRevokes_frame s rs).2.2.1
@[simp] theorem produceRevokes_guards : (s.produceRevokes rs).guards = s.guards := (produceRevokes_frame s rs).2.2.2.1
@[simp] theorem produceRevokes_streams : (s.produceRevokes rs).streams = s.streams := (produceRevokes_frame s rs).2.2.2.2.1
@[simp] theorem produceRevokes_queue : (s.produceRevokes rs).queue = s.queue := (produceRevokes_frame s rs).2.2.2.2.2.1
@[simp] theorem produceRevokes_translating : (s.produceRevokes rs).translating = s.translating := (produceRevokes_frame s rs).2.2.2.2.2.2.1
@[simp] theorem produceRevokes_gate : (s.produceRevokes rs).gate = s.gate := (produceRevokes_frame s rs).2.2.2.2.2.2.2.1
@[simp] theorem produceRevokes_writePath : (s.produceRevokes rs).writePath = s.writePath := (produceRevokes_frame s rs).2.2.2.2.2.2.2.2.1
@[simp] theorem produceRevokes_levels : (s.produceRevokes rs).levels = s.levels := (produceRevokes_frame s rs).2.2.2.2.2.2.2.2.2.1
@[simp] theorem produceRevokes_pickup : (s.produceRevokes rs).pickup = s.pickup := (produceRevokes_frame s rs).2.2.2.2.2.2.2.2.2.2.1
@[simp] theorem produceRevokes_laser : (s.produceRevokes rs).laser = s.laser := (produceRevokes_frame s rs).2.2.2.2.2.2.2.2.2.2.2.1
@[simp] theorem produceRevokes_monitor : (s.produceRevokes rs).monitor = s.monitor := (produceRevokes_frame s rs).2.2.2.2.2.2.2.2.2.2.2.2.1
@[simp] theorem produceRevokes_port : (s.produceRevokes rs).port = s.port := (produceRevokes_frame s rs).2.2.2.2.2.2.2.2.2.2.2.2.2.1
@[simp] theorem produceRevokes_pending : (s.produceRevokes rs).pending = s.pending := (produceRevokes_frame s rs).2.2.2.2.2.2.2.2.2.2.2.2.2.2
end

section
variable (s : State) (k : Option StrategySlot)
theorem dropRef_frame :
    (s.dropRef k).inReset = s.inReset ∧
    (s.dropRef k).zones = s.zones ∧
    (s.dropRef k).guards = s.guards ∧
    (s.dropRef k).streams = s.streams ∧
    (s.dropRef k).queue = s.queue ∧
    (s.dropRef k).translating = s.translating ∧
    (s.dropRef k).link = s.link ∧
    (s.dropRef k).gate = s.gate ∧
    (s.dropRef k).writePath = s.writePath ∧
    (s.dropRef k).levels = s.levels ∧
    (s.dropRef k).pickup = s.pickup ∧
    (s.dropRef k).laser = s.laser ∧
    (s.dropRef k).monitor = s.monitor ∧
    (s.dropRef k).port = s.port ∧
    (s.dropRef k).alert = s.alert ∧
    (s.dropRef k).pending = s.pending := by
  unfold State.dropRef
  split <;> simp
@[simp] theorem dropRef_inReset : (s.dropRef k).inReset = s.inReset := (dropRef_frame s k).1
@[simp] theorem dropRef_zones : (s.dropRef k).zones = s.zones := (dropRef_frame s k).2.1
@[simp] theorem dropRef_guards : (s.dropRef k).guards = s.guards := (dropRef_frame s k).2.2.1
@[simp] theorem dropRef_streams : (s.dropRef k).streams = s.streams := (dropRef_frame s k).2.2.2.1
@[simp] theorem dropRef_queue : (s.dropRef k).queue = s.queue := (dropRef_frame s k).2.2.2.2.1
@[simp] theorem dropRef_translating : (s.dropRef k).translating = s.translating := (dropRef_frame s k).2.2.2.2.2.1
@[simp] theorem dropRef_link : (s.dropRef k).link = s.link := (dropRef_frame s k).2.2.2.2.2.2.1
@[simp] theorem dropRef_gate : (s.dropRef k).gate = s.gate := (dropRef_frame s k).2.2.2.2.2.2.2.1
@[simp] theorem dropRef_writePath : (s.dropRef k).writePath = s.writePath := (dropRef_frame s k).2.2.2.2.2.2.2.2.1
@[simp] theorem dropRef_levels : (s.dropRef k).levels = s.levels := (dropRef_frame s k).2.2.2.2.2.2.2.2.2.1
@[simp] theorem dropRef_pickup : (s.dropRef k).pickup = s.pickup := (dropRef_frame s k).2.2.2.2.2.2.2.2.2.2.1
@[simp] theorem dropRef_laser : (s.dropRef k).laser = s.laser := (dropRef_frame s k).2.2.2.2.2.2.2.2.2.2.2.1
@[simp] theorem dropRef_monitor : (s.dropRef k).monitor = s.monitor := (dropRef_frame s k).2.2.2.2.2.2.2.2.2.2.2.2.1
@[simp] theorem dropRef_port : (s.dropRef k).port = s.port := (dropRef_frame s k).2.2.2.2.2.2.2.2.2.2.2.2.2.1
@[simp] theorem dropRef_alert : (s.dropRef k).alert = s.alert := (dropRef_frame s k).2.2.2.2.2.2.2.2.2.2.2.2.2.2.1
@[simp] theorem dropRef_pending : (s.dropRef k).pending = s.pending := (dropRef_frame s k).2.2.2.2.2.2.2.2.2.2.2.2.2.2.2
end

section
variable (s : State) (i : ZoneSlot)
theorem freeZone_frame :
    (s.freeZone i).inReset = s.inReset ∧
    (s.freeZone i).guards = s.guards ∧
    (s.freeZone i).streams = s.streams ∧
    (s.freeZone i).queue = s.queue ∧
    (s.freeZone i).translating = s.translating ∧
    (s.freeZone i).link = s.link ∧
    (s.freeZone i).gate = s.gate ∧
    (s.freeZone i).writePath = s.writePath ∧
    (s.freeZone i).levels = s.levels ∧
    (s.freeZone i).pickup = s.pickup ∧
    (s.freeZone i).laser = s.laser ∧
    (s.freeZone i).monitor = s.monitor ∧
    (s.freeZone i).port = s.port ∧
    (s.freeZone i).alert = s.alert ∧
    (s.freeZone i).pending = s.pending := by
  simp [State.freeZone]
@[simp] theorem freeZone_inReset : (s.freeZone i).inReset = s.inReset := (freeZone_frame s i).1
@[simp] theorem freeZone_guards : (s.freeZone i).guards = s.guards := (freeZone_frame s i).2.1
@[simp] theorem freeZone_streams : (s.freeZone i).streams = s.streams := (freeZone_frame s i).2.2.1
@[simp] theorem freeZone_queue : (s.freeZone i).queue = s.queue := (freeZone_frame s i).2.2.2.1
@[simp] theorem freeZone_translating : (s.freeZone i).translating = s.translating := (freeZone_frame s i).2.2.2.2.1
@[simp] theorem freeZone_link : (s.freeZone i).link = s.link := (freeZone_frame s i).2.2.2.2.2.1
@[simp] theorem freeZone_gate : (s.freeZone i).gate = s.gate := (freeZone_frame s i).2.2.2.2.2.2.1
@[simp] theorem freeZone_writePath : (s.freeZone i).writePath = s.writePath := (freeZone_frame s i).2.2.2.2.2.2.2.1
@[simp] theorem freeZone_levels : (s.freeZone i).levels = s.levels := (freeZone_frame s i).2.2.2.2.2.2.2.2.1
@[simp] theorem freeZone_pickup : (s.freeZone i).pickup = s.pickup := (freeZone_frame s i).2.2.2.2.2.2.2.2.2.1
@[simp] theorem freeZone_laser : (s.freeZone i).laser = s.laser := (freeZone_frame s i).2.2.2.2.2.2.2.2.2.2.1
@[simp] theorem freeZone_monitor : (s.freeZone i).monitor = s.monitor := (freeZone_frame s i).2.2.2.2.2.2.2.2.2.2.2.1
@[simp] theorem freeZone_port : (s.freeZone i).port = s.port := (freeZone_frame s i).2.2.2.2.2.2.2.2.2.2.2.2.1
@[simp] theorem freeZone_alert : (s.freeZone i).alert = s.alert := (freeZone_frame s i).2.2.2.2.2.2.2.2.2.2.2.2.2.1
@[simp] theorem freeZone_pending : (s.freeZone i).pending = s.pending := (freeZone_frame s i).2.2.2.2.2.2.2.2.2.2.2.2.2.2
end

section
variable (s : State) (i : ZoneSlot)
theorem pin_frame :
    (s.pin i).inReset = s.inReset ∧
    (s.pin i).strategies = s.strategies ∧
    (s.pin i).guards = s.guards ∧
    (s.pin i).streams = s.streams ∧
    (s.pin i).queue = s.queue ∧
    (s.pin i).translating = s.translating ∧
    (s.pin i).link = s.link ∧
    (s.pin i).gate = s.gate ∧
    (s.pin i).writePath = s.writePath ∧
    (s.pin i).levels = s.levels ∧
    (s.pin i).pickup = s.pickup ∧
    (s.pin i).laser = s.laser ∧
    (s.pin i).monitor = s.monitor ∧
    (s.pin i).port = s.port ∧
    (s.pin i).alert = s.alert ∧
    (s.pin i).pending = s.pending := by
  simp [State.pin]
@[simp] theorem pin_inReset : (s.pin i).inReset = s.inReset := (pin_frame s i).1
@[simp] theorem pin_strategies : (s.pin i).strategies = s.strategies := (pin_frame s i).2.1
@[simp] theorem pin_guards : (s.pin i).guards = s.guards := (pin_frame s i).2.2.1
@[simp] theorem pin_streams : (s.pin i).streams = s.streams := (pin_frame s i).2.2.2.1
@[simp] theorem pin_queue : (s.pin i).queue = s.queue := (pin_frame s i).2.2.2.2.1
@[simp] theorem pin_translating : (s.pin i).translating = s.translating := (pin_frame s i).2.2.2.2.2.1
@[simp] theorem pin_link : (s.pin i).link = s.link := (pin_frame s i).2.2.2.2.2.2.1
@[simp] theorem pin_gate : (s.pin i).gate = s.gate := (pin_frame s i).2.2.2.2.2.2.2.1
@[simp] theorem pin_writePath : (s.pin i).writePath = s.writePath := (pin_frame s i).2.2.2.2.2.2.2.2.1
@[simp] theorem pin_levels : (s.pin i).levels = s.levels := (pin_frame s i).2.2.2.2.2.2.2.2.2.1
@[simp] theorem pin_pickup : (s.pin i).pickup = s.pickup := (pin_frame s i).2.2.2.2.2.2.2.2.2.2.1
@[simp] theorem pin_laser : (s.pin i).laser = s.laser := (pin_frame s i).2.2.2.2.2.2.2.2.2.2.2.1
@[simp] theorem pin_monitor : (s.pin i).monitor = s.monitor := (pin_frame s i).2.2.2.2.2.2.2.2.2.2.2.2.1
@[simp] theorem pin_port : (s.pin i).port = s.port := (pin_frame s i).2.2.2.2.2.2.2.2.2.2.2.2.2.1
@[simp] theorem pin_alert : (s.pin i).alert = s.alert := (pin_frame s i).2.2.2.2.2.2.2.2.2.2.2.2.2.2.1
@[simp] theorem pin_pending : (s.pin i).pending = s.pending := (pin_frame s i).2.2.2.2.2.2.2.2.2.2.2.2.2.2.2
end

section
variable (s : State) (i : ZoneSlot)
theorem unpin_frame :
    (s.unpin i).inReset = s.inReset ∧
    (s.unpin i).guards = s.guards ∧
    (s.unpin i).streams = s.streams ∧
    (s.unpin i).queue = s.queue ∧
    (s.unpin i).translating = s.translating ∧
    (s.unpin i).link = s.link ∧
    (s.unpin i).gate = s.gate ∧
    (s.unpin i).writePath = s.writePath ∧
    (s.unpin i).levels = s.levels ∧
    (s.unpin i).pickup = s.pickup ∧
    (s.unpin i).laser = s.laser ∧
    (s.unpin i).monitor = s.monitor ∧
    (s.unpin i).port = s.port ∧
    (s.unpin i).pending = s.pending := by
  unfold State.unpin
  split <;> simp
@[simp] theorem unpin_inReset : (s.unpin i).inReset = s.inReset := (unpin_frame s i).1
@[simp] theorem unpin_guards : (s.unpin i).guards = s.guards := (unpin_frame s i).2.1
@[simp] theorem unpin_streams : (s.unpin i).streams = s.streams := (unpin_frame s i).2.2.1
@[simp] theorem unpin_queue : (s.unpin i).queue = s.queue := (unpin_frame s i).2.2.2.1
@[simp] theorem unpin_translating : (s.unpin i).translating = s.translating := (unpin_frame s i).2.2.2.2.1
@[simp] theorem unpin_link : (s.unpin i).link = s.link := (unpin_frame s i).2.2.2.2.2.1
@[simp] theorem unpin_gate : (s.unpin i).gate = s.gate := (unpin_frame s i).2.2.2.2.2.2.1
@[simp] theorem unpin_writePath : (s.unpin i).writePath = s.writePath := (unpin_frame s i).2.2.2.2.2.2.2.1
@[simp] theorem unpin_levels : (s.unpin i).levels = s.levels := (unpin_frame s i).2.2.2.2.2.2.2.2.1
@[simp] theorem unpin_pickup : (s.unpin i).pickup = s.pickup := (unpin_frame s i).2.2.2.2.2.2.2.2.2.1
@[simp] theorem unpin_laser : (s.unpin i).laser = s.laser := (unpin_frame s i).2.2.2.2.2.2.2.2.2.2.1
@[simp] theorem unpin_monitor : (s.unpin i).monitor = s.monitor := (unpin_frame s i).2.2.2.2.2.2.2.2.2.2.2.1
@[simp] theorem unpin_port : (s.unpin i).port = s.port := (unpin_frame s i).2.2.2.2.2.2.2.2.2.2.2.2.1
@[simp] theorem unpin_pending : (s.unpin i).pending = s.pending := (unpin_frame s i).2.2.2.2.2.2.2.2.2.2.2.2.2
end

section
variable (s : State) (is : List ZoneSlot)
theorem unpinAll_frame :
    (s.unpinAll is).inReset = s.inReset ∧
    (s.unpinAll is).guards = s.guards ∧
    (s.unpinAll is).streams = s.streams ∧
    (s.unpinAll is).queue = s.queue ∧
    (s.unpinAll is).translating = s.translating ∧
    (s.unpinAll is).link = s.link ∧
    (s.unpinAll is).gate = s.gate ∧
    (s.unpinAll is).writePath = s.writePath ∧
    (s.unpinAll is).levels = s.levels ∧
    (s.unpinAll is).pickup = s.pickup ∧
    (s.unpinAll is).laser = s.laser ∧
    (s.unpinAll is).monitor = s.monitor ∧
    (s.unpinAll is).port = s.port ∧
    (s.unpinAll is).pending = s.pending := by
  unfold State.unpinAll
  induction is generalizing s with
  | nil => simp
  | cons i is ih => simp only [List.foldl_cons, ih, unpin_frame, and_self]
@[simp] theorem unpinAll_inReset : (s.unpinAll is).inReset = s.inReset := (unpinAll_frame s is).1
@[simp] theorem unpinAll_guards : (s.unpinAll is).guards = s.guards := (unpinAll_frame s is).2.1
@[simp] theorem unpinAll_streams : (s.unpinAll is).streams = s.streams := (unpinAll_frame s is).2.2.1
@[simp] theorem unpinAll_queue : (s.unpinAll is).queue = s.queue := (unpinAll_frame s is).2.2.2.1
@[simp] theorem unpinAll_translating : (s.unpinAll is).translating = s.translating := (unpinAll_frame s is).2.2.2.2.1
@[simp] theorem unpinAll_link : (s.unpinAll is).link = s.link := (unpinAll_frame s is).2.2.2.2.2.1
@[simp] theorem unpinAll_gate : (s.unpinAll is).gate = s.gate := (unpinAll_frame s is).2.2.2.2.2.2.1
@[simp] theorem unpinAll_writePath : (s.unpinAll is).writePath = s.writePath := (unpinAll_frame s is).2.2.2.2.2.2.2.1
@[simp] theorem unpinAll_levels : (s.unpinAll is).levels = s.levels := (unpinAll_frame s is).2.2.2.2.2.2.2.2.1
@[simp] theorem unpinAll_pickup : (s.unpinAll is).pickup = s.pickup := (unpinAll_frame s is).2.2.2.2.2.2.2.2.2.1
@[simp] theorem unpinAll_laser : (s.unpinAll is).laser = s.laser := (unpinAll_frame s is).2.2.2.2.2.2.2.2.2.2.1
@[simp] theorem unpinAll_monitor : (s.unpinAll is).monitor = s.monitor := (unpinAll_frame s is).2.2.2.2.2.2.2.2.2.2.2.1
@[simp] theorem unpinAll_port : (s.unpinAll is).port = s.port := (unpinAll_frame s is).2.2.2.2.2.2.2.2.2.2.2.2.1
@[simp] theorem unpinAll_pending : (s.unpinAll is).pending = s.pending := (unpinAll_frame s is).2.2.2.2.2.2.2.2.2.2.2.2.2
end

section
variable (s : State)
theorem retarget_frame :
    (s.retarget).inReset = s.inReset ∧
    (s.retarget).zones = s.zones ∧
    (s.retarget).strategies = s.strategies ∧
    (s.retarget).guards = s.guards ∧
    (s.retarget).streams = s.streams ∧
    (s.retarget).queue = s.queue ∧
    (s.retarget).translating = s.translating ∧
    (s.retarget).link = s.link ∧
    (s.retarget).gate = s.gate ∧
    (s.retarget).writePath = s.writePath ∧
    (s.retarget).pickup = s.pickup ∧
    (s.retarget).laser = s.laser ∧
    (s.retarget).monitor = s.monitor ∧
    (s.retarget).port = s.port ∧
    (s.retarget).alert = s.alert ∧
    (s.retarget).pending = s.pending := by
  simp only [State.retarget]
  split <;> simp
@[simp] theorem retarget_inReset : (s.retarget).inReset = s.inReset := (retarget_frame s).1
@[simp] theorem retarget_zones : (s.retarget).zones = s.zones := (retarget_frame s).2.1
@[simp] theorem retarget_strategies : (s.retarget).strategies = s.strategies := (retarget_frame s).2.2.1
@[simp] theorem retarget_guards : (s.retarget).guards = s.guards := (retarget_frame s).2.2.2.1
@[simp] theorem retarget_streams : (s.retarget).streams = s.streams := (retarget_frame s).2.2.2.2.1
@[simp] theorem retarget_queue : (s.retarget).queue = s.queue := (retarget_frame s).2.2.2.2.2.1
@[simp] theorem retarget_translating : (s.retarget).translating = s.translating := (retarget_frame s).2.2.2.2.2.2.1
@[simp] theorem retarget_link : (s.retarget).link = s.link := (retarget_frame s).2.2.2.2.2.2.2.1
@[simp] theorem retarget_gate : (s.retarget).gate = s.gate := (retarget_frame s).2.2.2.2.2.2.2.2.1
@[simp] theorem retarget_writePath : (s.retarget).writePath = s.writePath := (retarget_frame s).2.2.2.2.2.2.2.2.2.1
@[simp] theorem retarget_pickup : (s.retarget).pickup = s.pickup := (retarget_frame s).2.2.2.2.2.2.2.2.2.2.1
@[simp] theorem retarget_laser : (s.retarget).laser = s.laser := (retarget_frame s).2.2.2.2.2.2.2.2.2.2.2.1
@[simp] theorem retarget_monitor : (s.retarget).monitor = s.monitor := (retarget_frame s).2.2.2.2.2.2.2.2.2.2.2.2.1
@[simp] theorem retarget_port : (s.retarget).port = s.port := (retarget_frame s).2.2.2.2.2.2.2.2.2.2.2.2.2.1
@[simp] theorem retarget_alert : (s.retarget).alert = s.alert := (retarget_frame s).2.2.2.2.2.2.2.2.2.2.2.2.2.2.1
@[simp] theorem retarget_pending : (s.retarget).pending = s.pending := (retarget_frame s).2.2.2.2.2.2.2.2.2.2.2.2.2.2.2
end

section
variable (s : State) (i : ZoneSlot)
theorem handOn_frame :
    (s.handOn i).inReset = s.inReset ∧
    (s.handOn i).zones = s.zones ∧
    (s.handOn i).strategies = s.strategies ∧
    (s.handOn i).guards = s.guards ∧
    (s.handOn i).streams = s.streams ∧
    (s.handOn i).queue = s.queue ∧
    (s.handOn i).translating = s.translating ∧
    (s.handOn i).link = s.link ∧
    (s.handOn i).gate = s.gate ∧
    (s.handOn i).writePath = s.writePath ∧
    (s.handOn i).pickup = s.pickup ∧
    (s.handOn i).laser = s.laser ∧
    (s.handOn i).monitor = s.monitor ∧
    (s.handOn i).port = s.port ∧
    (s.handOn i).alert = s.alert ∧
    (s.handOn i).pending = s.pending := by
  unfold State.handOn
  (repeat' split) <;> simp
@[simp] theorem handOn_inReset : (s.handOn i).inReset = s.inReset := (handOn_frame s i).1
@[simp] theorem handOn_zones : (s.handOn i).zones = s.zones := (handOn_frame s i).2.1
@[simp] theorem handOn_strategies : (s.handOn i).strategies = s.strategies := (handOn_frame s i).2.2.1
@[simp] theorem handOn_guards : (s.handOn i).guards = s.guards := (handOn_frame s i).2.2.2.1
@[simp] theorem handOn_streams : (s.handOn i).streams = s.streams := (handOn_frame s i).2.2.2.2.1
@[simp] theorem handOn_queue : (s.handOn i).queue = s.queue := (handOn_frame s i).2.2.2.2.2.1
@[simp] theorem handOn_translating : (s.handOn i).translating = s.translating := (handOn_frame s i).2.2.2.2.2.2.1
@[simp] theorem handOn_link : (s.handOn i).link = s.link := (handOn_frame s i).2.2.2.2.2.2.2.1
@[simp] theorem handOn_gate : (s.handOn i).gate = s.gate := (handOn_frame s i).2.2.2.2.2.2.2.2.1
@[simp] theorem handOn_writePath : (s.handOn i).writePath = s.writePath := (handOn_frame s i).2.2.2.2.2.2.2.2.2.1
@[simp] theorem handOn_pickup : (s.handOn i).pickup = s.pickup := (handOn_frame s i).2.2.2.2.2.2.2.2.2.2.1
@[simp] theorem handOn_laser : (s.handOn i).laser = s.laser := (handOn_frame s i).2.2.2.2.2.2.2.2.2.2.2.1
@[simp] theorem handOn_monitor : (s.handOn i).monitor = s.monitor := (handOn_frame s i).2.2.2.2.2.2.2.2.2.2.2.2.1
@[simp] theorem handOn_port : (s.handOn i).port = s.port := (handOn_frame s i).2.2.2.2.2.2.2.2.2.2.2.2.2.1
@[simp] theorem handOn_alert : (s.handOn i).alert = s.alert := (handOn_frame s i).2.2.2.2.2.2.2.2.2.2.2.2.2.2.1
@[simp] theorem handOn_pending : (s.handOn i).pending = s.pending := (handOn_frame s i).2.2.2.2.2.2.2.2.2.2.2.2.2.2.2
end

section
variable (s : State) (a b : LayerNo)
theorem startMove_frame :
    (s.startMove a b).inReset = s.inReset ∧
    (s.startMove a b).zones = s.zones ∧
    (s.startMove a b).strategies = s.strategies ∧
    (s.startMove a b).guards = s.guards ∧
    (s.startMove a b).streams = s.streams ∧
    (s.startMove a b).queue = s.queue ∧
    (s.startMove a b).translating = s.translating ∧
    (s.startMove a b).link = s.link ∧
    (s.startMove a b).gate = s.gate ∧
    (s.startMove a b).writePath = s.writePath ∧
    (s.startMove a b).levels = s.levels ∧
    (s.startMove a b).laser = s.laser ∧
    (s.startMove a b).monitor = s.monitor ∧
    (s.startMove a b).port = s.port ∧
    (s.startMove a b).alert = s.alert ∧
    (s.startMove a b).pending = s.pending := by
  simp [State.startMove]
@[simp] theorem startMove_inReset : (s.startMove a b).inReset = s.inReset := (startMove_frame s a b).1
@[simp] theorem startMove_zones : (s.startMove a b).zones = s.zones := (startMove_frame s a b).2.1
@[simp] theorem startMove_strategies : (s.startMove a b).strategies = s.strategies := (startMove_frame s a b).2.2.1
@[simp] theorem startMove_guards : (s.startMove a b).guards = s.guards := (startMove_frame s a b).2.2.2.1
@[simp] theorem startMove_streams : (s.startMove a b).streams = s.streams := (startMove_frame s a b).2.2.2.2.1
@[simp] theorem startMove_queue : (s.startMove a b).queue = s.queue := (startMove_frame s a b).2.2.2.2.2.1
@[simp] theorem startMove_translating : (s.startMove a b).translating = s.translating := (startMove_frame s a b).2.2.2.2.2.2.1
@[simp] theorem startMove_link : (s.startMove a b).link = s.link := (startMove_frame s a b).2.2.2.2.2.2.2.1
@[simp] theorem startMove_gate : (s.startMove a b).gate = s.gate := (startMove_frame s a b).2.2.2.2.2.2.2.2.1
@[simp] theorem startMove_writePath : (s.startMove a b).writePath = s.writePath := (startMove_frame s a b).2.2.2.2.2.2.2.2.2.1
@[simp] theorem startMove_levels : (s.startMove a b).levels = s.levels := (startMove_frame s a b).2.2.2.2.2.2.2.2.2.2.1
@[simp] theorem startMove_laser : (s.startMove a b).laser = s.laser := (startMove_frame s a b).2.2.2.2.2.2.2.2.2.2.2.1
@[simp] theorem startMove_monitor : (s.startMove a b).monitor = s.monitor := (startMove_frame s a b).2.2.2.2.2.2.2.2.2.2.2.2.1
@[simp] theorem startMove_port : (s.startMove a b).port = s.port := (startMove_frame s a b).2.2.2.2.2.2.2.2.2.2.2.2.2.1
@[simp] theorem startMove_alert : (s.startMove a b).alert = s.alert := (startMove_frame s a b).2.2.2.2.2.2.2.2.2.2.2.2.2.2.1
@[simp] theorem startMove_pending : (s.startMove a b).pending = s.pending := (startMove_frame s a b).2.2.2.2.2.2.2.2.2.2.2.2.2.2.2
end

section
variable (s : State)
theorem maybeMove_frame :
    (s.maybeMove).inReset = s.inReset ∧
    (s.maybeMove).zones = s.zones ∧
    (s.maybeMove).strategies = s.strategies ∧
    (s.maybeMove).guards = s.guards ∧
    (s.maybeMove).streams = s.streams ∧
    (s.maybeMove).queue = s.queue ∧
    (s.maybeMove).translating = s.translating ∧
    (s.maybeMove).link = s.link ∧
    (s.maybeMove).gate = s.gate ∧
    (s.maybeMove).writePath = s.writePath ∧
    (s.maybeMove).levels = s.levels ∧
    (s.maybeMove).laser = s.laser ∧
    (s.maybeMove).monitor = s.monitor ∧
    (s.maybeMove).port = s.port ∧
    (s.maybeMove).alert = s.alert ∧
    (s.maybeMove).pending = s.pending := by
  unfold State.maybeMove
  (repeat' split) <;> simp
@[simp] theorem maybeMove_inReset : (s.maybeMove).inReset = s.inReset := (maybeMove_frame s).1
@[simp] theorem maybeMove_zones : (s.maybeMove).zones = s.zones := (maybeMove_frame s).2.1
@[simp] theorem maybeMove_strategies : (s.maybeMove).strategies = s.strategies := (maybeMove_frame s).2.2.1
@[simp] theorem maybeMove_guards : (s.maybeMove).guards = s.guards := (maybeMove_frame s).2.2.2.1
@[simp] theorem maybeMove_streams : (s.maybeMove).streams = s.streams := (maybeMove_frame s).2.2.2.2.1
@[simp] theorem maybeMove_queue : (s.maybeMove).queue = s.queue := (maybeMove_frame s).2.2.2.2.2.1
@[simp] theorem maybeMove_translating : (s.maybeMove).translating = s.translating := (maybeMove_frame s).2.2.2.2.2.2.1
@[simp] theorem maybeMove_link : (s.maybeMove).link = s.link := (maybeMove_frame s).2.2.2.2.2.2.2.1
@[simp] theorem maybeMove_gate : (s.maybeMove).gate = s.gate := (maybeMove_frame s).2.2.2.2.2.2.2.2.1
@[simp] theorem maybeMove_writePath : (s.maybeMove).writePath = s.writePath := (maybeMove_frame s).2.2.2.2.2.2.2.2.2.1
@[simp] theorem maybeMove_levels : (s.maybeMove).levels = s.levels := (maybeMove_frame s).2.2.2.2.2.2.2.2.2.2.1
@[simp] theorem maybeMove_laser : (s.maybeMove).laser = s.laser := (maybeMove_frame s).2.2.2.2.2.2.2.2.2.2.2.1
@[simp] theorem maybeMove_monitor : (s.maybeMove).monitor = s.monitor := (maybeMove_frame s).2.2.2.2.2.2.2.2.2.2.2.2.1
@[simp] theorem maybeMove_port : (s.maybeMove).port = s.port := (maybeMove_frame s).2.2.2.2.2.2.2.2.2.2.2.2.2.1
@[simp] theorem maybeMove_alert : (s.maybeMove).alert = s.alert := (maybeMove_frame s).2.2.2.2.2.2.2.2.2.2.2.2.2.2.1
@[simp] theorem maybeMove_pending : (s.maybeMove).pending = s.pending := (maybeMove_frame s).2.2.2.2.2.2.2.2.2.2.2.2.2.2.2
end

section
variable (s : State)
theorem startTranslator_frame :
    (s.startTranslator).inReset = s.inReset ∧
    (s.startTranslator).zones = s.zones ∧
    (s.startTranslator).strategies = s.strategies ∧
    (s.startTranslator).guards = s.guards ∧
    (s.startTranslator).streams = s.streams ∧
    (s.startTranslator).queue = s.queue ∧
    (s.startTranslator).link = s.link ∧
    (s.startTranslator).gate = s.gate ∧
    (s.startTranslator).writePath = s.writePath ∧
    (s.startTranslator).levels = s.levels ∧
    (s.startTranslator).pickup = s.pickup ∧
    (s.startTranslator).laser = s.laser ∧
    (s.startTranslator).monitor = s.monitor ∧
    (s.startTranslator).port = s.port ∧
    (s.startTranslator).alert = s.alert ∧
    (s.startTranslator).pending = s.pending := by
  simp [State.startTranslator]
@[simp] theorem startTranslator_inReset : (s.startTranslator).inReset = s.inReset := (startTranslator_frame s).1
@[simp] theorem startTranslator_zones : (s.startTranslator).zones = s.zones := (startTranslator_frame s).2.1
@[simp] theorem startTranslator_strategies : (s.startTranslator).strategies = s.strategies := (startTranslator_frame s).2.2.1
@[simp] theorem startTranslator_guards : (s.startTranslator).guards = s.guards := (startTranslator_frame s).2.2.2.1
@[simp] theorem startTranslator_streams : (s.startTranslator).streams = s.streams := (startTranslator_frame s).2.2.2.2.1
@[simp] theorem startTranslator_queue : (s.startTranslator).queue = s.queue := (startTranslator_frame s).2.2.2.2.2.1
@[simp] theorem startTranslator_link : (s.startTranslator).link = s.link := (startTranslator_frame s).2.2.2.2.2.2.1
@[simp] theorem startTranslator_gate : (s.startTranslator).gate = s.gate := (startTranslator_frame s).2.2.2.2.2.2.2.1
@[simp] theorem startTranslator_writePath : (s.startTranslator).writePath = s.writePath := (startTranslator_frame s).2.2.2.2.2.2.2.2.1
@[simp] theorem startTranslator_levels : (s.startTranslator).levels = s.levels := (startTranslator_frame s).2.2.2.2.2.2.2.2.2.1
@[simp] theorem startTranslator_pickup : (s.startTranslator).pickup = s.pickup := (startTranslator_frame s).2.2.2.2.2.2.2.2.2.2.1
@[simp] theorem startTranslator_laser : (s.startTranslator).laser = s.laser := (startTranslator_frame s).2.2.2.2.2.2.2.2.2.2.2.1
@[simp] theorem startTranslator_monitor : (s.startTranslator).monitor = s.monitor := (startTranslator_frame s).2.2.2.2.2.2.2.2.2.2.2.2.1
@[simp] theorem startTranslator_port : (s.startTranslator).port = s.port := (startTranslator_frame s).2.2.2.2.2.2.2.2.2.2.2.2.2.1
@[simp] theorem startTranslator_alert : (s.startTranslator).alert = s.alert := (startTranslator_frame s).2.2.2.2.2.2.2.2.2.2.2.2.2.2.1
@[simp] theorem startTranslator_pending : (s.startTranslator).pending = s.pending := (startTranslator_frame s).2.2.2.2.2.2.2.2.2.2.2.2.2.2.2
end

section
variable (s : State)
theorem queueChanged_frame :
    (s.queueChanged).inReset = s.inReset ∧
    (s.queueChanged).zones = s.zones ∧
    (s.queueChanged).strategies = s.strategies ∧
    (s.queueChanged).guards = s.guards ∧
    (s.queueChanged).streams = s.streams ∧
    (s.queueChanged).queue = s.queue ∧
    (s.queueChanged).link = s.link ∧
    (s.queueChanged).gate = s.gate ∧
    (s.queueChanged).writePath = s.writePath ∧
    (s.queueChanged).laser = s.laser ∧
    (s.queueChanged).monitor = s.monitor ∧
    (s.queueChanged).port = s.port ∧
    (s.queueChanged).alert = s.alert ∧
    (s.queueChanged).pending = s.pending := by
  simp [State.queueChanged]
@[simp] theorem queueChanged_inReset : (s.queueChanged).inReset = s.inReset := (queueChanged_frame s).1
@[simp] theorem queueChanged_zones : (s.queueChanged).zones = s.zones := (queueChanged_frame s).2.1
@[simp] theorem queueChanged_strategies : (s.queueChanged).strategies = s.strategies := (queueChanged_frame s).2.2.1
@[simp] theorem queueChanged_guards : (s.queueChanged).guards = s.guards := (queueChanged_frame s).2.2.2.1
@[simp] theorem queueChanged_streams : (s.queueChanged).streams = s.streams := (queueChanged_frame s).2.2.2.2.1
@[simp] theorem queueChanged_queue : (s.queueChanged).queue = s.queue := (queueChanged_frame s).2.2.2.2.2.1
@[simp] theorem queueChanged_link : (s.queueChanged).link = s.link := (queueChanged_frame s).2.2.2.2.2.2.1
@[simp] theorem queueChanged_gate : (s.queueChanged).gate = s.gate := (queueChanged_frame s).2.2.2.2.2.2.2.1
@[simp] theorem queueChanged_writePath : (s.queueChanged).writePath = s.writePath := (queueChanged_frame s).2.2.2.2.2.2.2.2.1
@[simp] theorem queueChanged_laser : (s.queueChanged).laser = s.laser := (queueChanged_frame s).2.2.2.2.2.2.2.2.2.1
@[simp] theorem queueChanged_monitor : (s.queueChanged).monitor = s.monitor := (queueChanged_frame s).2.2.2.2.2.2.2.2.2.2.1
@[simp] theorem queueChanged_port : (s.queueChanged).port = s.port := (queueChanged_frame s).2.2.2.2.2.2.2.2.2.2.2.1
@[simp] theorem queueChanged_alert : (s.queueChanged).alert = s.alert := (queueChanged_frame s).2.2.2.2.2.2.2.2.2.2.2.2.1
@[simp] theorem queueChanged_pending : (s.queueChanged).pending = s.pending := (queueChanged_frame s).2.2.2.2.2.2.2.2.2.2.2.2.2
end

section
variable (s : State) (p : Entry → Bool)
theorem removeEntries_frame :
    (s.removeEntries p).inReset = s.inReset ∧
    (s.removeEntries p).guards = s.guards ∧
    (s.removeEntries p).streams = s.streams ∧
    (s.removeEntries p).translating = s.translating ∧
    (s.removeEntries p).link = s.link ∧
    (s.removeEntries p).writePath = s.writePath ∧
    (s.removeEntries p).levels = s.levels ∧
    (s.removeEntries p).pickup = s.pickup ∧
    (s.removeEntries p).laser = s.laser ∧
    (s.removeEntries p).monitor = s.monitor ∧
    (s.removeEntries p).port = s.port ∧
    (s.removeEntries p).pending = s.pending := by
  simp only [State.removeEntries]
  (repeat' split) <;> simp
@[simp] theorem removeEntries_inReset : (s.removeEntries p).inReset = s.inReset := (removeEntries_frame s p).1
@[simp] theorem removeEntries_guards : (s.removeEntries p).guards = s.guards := (removeEntries_frame s p).2.1
@[simp] theorem removeEntries_streams : (s.removeEntries p).streams = s.streams := (removeEntries_frame s p).2.2.1
@[simp] theorem removeEntries_translating : (s.removeEntries p).translating = s.translating := (removeEntries_frame s p).2.2.2.1
@[simp] theorem removeEntries_link : (s.removeEntries p).link = s.link := (removeEntries_frame s p).2.2.2.2.1
@[simp] theorem removeEntries_writePath : (s.removeEntries p).writePath = s.writePath := (removeEntries_frame s p).2.2.2.2.2.1
@[simp] theorem removeEntries_levels : (s.removeEntries p).levels = s.levels := (removeEntries_frame s p).2.2.2.2.2.2.1
@[simp] theorem removeEntries_pickup : (s.removeEntries p).pickup = s.pickup := (removeEntries_frame s p).2.2.2.2.2.2.2.1
@[simp] theorem removeEntries_laser : (s.removeEntries p).laser = s.laser := (removeEntries_frame s p).2.2.2.2.2.2.2.2.1
@[simp] theorem removeEntries_monitor : (s.removeEntries p).monitor = s.monitor := (removeEntries_frame s p).2.2.2.2.2.2.2.2.2.1
@[simp] theorem removeEntries_port : (s.removeEntries p).port = s.port := (removeEntries_frame s p).2.2.2.2.2.2.2.2.2.2.1
@[simp] theorem removeEntries_pending : (s.removeEntries p).pending = s.pending := (removeEntries_frame s p).2.2.2.2.2.2.2.2.2.2.2
end

section
variable (s : State) (reason : RevokeReason) (cut : Entry → Option Nat)
theorem revoke_frame :
    (s.revoke reason cut).inReset = s.inReset ∧
    (s.revoke reason cut).guards = s.guards ∧
    (s.revoke reason cut).streams = s.streams ∧
    (s.revoke reason cut).translating = s.translating ∧
    (s.revoke reason cut).writePath = s.writePath ∧
    (s.revoke reason cut).levels = s.levels ∧
    (s.revoke reason cut).pickup = s.pickup ∧
    (s.revoke reason cut).laser = s.laser ∧
    (s.revoke reason cut).monitor = s.monitor ∧
    (s.revoke reason cut).port = s.port ∧
    (s.revoke reason cut).pending = s.pending := by
  simp only [State.revoke]
  (repeat' split) <;> simp
@[simp] theorem revoke_inReset : (s.revoke reason cut).inReset = s.inReset := (revoke_frame s reason cut).1
@[simp] theorem revoke_guards : (s.revoke reason cut).guards = s.guards := (revoke_frame s reason cut).2.1
@[simp] theorem revoke_streams : (s.revoke reason cut).streams = s.streams := (revoke_frame s reason cut).2.2.1
@[simp] theorem revoke_translating : (s.revoke reason cut).translating = s.translating := (revoke_frame s reason cut).2.2.2.1
@[simp] theorem revoke_writePath : (s.revoke reason cut).writePath = s.writePath := (revoke_frame s reason cut).2.2.2.2.1
@[simp] theorem revoke_levels : (s.revoke reason cut).levels = s.levels := (revoke_frame s reason cut).2.2.2.2.2.1
@[simp] theorem revoke_pickup : (s.revoke reason cut).pickup = s.pickup := (revoke_frame s reason cut).2.2.2.2.2.2.1
@[simp] theorem revoke_laser : (s.revoke reason cut).laser = s.laser := (revoke_frame s reason cut).2.2.2.2.2.2.2.1
@[simp] theorem revoke_monitor : (s.revoke reason cut).monitor = s.monitor := (revoke_frame s reason cut).2.2.2.2.2.2.2.2.1
@[simp] theorem revoke_port : (s.revoke reason cut).port = s.port := (revoke_frame s reason cut).2.2.2.2.2.2.2.2.2.1
@[simp] theorem revoke_pending : (s.revoke reason cut).pending = s.pending := (revoke_frame s reason cut).2.2.2.2.2.2.2.2.2.2
end

section
variable (s : State) (i : ZoneSlot) (p : Entry → Bool)
theorem dropSlot_frame :
    (s.dropSlot i p).inReset = s.inReset ∧
    (s.dropSlot i p).guards = s.guards ∧
    (s.dropSlot i p).streams = s.streams ∧
    (s.dropSlot i p).translating = s.translating ∧
    (s.dropSlot i p).link = s.link ∧
    (s.dropSlot i p).gate = s.gate ∧
    (s.dropSlot i p).writePath = s.writePath ∧
    (s.dropSlot i p).levels = s.levels ∧
    (s.dropSlot i p).pickup = s.pickup ∧
    (s.dropSlot i p).laser = s.laser ∧
    (s.dropSlot i p).monitor = s.monitor ∧
    (s.dropSlot i p).port = s.port ∧
    (s.dropSlot i p).pending = s.pending := by
  simp [State.dropSlot]
@[simp] theorem dropSlot_inReset : (s.dropSlot i p).inReset = s.inReset := (dropSlot_frame s i p).1
@[simp] theorem dropSlot_guards : (s.dropSlot i p).guards = s.guards := (dropSlot_frame s i p).2.1
@[simp] theorem dropSlot_streams : (s.dropSlot i p).streams = s.streams := (dropSlot_frame s i p).2.2.1
@[simp] theorem dropSlot_translating : (s.dropSlot i p).translating = s.translating := (dropSlot_frame s i p).2.2.2.1
@[simp] theorem dropSlot_link : (s.dropSlot i p).link = s.link := (dropSlot_frame s i p).2.2.2.2.1
@[simp] theorem dropSlot_gate : (s.dropSlot i p).gate = s.gate := (dropSlot_frame s i p).2.2.2.2.2.1
@[simp] theorem dropSlot_writePath : (s.dropSlot i p).writePath = s.writePath := (dropSlot_frame s i p).2.2.2.2.2.2.1
@[simp] theorem dropSlot_levels : (s.dropSlot i p).levels = s.levels := (dropSlot_frame s i p).2.2.2.2.2.2.2.1
@[simp] theorem dropSlot_pickup : (s.dropSlot i p).pickup = s.pickup := (dropSlot_frame s i p).2.2.2.2.2.2.2.2.1
@[simp] theorem dropSlot_laser : (s.dropSlot i p).laser = s.laser := (dropSlot_frame s i p).2.2.2.2.2.2.2.2.2.1
@[simp] theorem dropSlot_monitor : (s.dropSlot i p).monitor = s.monitor := (dropSlot_frame s i p).2.2.2.2.2.2.2.2.2.2.1
@[simp] theorem dropSlot_port : (s.dropSlot i p).port = s.port := (dropSlot_frame s i p).2.2.2.2.2.2.2.2.2.2.2.1
@[simp] theorem dropSlot_pending : (s.dropSlot i p).pending = s.pending := (dropSlot_frame s i p).2.2.2.2.2.2.2.2.2.2.2.2
end

section
variable (s : State) (i : ZoneSlot) (reason : RevokeReason) (p : Entry → Bool)
theorem zoneTrigger_frame :
    (s.zoneTrigger i reason p).inReset = s.inReset ∧
    (s.zoneTrigger i reason p).guards = s.guards ∧
    (s.zoneTrigger i reason p).streams = s.streams ∧
    (s.zoneTrigger i reason p).writePath = s.writePath ∧
    (s.zoneTrigger i reason p).laser = s.laser ∧
    (s.zoneTrigger i reason p).monitor = s.monitor ∧
    (s.zoneTrigger i reason p).port = s.port ∧
    (s.zoneTrigger i reason p).pending = s.pending := by
  simp [State.zoneTrigger]
@[simp] theorem zoneTrigger_inReset : (s.zoneTrigger i reason p).inReset = s.inReset := (zoneTrigger_frame s i reason p).1
@[simp] theorem zoneTrigger_guards : (s.zoneTrigger i reason p).guards = s.guards := (zoneTrigger_frame s i reason p).2.1
@[simp] theorem zoneTrigger_streams : (s.zoneTrigger i reason p).streams = s.streams := (zoneTrigger_frame s i reason p).2.2.1
@[simp] theorem zoneTrigger_writePath : (s.zoneTrigger i reason p).writePath = s.writePath := (zoneTrigger_frame s i reason p).2.2.2.1
@[simp] theorem zoneTrigger_laser : (s.zoneTrigger i reason p).laser = s.laser := (zoneTrigger_frame s i reason p).2.2.2.2.1
@[simp] theorem zoneTrigger_monitor : (s.zoneTrigger i reason p).monitor = s.monitor := (zoneTrigger_frame s i reason p).2.2.2.2.2.1
@[simp] theorem zoneTrigger_port : (s.zoneTrigger i reason p).port = s.port := (zoneTrigger_frame s i reason p).2.2.2.2.2.2.1
@[simp] theorem zoneTrigger_pending : (s.zoneTrigger i reason p).pending = s.pending := (zoneTrigger_frame s i reason p).2.2.2.2.2.2.2
end

section
variable (s : State) (g : Guard)
theorem guardTrigger_frame :
    (s.guardTrigger g).inReset = s.inReset ∧
    (s.guardTrigger g).guards = s.guards ∧
    (s.guardTrigger g).streams = s.streams ∧
    (s.guardTrigger g).writePath = s.writePath ∧
    (s.guardTrigger g).laser = s.laser ∧
    (s.guardTrigger g).monitor = s.monitor ∧
    (s.guardTrigger g).port = s.port ∧
    (s.guardTrigger g).pending = s.pending := by
  simp [State.guardTrigger]
@[simp] theorem guardTrigger_inReset : (s.guardTrigger g).inReset = s.inReset := (guardTrigger_frame s g).1
@[simp] theorem guardTrigger_guards : (s.guardTrigger g).guards = s.guards := (guardTrigger_frame s g).2.1
@[simp] theorem guardTrigger_streams : (s.guardTrigger g).streams = s.streams := (guardTrigger_frame s g).2.2.1
@[simp] theorem guardTrigger_writePath : (s.guardTrigger g).writePath = s.writePath := (guardTrigger_frame s g).2.2.2.1
@[simp] theorem guardTrigger_laser : (s.guardTrigger g).laser = s.laser := (guardTrigger_frame s g).2.2.2.2.1
@[simp] theorem guardTrigger_monitor : (s.guardTrigger g).monitor = s.monitor := (guardTrigger_frame s g).2.2.2.2.2.1
@[simp] theorem guardTrigger_port : (s.guardTrigger g).port = s.port := (guardTrigger_frame s g).2.2.2.2.2.2.1
@[simp] theorem guardTrigger_pending : (s.guardTrigger g).pending = s.pending := (guardTrigger_frame s g).2.2.2.2.2.2.2
end

section
variable (s : State) (reason : RevokeReason) (p : Entry → Bool)
theorem entryTrigger_frame :
    (s.entryTrigger reason p).inReset = s.inReset ∧
    (s.entryTrigger reason p).guards = s.guards ∧
    (s.entryTrigger reason p).streams = s.streams ∧
    (s.entryTrigger reason p).writePath = s.writePath ∧
    (s.entryTrigger reason p).laser = s.laser ∧
    (s.entryTrigger reason p).monitor = s.monitor ∧
    (s.entryTrigger reason p).port = s.port ∧
    (s.entryTrigger reason p).pending = s.pending := by
  simp [State.entryTrigger]
@[simp] theorem entryTrigger_inReset : (s.entryTrigger reason p).inReset = s.inReset := (entryTrigger_frame s reason p).1
@[simp] theorem entryTrigger_guards : (s.entryTrigger reason p).guards = s.guards := (entryTrigger_frame s reason p).2.1
@[simp] theorem entryTrigger_streams : (s.entryTrigger reason p).streams = s.streams := (entryTrigger_frame s reason p).2.2.1
@[simp] theorem entryTrigger_writePath : (s.entryTrigger reason p).writePath = s.writePath := (entryTrigger_frame s reason p).2.2.2.1
@[simp] theorem entryTrigger_laser : (s.entryTrigger reason p).laser = s.laser := (entryTrigger_frame s reason p).2.2.2.2.1
@[simp] theorem entryTrigger_monitor : (s.entryTrigger reason p).monitor = s.monitor := (entryTrigger_frame s reason p).2.2.2.2.2.1
@[simp] theorem entryTrigger_port : (s.entryTrigger reason p).port = s.port := (entryTrigger_frame s reason p).2.2.2.2.2.2.1
@[simp] theorem entryTrigger_pending : (s.entryTrigger reason p).pending = s.pending := (entryTrigger_frame s reason p).2.2.2.2.2.2.2
end

section
variable (s : State) (reason : RevokeReason)
theorem flush_frame :
    (s.flush reason).inReset = s.inReset ∧
    (s.flush reason).guards = s.guards ∧
    (s.flush reason).streams = s.streams ∧
    (s.flush reason).writePath = s.writePath ∧
    (s.flush reason).laser = s.laser ∧
    (s.flush reason).monitor = s.monitor ∧
    (s.flush reason).port = s.port ∧
    (s.flush reason).pending = s.pending := by
  simp [State.flush]
@[simp] theorem flush_inReset : (s.flush reason).inReset = s.inReset := (flush_frame s reason).1
@[simp] theorem flush_guards : (s.flush reason).guards = s.guards := (flush_frame s reason).2.1
@[simp] theorem flush_streams : (s.flush reason).streams = s.streams := (flush_frame s reason).2.2.1
@[simp] theorem flush_writePath : (s.flush reason).writePath = s.writePath := (flush_frame s reason).2.2.2.1
@[simp] theorem flush_laser : (s.flush reason).laser = s.laser := (flush_frame s reason).2.2.2.2.1
@[simp] theorem flush_monitor : (s.flush reason).monitor = s.monitor := (flush_frame s reason).2.2.2.2.2.1
@[simp] theorem flush_port : (s.flush reason).port = s.port := (flush_frame s reason).2.2.2.2.2.2.1
@[simp] theorem flush_pending : (s.flush reason).pending = s.pending := (flush_frame s reason).2.2.2.2.2.2.2
end

end Sys2Proof.Laws
end

