-- ==== Sys2Proof/Laws/LaserOps.lean ====
section
/-!
SUPPORT. What each shared operation of Machine/LaserOps.lean leaves alone, in the same form as Laws/Ops.lean.
-/

namespace Sys2Proof.Laws

open Sys2Proof Sys2Proof.Machine

section
variable (s : State) (c : Nat) (k : LevelCode)
theorem drive_frame :
    (s.drive c k).inReset = s.inReset ∧
    (s.drive c k).zones = s.zones ∧
    (s.drive c k).strategies = s.strategies ∧
    (s.drive c k).guards = s.guards ∧
    (s.drive c k).streams = s.streams ∧
    (s.drive c k).queue = s.queue ∧
    (s.drive c k).translating = s.translating ∧
    (s.drive c k).link = s.link ∧
    (s.drive c k).gate = s.gate ∧
    (s.drive c k).writePath = s.writePath ∧
    (s.drive c k).levels = s.levels ∧
    (s.drive c k).pickup = s.pickup ∧
    (s.drive c k).monitor = s.monitor ∧
    (s.drive c k).port = s.port ∧
    (s.drive c k).alert = s.alert ∧
    (s.drive c k).pending = s.pending := by
  simp [State.drive]
@[simp] theorem drive_inReset : (s.drive c k).inReset = s.inReset := (drive_frame s c k).1
@[simp] theorem drive_zones : (s.drive c k).zones = s.zones := (drive_frame s c k).2.1
@[simp] theorem drive_strategies : (s.drive c k).strategies = s.strategies := (drive_frame s c k).2.2.1
@[simp] theorem drive_guards : (s.drive c k).guards = s.guards := (drive_frame s c k).2.2.2.1
@[simp] theorem drive_streams : (s.drive c k).streams = s.streams := (drive_frame s c k).2.2.2.2.1
@[simp] theorem drive_queue : (s.drive c k).queue = s.queue := (drive_frame s c k).2.2.2.2.2.1
@[simp] theorem drive_translating : (s.drive c k).translating = s.translating := (drive_frame s c k).2.2.2.2.2.2.1
@[simp] theorem drive_link : (s.drive c k).link = s.link := (drive_frame s c k).2.2.2.2.2.2.2.1
@[simp] theorem drive_gate : (s.drive c k).gate = s.gate := (drive_frame s c k).2.2.2.2.2.2.2.2.1
@[simp] theorem drive_writePath : (s.drive c k).writePath = s.writePath := (drive_frame s c k).2.2.2.2.2.2.2.2.2.1
@[simp] theorem drive_levels : (s.drive c k).levels = s.levels := (drive_frame s c k).2.2.2.2.2.2.2.2.2.2.1
@[simp] theorem drive_pickup : (s.drive c k).pickup = s.pickup := (drive_frame s c k).2.2.2.2.2.2.2.2.2.2.2.1
@[simp] theorem drive_monitor : (s.drive c k).monitor = s.monitor := (drive_frame s c k).2.2.2.2.2.2.2.2.2.2.2.2.1
@[simp] theorem drive_port : (s.drive c k).port = s.port := (drive_frame s c k).2.2.2.2.2.2.2.2.2.2.2.2.2.1
@[simp] theorem drive_alert : (s.drive c k).alert = s.alert := (drive_frame s c k).2.2.2.2.2.2.2.2.2.2.2.2.2.2.1
@[simp] theorem drive_pending : (s.drive c k).pending = s.pending := (drive_frame s c k).2.2.2.2.2.2.2.2.2.2.2.2.2.2.2
end

section
variable (s : State)
theorem formReadDrive_frame :
    (s.formReadDrive).inReset = s.inReset ∧
    (s.formReadDrive).zones = s.zones ∧
    (s.formReadDrive).strategies = s.strategies ∧
    (s.formReadDrive).guards = s.guards ∧
    (s.formReadDrive).streams = s.streams ∧
    (s.formReadDrive).queue = s.queue ∧
    (s.formReadDrive).translating = s.translating ∧
    (s.formReadDrive).link = s.link ∧
    (s.formReadDrive).gate = s.gate ∧
    (s.formReadDrive).writePath = s.writePath ∧
    (s.formReadDrive).levels = s.levels ∧
    (s.formReadDrive).pickup = s.pickup ∧
    (s.formReadDrive).monitor = s.monitor ∧
    (s.formReadDrive).port = s.port ∧
    (s.formReadDrive).pending = s.pending := by
  unfold State.formReadDrive
  split <;> simp
@[simp] theorem formReadDrive_inReset : (s.formReadDrive).inReset = s.inReset := (formReadDrive_frame s).1
@[simp] theorem formReadDrive_zones : (s.formReadDrive).zones = s.zones := (formReadDrive_frame s).2.1
@[simp] theorem formReadDrive_strategies : (s.formReadDrive).strategies = s.strategies := (formReadDrive_frame s).2.2.1
@[simp] theorem formReadDrive_guards : (s.formReadDrive).guards = s.guards := (formReadDrive_frame s).2.2.2.1
@[simp] theorem formReadDrive_streams : (s.formReadDrive).streams = s.streams := (formReadDrive_frame s).2.2.2.2.1
@[simp] theorem formReadDrive_queue : (s.formReadDrive).queue = s.queue := (formReadDrive_frame s).2.2.2.2.2.1
@[simp] theorem formReadDrive_translating : (s.formReadDrive).translating = s.translating := (formReadDrive_frame s).2.2.2.2.2.2.1
@[simp] theorem formReadDrive_link : (s.formReadDrive).link = s.link := (formReadDrive_frame s).2.2.2.2.2.2.2.1
@[simp] theorem formReadDrive_gate : (s.formReadDrive).gate = s.gate := (formReadDrive_frame s).2.2.2.2.2.2.2.2.1
@[simp] theorem formReadDrive_writePath : (s.formReadDrive).writePath = s.writePath := (formReadDrive_frame s).2.2.2.2.2.2.2.2.2.1
@[simp] theorem formReadDrive_levels : (s.formReadDrive).levels = s.levels := (formReadDrive_frame s).2.2.2.2.2.2.2.2.2.2.1
@[simp] theorem formReadDrive_pickup : (s.formReadDrive).pickup = s.pickup := (formReadDrive_frame s).2.2.2.2.2.2.2.2.2.2.2.1
@[simp] theorem formReadDrive_monitor : (s.formReadDrive).monitor = s.monitor := (formReadDrive_frame s).2.2.2.2.2.2.2.2.2.2.2.2.1
@[simp] theorem formReadDrive_port : (s.formReadDrive).port = s.port := (formReadDrive_frame s).2.2.2.2.2.2.2.2.2.2.2.2.2.1
@[simp] theorem formReadDrive_pending : (s.formReadDrive).pending = s.pending := (formReadDrive_frame s).2.2.2.2.2.2.2.2.2.2.2.2.2.2
end

section
variable (s : State)
theorem enterIdle_frame :
    (s.enterIdle).inReset = s.inReset ∧
    (s.enterIdle).zones = s.zones ∧
    (s.enterIdle).strategies = s.strategies ∧
    (s.enterIdle).guards = s.guards ∧
    (s.enterIdle).streams = s.streams ∧
    (s.enterIdle).queue = s.queue ∧
    (s.enterIdle).translating = s.translating ∧
    (s.enterIdle).link = s.link ∧
    (s.enterIdle).gate = s.gate ∧
    (s.enterIdle).levels = s.levels ∧
    (s.enterIdle).pickup = s.pickup ∧
    (s.enterIdle).port = s.port ∧
    (s.enterIdle).pending = s.pending := by
  simp [State.enterIdle]
@[simp] theorem enterIdle_inReset : (s.enterIdle).inReset = s.inReset := (enterIdle_frame s).1
@[simp] theorem enterIdle_zones : (s.enterIdle).zones = s.zones := (enterIdle_frame s).2.1
@[simp] theorem enterIdle_strategies : (s.enterIdle).strategies = s.strategies := (enterIdle_frame s).2.2.1
@[simp] theorem enterIdle_guards : (s.enterIdle).guards = s.guards := (enterIdle_frame s).2.2.2.1
@[simp] theorem enterIdle_streams : (s.enterIdle).streams = s.streams := (enterIdle_frame s).2.2.2.2.1
@[simp] theorem enterIdle_queue : (s.enterIdle).queue = s.queue := (enterIdle_frame s).2.2.2.2.2.1
@[simp] theorem enterIdle_translating : (s.enterIdle).translating = s.translating := (enterIdle_frame s).2.2.2.2.2.2.1
@[simp] theorem enterIdle_link : (s.enterIdle).link = s.link := (enterIdle_frame s).2.2.2.2.2.2.2.1
@[simp] theorem enterIdle_gate : (s.enterIdle).gate = s.gate := (enterIdle_frame s).2.2.2.2.2.2.2.2.1
@[simp] theorem enterIdle_levels : (s.enterIdle).levels = s.levels := (enterIdle_frame s).2.2.2.2.2.2.2.2.2.1
@[simp] theorem enterIdle_pickup : (s.enterIdle).pickup = s.pickup := (enterIdle_frame s).2.2.2.2.2.2.2.2.2.2.1
@[simp] theorem enterIdle_port : (s.enterIdle).port = s.port := (enterIdle_frame s).2.2.2.2.2.2.2.2.2.2.2.1
@[simp] theorem enterIdle_pending : (s.enterIdle).pending = s.pending := (enterIdle_frame s).2.2.2.2.2.2.2.2.2.2.2.2
end

section
variable (s : State) (d : LaserState)
theorem darken_frame :
    (s.darken d).inReset = s.inReset ∧
    (s.darken d).zones = s.zones ∧
    (s.darken d).strategies = s.strategies ∧
    (s.darken d).guards = s.guards ∧
    (s.darken d).streams = s.streams ∧
    (s.darken d).queue = s.queue ∧
    (s.darken d).translating = s.translating ∧
    (s.darken d).link = s.link ∧
    (s.darken d).gate = s.gate ∧
    (s.darken d).pickup = s.pickup ∧
    (s.darken d).port = s.port ∧
    (s.darken d).alert = s.alert ∧
    (s.darken d).pending = s.pending := by
  simp [State.darken]
@[simp] theorem darken_inReset : (s.darken d).inReset = s.inReset := (darken_frame s d).1
@[simp] theorem darken_zones : (s.darken d).zones = s.zones := (darken_frame s d).2.1
@[simp] theorem darken_strategies : (s.darken d).strategies = s.strategies := (darken_frame s d).2.2.1
@[simp] theorem darken_guards : (s.darken d).guards = s.guards := (darken_frame s d).2.2.2.1
@[simp] theorem darken_streams : (s.darken d).streams = s.streams := (darken_frame s d).2.2.2.2.1
@[simp] theorem darken_queue : (s.darken d).queue = s.queue := (darken_frame s d).2.2.2.2.2.1
@[simp] theorem darken_translating : (s.darken d).translating = s.translating := (darken_frame s d).2.2.2.2.2.2.1
@[simp] theorem darken_link : (s.darken d).link = s.link := (darken_frame s d).2.2.2.2.2.2.2.1
@[simp] theorem darken_gate : (s.darken d).gate = s.gate := (darken_frame s d).2.2.2.2.2.2.2.2.1
@[simp] theorem darken_pickup : (s.darken d).pickup = s.pickup := (darken_frame s d).2.2.2.2.2.2.2.2.2.1
@[simp] theorem darken_port : (s.darken d).port = s.port := (darken_frame s d).2.2.2.2.2.2.2.2.2.2.1
@[simp] theorem darken_alert : (s.darken d).alert = s.alert := (darken_frame s d).2.2.2.2.2.2.2.2.2.2.2.1
@[simp] theorem darken_pending : (s.darken d).pending = s.pending := (darken_frame s d).2.2.2.2.2.2.2.2.2.2.2.2
end

section
variable (s : State) (reason : RevokeReason)
theorem turnOff_frame :
    (s.turnOff reason).inReset = s.inReset ∧
    (s.turnOff reason).guards = s.guards ∧
    (s.turnOff reason).streams = s.streams ∧
    (s.turnOff reason).port = s.port ∧
    (s.turnOff reason).pending = s.pending := by
  unfold State.turnOff
  split <;> simp
@[simp] theorem turnOff_inReset : (s.turnOff reason).inReset = s.inReset := (turnOff_frame s reason).1
@[simp] theorem turnOff_guards : (s.turnOff reason).guards = s.guards := (turnOff_frame s reason).2.1
@[simp] theorem turnOff_streams : (s.turnOff reason).streams = s.streams := (turnOff_frame s reason).2.2.1
@[simp] theorem turnOff_port : (s.turnOff reason).port = s.port := (turnOff_frame s reason).2.2.2.1
@[simp] theorem turnOff_pending : (s.turnOff reason).pending = s.pending := (turnOff_frame s reason).2.2.2.2
end

section
variable (s : State) (cause : FaultCause)
theorem enterFault_frame :
    (s.enterFault cause).inReset = s.inReset ∧
    (s.enterFault cause).guards = s.guards ∧
    (s.enterFault cause).streams = s.streams ∧
    (s.enterFault cause).port = s.port ∧
    (s.enterFault cause).pending = s.pending := by
  simp [State.enterFault]
@[simp] theorem enterFault_inReset : (s.enterFault cause).inReset = s.inReset := (enterFault_frame s cause).1
@[simp] theorem enterFault_guards : (s.enterFault cause).guards = s.guards := (enterFault_frame s cause).2.1
@[simp] theorem enterFault_streams : (s.enterFault cause).streams = s.streams := (enterFault_frame s cause).2.2.1
@[simp] theorem enterFault_port : (s.enterFault cause).port = s.port := (enterFault_frame s cause).2.2.2.1
@[simp] theorem enterFault_pending : (s.enterFault cause).pending = s.pending := (enterFault_frame s cause).2.2.2.2
end

section
variable (s : State)
theorem furtherFault_frame :
    (s.furtherFault).inReset = s.inReset ∧
    (s.furtherFault).zones = s.zones ∧
    (s.furtherFault).strategies = s.strategies ∧
    (s.furtherFault).guards = s.guards ∧
    (s.furtherFault).streams = s.streams ∧
    (s.furtherFault).queue = s.queue ∧
    (s.furtherFault).translating = s.translating ∧
    (s.furtherFault).link = s.link ∧
    (s.furtherFault).gate = s.gate ∧
    (s.furtherFault).writePath = s.writePath ∧
    (s.furtherFault).levels = s.levels ∧
    (s.furtherFault).pickup = s.pickup ∧
    (s.furtherFault).monitor = s.monitor ∧
    (s.furtherFault).port = s.port ∧
    (s.furtherFault).pending = s.pending := by
  unfold State.furtherFault
  split <;> simp
@[simp] theorem furtherFault_inReset : (s.furtherFault).inReset = s.inReset := (furtherFault_frame s).1
@[simp] theorem furtherFault_zones : (s.furtherFault).zones = s.zones := (furtherFault_frame s).2.1
@[simp] theorem furtherFault_strategies : (s.furtherFault).strategies = s.strategies := (furtherFault_frame s).2.2.1
@[simp] theorem furtherFault_guards : (s.furtherFault).guards = s.guards := (furtherFault_frame s).2.2.2.1
@[simp] theorem furtherFault_streams : (s.furtherFault).streams = s.streams := (furtherFault_frame s).2.2.2.2.1
@[simp] theorem furtherFault_queue : (s.furtherFault).queue = s.queue := (furtherFault_frame s).2.2.2.2.2.1
@[simp] theorem furtherFault_translating : (s.furtherFault).translating = s.translating := (furtherFault_frame s).2.2.2.2.2.2.1
@[simp] theorem furtherFault_link : (s.furtherFault).link = s.link := (furtherFault_frame s).2.2.2.2.2.2.2.1
@[simp] theorem furtherFault_gate : (s.furtherFault).gate = s.gate := (furtherFault_frame s).2.2.2.2.2.2.2.2.1
@[simp] theorem furtherFault_writePath : (s.furtherFault).writePath = s.writePath := (furtherFault_frame s).2.2.2.2.2.2.2.2.2.1
@[simp] theorem furtherFault_levels : (s.furtherFault).levels = s.levels := (furtherFault_frame s).2.2.2.2.2.2.2.2.2.2.1
@[simp] theorem furtherFault_pickup : (s.furtherFault).pickup = s.pickup := (furtherFault_frame s).2.2.2.2.2.2.2.2.2.2.2.1
@[simp] theorem furtherFault_monitor : (s.furtherFault).monitor = s.monitor := (furtherFault_frame s).2.2.2.2.2.2.2.2.2.2.2.2.1
@[simp] theorem furtherFault_port : (s.furtherFault).port = s.port := (furtherFault_frame s).2.2.2.2.2.2.2.2.2.2.2.2.2.1
@[simp] theorem furtherFault_pending : (s.furtherFault).pending = s.pending := (furtherFault_frame s).2.2.2.2.2.2.2.2.2.2.2.2.2.2
end

section
variable (s : State) (cause : FaultCause)
theorem faultCondition_frame :
    (s.faultCondition cause).inReset = s.inReset ∧
    (s.faultCondition cause).guards = s.guards ∧
    (s.faultCondition cause).streams = s.streams ∧
    (s.faultCondition cause).port = s.port ∧
    (s.faultCondition cause).pending = s.pending := by
  unfold State.faultCondition
  (repeat' split) <;> simp
@[simp] theorem faultCondition_inReset : (s.faultCondition cause).inReset = s.inReset := (faultCondition_frame s cause).1
@[simp] theorem faultCondition_guards : (s.faultCondition cause).guards = s.guards := (faultCondition_frame s cause).2.1
@[simp] theorem faultCondition_streams : (s.faultCondition cause).streams = s.streams := (faultCondition_frame s cause).2.2.1
@[simp] theorem faultCondition_port : (s.faultCondition cause).port = s.port := (faultCondition_frame s cause).2.2.2.1
@[simp] theorem faultCondition_pending : (s.faultCondition cause).pending = s.pending := (faultCondition_frame s cause).2.2.2.2
end

section
variable (s : State)
theorem refreshIdle_frame :
    (s.refreshIdle).inReset = s.inReset ∧
    (s.refreshIdle).zones = s.zones ∧
    (s.refreshIdle).strategies = s.strategies ∧
    (s.refreshIdle).guards = s.guards ∧
    (s.refreshIdle).streams = s.streams ∧
    (s.refreshIdle).queue = s.queue ∧
    (s.refreshIdle).translating = s.translating ∧
    (s.refreshIdle).link = s.link ∧
    (s.refreshIdle).gate = s.gate ∧
    (s.refreshIdle).writePath = s.writePath ∧
    (s.refreshIdle).pickup = s.pickup ∧
    (s.refreshIdle).laser = s.laser ∧
    (s.refreshIdle).monitor = s.monitor ∧
    (s.refreshIdle).port = s.port ∧
    (s.refreshIdle).alert = s.alert ∧
    (s.refreshIdle).pending = s.pending := by
  unfold State.refreshIdle
  (repeat' split) <;> simp
@[simp] theorem refreshIdle_inReset : (s.refreshIdle).inReset = s.inReset := (refreshIdle_frame s).1
@[simp] theorem refreshIdle_zones : (s.refreshIdle).zones = s.zones := (refreshIdle_frame s).2.1
@[simp] theorem refreshIdle_strategies : (s.refreshIdle).strategies = s.strategies := (refreshIdle_frame s).2.2.1
@[simp] theorem refreshIdle_guards : (s.refreshIdle).guards = s.guards := (refreshIdle_frame s).2.2.2.1
@[simp] theorem refreshIdle_streams : (s.refreshIdle).streams = s.streams := (refreshIdle_frame s).2.2.2.2.1
@[simp] theorem refreshIdle_queue : (s.refreshIdle).queue = s.queue := (refreshIdle_frame s).2.2.2.2.2.1
@[simp] theorem refreshIdle_translating : (s.refreshIdle).translating = s.translating := (refreshIdle_frame s).2.2.2.2.2.2.1
@[simp] theorem refreshIdle_link : (s.refreshIdle).link = s.link := (refreshIdle_frame s).2.2.2.2.2.2.2.1
@[simp] theorem refreshIdle_gate : (s.refreshIdle).gate = s.gate := (refreshIdle_frame s).2.2.2.2.2.2.2.2.1
@[simp] theorem refreshIdle_writePath : (s.refreshIdle).writePath = s.writePath := (refreshIdle_frame s).2.2.2.2.2.2.2.2.2.1
@[simp] theorem refreshIdle_pickup : (s.refreshIdle).pickup = s.pickup := (refreshIdle_frame s).2.2.2.2.2.2.2.2.2.2.1
@[simp] theorem refreshIdle_laser : (s.refreshIdle).laser = s.laser := (refreshIdle_frame s).2.2.2.2.2.2.2.2.2.2.2.1
@[simp] theorem refreshIdle_monitor : (s.refreshIdle).monitor = s.monitor := (refreshIdle_frame s).2.2.2.2.2.2.2.2.2.2.2.2.1
@[simp] theorem refreshIdle_port : (s.refreshIdle).port = s.port := (refreshIdle_frame s).2.2.2.2.2.2.2.2.2.2.2.2.2.1
@[simp] theorem refreshIdle_alert : (s.refreshIdle).alert = s.alert := (refreshIdle_frame s).2.2.2.2.2.2.2.2.2.2.2.2.2.2.1
@[simp] theorem refreshIdle_pending : (s.refreshIdle).pending = s.pending := (refreshIdle_frame s).2.2.2.2.2.2.2.2.2.2.2.2.2.2.2
end

section
variable (s : State)
theorem unlockRevoke_frame :
    (s.unlockRevoke).inReset = s.inReset ∧
    (s.unlockRevoke).guards = s.guards ∧
    (s.unlockRevoke).streams = s.streams ∧
    (s.unlockRevoke).writePath = s.writePath ∧
    (s.unlockRevoke).laser = s.laser ∧
    (s.unlockRevoke).monitor = s.monitor ∧
    (s.unlockRevoke).port = s.port ∧
    (s.unlockRevoke).pending = s.pending := by
  unfold State.unlockRevoke
  (repeat' split) <;> simp
@[simp] theorem unlockRevoke_inReset : (s.unlockRevoke).inReset = s.inReset := (unlockRevoke_frame s).1
@[simp] theorem unlockRevoke_guards : (s.unlockRevoke).guards = s.guards := (unlockRevoke_frame s).2.1
@[simp] theorem unlockRevoke_streams : (s.unlockRevoke).streams = s.streams := (unlockRevoke_frame s).2.2.1
@[simp] theorem unlockRevoke_writePath : (s.unlockRevoke).writePath = s.writePath := (unlockRevoke_frame s).2.2.2.1
@[simp] theorem unlockRevoke_laser : (s.unlockRevoke).laser = s.laser := (unlockRevoke_frame s).2.2.2.2.1
@[simp] theorem unlockRevoke_monitor : (s.unlockRevoke).monitor = s.monitor := (unlockRevoke_frame s).2.2.2.2.2.1
@[simp] theorem unlockRevoke_port : (s.unlockRevoke).port = s.port := (unlockRevoke_frame s).2.2.2.2.2.2.1
@[simp] theorem unlockRevoke_pending : (s.unlockRevoke).pending = s.pending := (unlockRevoke_frame s).2.2.2.2.2.2.2
end

section
variable (s : State)
theorem enterUnlocked_frame :
    (s.enterUnlocked).inReset = s.inReset ∧
    (s.enterUnlocked).guards = s.guards ∧
    (s.enterUnlocked).streams = s.streams ∧
    (s.enterUnlocked).port = s.port ∧
    (s.enterUnlocked).pending = s.pending := by
  simp only [State.enterUnlocked]
  split <;> simp
@[simp] theorem enterUnlocked_inReset : (s.enterUnlocked).inReset = s.inReset := (enterUnlocked_frame s).1
@[simp] theorem enterUnlocked_guards : (s.enterUnlocked).guards = s.guards := (enterUnlocked_frame s).2.1
@[simp] theorem enterUnlocked_streams : (s.enterUnlocked).streams = s.streams := (enterUnlocked_frame s).2.2.1
@[simp] theorem enterUnlocked_port : (s.enterUnlocked).port = s.port := (enterUnlocked_frame s).2.2.2.1
@[simp] theorem enterUnlocked_pending : (s.enterUnlocked).pending = s.pending := (enterUnlocked_frame s).2.2.2.2
end

section
variable (s : State)
theorem warn_frame :
    (s.warn).inReset = s.inReset ∧
    (s.warn).zones = s.zones ∧
    (s.warn).strategies = s.strategies ∧
    (s.warn).guards = s.guards ∧
    (s.warn).streams = s.streams ∧
    (s.warn).queue = s.queue ∧
    (s.warn).translating = s.translating ∧
    (s.warn).link = s.link ∧
    (s.warn).gate = s.gate ∧
    (s.warn).writePath = s.writePath ∧
    (s.warn).levels = s.levels ∧
    (s.warn).pickup = s.pickup ∧
    (s.warn).monitor = s.monitor ∧
    (s.warn).port = s.port ∧
    (s.warn).pending = s.pending := by
  unfold State.warn
  (repeat' split) <;> simp
@[simp] theorem warn_inReset : (s.warn).inReset = s.inReset := (warn_frame s).1
@[simp] theorem warn_zones : (s.warn).zones = s.zones := (warn_frame s).2.1
@[simp] theorem warn_strategies : (s.warn).strategies = s.strategies := (warn_frame s).2.2.1
@[simp] theorem warn_guards : (s.warn).guards = s.guards := (warn_frame s).2.2.2.1
@[simp] theorem warn_streams : (s.warn).streams = s.streams := (warn_frame s).2.2.2.2.1
@[simp] theorem warn_queue : (s.warn).queue = s.queue := (warn_frame s).2.2.2.2.2.1
@[simp] theorem warn_translating : (s.warn).translating = s.translating := (warn_frame s).2.2.2.2.2.2.1
@[simp] theorem warn_link : (s.warn).link = s.link := (warn_frame s).2.2.2.2.2.2.2.1
@[simp] theorem warn_gate : (s.warn).gate = s.gate := (warn_frame s).2.2.2.2.2.2.2.2.1
@[simp] theorem warn_writePath : (s.warn).writePath = s.writePath := (warn_frame s).2.2.2.2.2.2.2.2.2.1
@[simp] theorem warn_levels : (s.warn).levels = s.levels := (warn_frame s).2.2.2.2.2.2.2.2.2.2.1
@[simp] theorem warn_pickup : (s.warn).pickup = s.pickup := (warn_frame s).2.2.2.2.2.2.2.2.2.2.2.1
@[simp] theorem warn_monitor : (s.warn).monitor = s.monitor := (warn_frame s).2.2.2.2.2.2.2.2.2.2.2.2.1
@[simp] theorem warn_port : (s.warn).port = s.port := (warn_frame s).2.2.2.2.2.2.2.2.2.2.2.2.2.1
@[simp] theorem warn_pending : (s.warn).pending = s.pending := (warn_frame s).2.2.2.2.2.2.2.2.2.2.2.2.2.2
end

end Sys2Proof.Laws
end

