-- ==== Sys2Proof/Laws/Port.lean ====
section
/-!
SUPPORT. What the frame of every command does: `whenRunning` and `execute` by cases, and the result an executing command is
given.
-/

namespace Sys2Proof.Laws

open Sys2Proof Sys2Proof.Machine

variable {s : State} {l g : Level} {code : Byte} {ps : List Byte} {f : Level → List Byte → State → Answered}

theorem whenRunning_running (h : s.inReset = false) (k : State → State) : s.whenRunning k = .next (k s) := by
  simp [State.whenRunning, h]

theorem whenRunning_held (h : s.inReset = true) (k : State → State) : s.whenRunning k = .next s := by
  simp [State.whenRunning, h]

/-- A command of an accepted level makes its own rule's change and keeps its result. -/
theorem execute_accepted (h : s.executing l code ps) (hl : l ≤ g) :
    s.execute code g f = .next ((f l ps s).1.withPort
      { (f l ps s).1.port with executor := some ⟨l, code, ps, some (f l ps s).2⟩ }) := by
  obtain ⟨h1, h2⟩ := h
  simp [State.execute, State.whenRunning, h1, h2, hl]

/-- The same where the rule's change leaves the port alone, as every command but RESET does. -/
theorem execute_answers (h : s.executing l code ps) (hl : l ≤ g) (hp : (f l ps s).1.port = s.port) :
    s.execute code g f = .next ((f l ps s).1.withResult (f l ps s).2) := by
  rw [execute_accepted h hl, State.withResult, hp, h.2]
  rfl

/-- A command from a level not accepted is Denied and changes nothing (R161). -/
theorem execute_denied (h : s.executing l code ps) (hl : g < l) :
    s.execute code g f = .next (s.withResult ⟨.denied, []⟩) := by
  obtain ⟨h1, h2⟩ := h
  simp [State.execute, State.whenRunning, h1, h2, Fin.not_le.mpr hl, refuseWith, State.withResult]

/-- Without such a command in the executor nothing happens. -/
theorem execute_absent (h : ∀ l ps, ¬ s.executing l code ps) : s.execute code g f = .next s := by
  unfold State.execute
  cases hr : s.inReset with
  | true => rw [whenRunning_held hr]
  | false =>
    rw [whenRunning_running hr]
    split
    · next l c ps he =>
      split
      · next hc => exact absurd ⟨hr, hc ▸ he⟩ (h l ps)
      · rfl
    · rfl

section
variable (s : State) (r : Result)
@[simp] theorem withResult_inReset : (s.withResult r).inReset = s.inReset := rfl
@[simp] theorem withResult_zones : (s.withResult r).zones = s.zones := rfl
@[simp] theorem withResult_strategies : (s.withResult r).strategies = s.strategies := rfl
@[simp] theorem withResult_guards : (s.withResult r).guards = s.guards := rfl
@[simp] theorem withResult_streams : (s.withResult r).streams = s.streams := rfl
@[simp] theorem withResult_queue : (s.withResult r).queue = s.queue := rfl
@[simp] theorem withResult_translating : (s.withResult r).translating = s.translating := rfl
@[simp] theorem withResult_link : (s.withResult r).link = s.link := rfl
@[simp] theorem withResult_gate : (s.withResult r).gate = s.gate := rfl
@[simp] theorem withResult_writePath : (s.withResult r).writePath = s.writePath := rfl
@[simp] theorem withResult_levels : (s.withResult r).levels = s.levels := rfl
@[simp] theorem withResult_pickup : (s.withResult r).pickup = s.pickup := rfl
@[simp] theorem withResult_laser : (s.withResult r).laser = s.laser := rfl
@[simp] theorem withResult_monitor : (s.withResult r).monitor = s.monitor := rfl
@[simp] theorem withResult_alert : (s.withResult r).alert = s.alert := rfl
@[simp] theorem withResult_pending : (s.withResult r).pending = s.pending := rfl
end

end Sys2Proof.Laws
end

