-- ==== Sys2Proof/Laws/Commands.lean ====
section
/-!
SUPPORT. What each command leaves alone: one frame lemma per rule body and per meaning, naming every block it does not touch.
-/

namespace Sys2Proof.Laws

open Sys2Proof Sys2Proof.Machine

section
variable (s : State) (k : Option StrategySlot)
theorem addRef_frame :
    (s.addRef k).inReset = s.inReset ∧
    (s.addRef k).zones = s.zones ∧
    (s.addRef k).guards = s.guards ∧
    (s.addRef k).streams = s.streams ∧
    (s.addRef k).queue = s.queue ∧
    (s.addRef k).translating = s.translating ∧
    (s.addRef k).link = s.link ∧
    (s.addRef k).gate = s.gate ∧
    (s.addRef k).writePath = s.writePath ∧
    (s.addRef k).levels = s.levels ∧
    (s.addRef k).pickup = s.pickup ∧
    (s.addRef k).laser = s.laser ∧
    (s.addRef k).monitor = s.monitor ∧
    (s.addRef k).port = s.port ∧
    (s.addRef k).alert = s.alert ∧
    (s.addRef k).pending = s.pending := by
  unfold State.addRef
  (repeat' split) <;> simp
@[simp] theorem addRef_inReset : (s.addRef k).inReset = s.inReset := (addRef_frame s k).1
@[simp] theorem addRef_zones : (s.addRef k).zones = s.zones := (addRef_frame s k).2.1
@[simp] theorem addRef_guards : (s.addRef k).guards = s.guards := (addRef_frame s k).2.2.1
@[simp] theorem addRef_streams : (s.addRef k).streams = s.streams := (addRef_frame s k).2.2.2.1
@[simp] theorem addRef_queue : (s.addRef k).queue = s.queue := (addRef_frame s k).2.2.2.2.1
@[simp] theorem addRef_translating : (s.addRef k).translating = s.translating := (addRef_frame s k).2.2.2.2.2.1
@[simp] theorem addRef_link : (s.addRef k).link = s.link := (addRef_frame s k).2.2.2.2.2.2.1
@[simp] theorem addRef_gate : (s.addRef k).gate = s.gate := (addRef_frame s k).2.2.2.2.2.2.2.1
@[simp] theorem addRef_writePath : (s.addRef k).writePath = s.writePath := (addRef_frame s k).2.2.2.2.2.2.2.2.1
@[simp] theorem addRef_levels : (s.addRef k).levels = s.levels := (addRef_frame s k).2.2.2.2.2.2.2.2.2.1
@[simp] theorem addRef_pickup : (s.addRef k).pickup = s.pickup := (addRef_frame s k).2.2.2.2.2.2.2.2.2.2.1
@[simp] theorem addRef_laser : (s.addRef k).laser = s.laser := (addRef_frame s k).2.2.2.2.2.2.2.2.2.2.2.1
@[simp] theorem addRef_monitor : (s.addRef k).monitor = s.monitor := (addRef_frame s k).2.2.2.2.2.2.2.2.2.2.2.2.1
@[simp] theorem addRef_port : (s.addRef k).port = s.port := (addRef_frame s k).2.2.2.2.2.2.2.2.2.2.2.2.2.1
@[simp] theorem addRef_alert : (s.addRef k).alert = s.alert := (addRef_frame s k).2.2.2.2.2.2.2.2.2.2.2.2.2.2.1
@[simp] theorem addRef_pending : (s.addRef k).pending = s.pending := (addRef_frame s k).2.2.2.2.2.2.2.2.2.2.2.2.2.2.2
end

section
variable (l : Level) (ps : List Byte) (s : State)
theorem loadZone_frame :
    (loadZone l ps s).1.inReset = s.inReset ∧
    (loadZone l ps s).1.guards = s.guards ∧
    (loadZone l ps s).1.streams = s.streams ∧
    (loadZone l ps s).1.queue = s.queue ∧
    (loadZone l ps s).1.translating = s.translating ∧
    (loadZone l ps s).1.link = s.link ∧
    (loadZone l ps s).1.gate = s.gate ∧
    (loadZone l ps s).1.writePath = s.writePath ∧
    (loadZone l ps s).1.levels = s.levels ∧
    (loadZone l ps s).1.pickup = s.pickup ∧
    (loadZone l ps s).1.laser = s.laser ∧
    (loadZone l ps s).1.monitor = s.monitor ∧
    (loadZone l ps s).1.port = s.port ∧
    (loadZone l ps s).1.alert = s.alert ∧
    (loadZone l ps s).1.pending = s.pending := by
  simp only [loadZone, done, refuseWith]
  (repeat' split) <;> simp
@[simp] theorem loadZone_inReset : (loadZone l ps s).1.inReset = s.inReset := (loadZone_frame l ps s).1
@[simp] theorem loadZone_guards : (loadZone l ps s).1.guards = s.guards := (loadZone_frame l ps s).2.1
@[simp] theorem loadZone_streams : (loadZone l ps s).1.streams = s.streams := (loadZone_frame l ps s).2.2.1
@[simp] theorem loadZone_queue : (loadZone l ps s).1.queue = s.queue := (loadZone_frame l ps s).2.2.2.1
@[simp] theorem loadZone_translating : (loadZone l ps s).1.translating = s.translating := (loadZone_frame l ps s).2.2.2.2.1
@[simp] theorem loadZone_link : (loadZone l ps s).1.link = s.link := (loadZone_frame l ps s).2.2.2.2.2.1
@[simp] theorem loadZone_gate : (loadZone l ps s).1.gate = s.gate := (loadZone_frame l ps s).2.2.2.2.2.2.1
@[simp] theorem loadZone_writePath : (loadZone l ps s).1.writePath = s.writePath := (loadZone_frame l ps s).2.2.2.2.2.2.2.1
@[simp] theorem loadZone_levels : (loadZone l ps s).1.levels = s.levels := (loadZone_frame l ps s).2.2.2.2.2.2.2.2.1
@[simp] theorem loadZone_pickup : (loadZone l ps s).1.pickup = s.pickup := (loadZone_frame l ps s).2.2.2.2.2.2.2.2.2.1
@[simp] theorem loadZone_laser : (loadZone l ps s).1.laser = s.laser := (loadZone_frame l ps s).2.2.2.2.2.2.2.2.2.2.1
@[simp] theorem loadZone_monitor : (loadZone l ps s).1.monitor = s.monitor := (loadZone_frame l ps s).2.2.2.2.2.2.2.2.2.2.2.1
@[simp] theorem loadZone_port : (loadZone l ps s).1.port = s.port := (loadZone_frame l ps s).2.2.2.2.2.2.2.2.2.2.2.2.1
@[simp] theorem loadZone_alert : (loadZone l ps s).1.alert = s.alert := (loadZone_frame l ps s).2.2.2.2.2.2.2.2.2.2.2.2.2.1
@[simp] theorem loadZone_pending : (loadZone l ps s).1.pending = s.pending := (loadZone_frame l ps s).2.2.2.2.2.2.2.2.2.2.2.2.2.2
end

section
variable (l : Level) (ps : List Byte) (s : State)
theorem setPowers_frame :
    (setPowers l ps s).1.inReset = s.inReset ∧
    (setPowers l ps s).1.strategies = s.strategies ∧
    (setPowers l ps s).1.guards = s.guards ∧
    (setPowers l ps s).1.streams = s.streams ∧
    (setPowers l ps s).1.queue = s.queue ∧
    (setPowers l ps s).1.translating = s.translating ∧
    (setPowers l ps s).1.link = s.link ∧
    (setPowers l ps s).1.gate = s.gate ∧
    (setPowers l ps s).1.writePath = s.writePath ∧
    (setPowers l ps s).1.pickup = s.pickup ∧
    (setPowers l ps s).1.laser = s.laser ∧
    (setPowers l ps s).1.monitor = s.monitor ∧
    (setPowers l ps s).1.port = s.port ∧
    (setPowers l ps s).1.alert = s.alert ∧
    (setPowers l ps s).1.pending = s.pending := by
  simp only [setPowers, done, refuseWith]
  (repeat' split) <;> simp
@[simp] theorem setPowers_inReset : (setPowers l ps s).1.inReset = s.inReset := (setPowers_frame l ps s).1
@[simp] theorem setPowers_strategies : (setPowers l ps s).1.strategies = s.strategies := (setPowers_frame l ps s).2.1
@[simp] theorem setPowers_guards : (setPowers l ps s).1.guards = s.guards := (setPowers_frame l ps s).2.2.1
@[simp] theorem setPowers_streams : (setPowers l ps s).1.streams = s.streams := (setPowers_frame l ps s).2.2.2.1
@[simp] theorem setPowers_queue : (setPowers l ps s).1.queue = s.queue := (setPowers_frame l ps s).2.2.2.2.1
@[simp] theorem setPowers_translating : (setPowers l ps s).1.translating = s.translating := (setPowers_frame l ps s).2.2.2.2.2.1
@[simp] theorem setPowers_link : (setPowers l ps s).1.link = s.link := (setPowers_frame l ps s).2.2.2.2.2.2.1
@[simp] theorem setPowers_gate : (setPowers l ps s).1.gate = s.gate := (setPowers_frame l ps s).2.2.2.2.2.2.2.1
@[simp] theorem setPowers_writePath : (setPowers l ps s).1.writePath = s.writePath := (setPowers_frame l ps s).2.2.2.2.2.2.2.2.1
@[simp] theorem setPowers_pickup : (setPowers l ps s).1.pickup = s.pickup := (setPowers_frame l ps s).2.2.2.2.2.2.2.2.2.1
@[simp] theorem setPowers_laser : (setPowers l ps s).1.laser = s.laser := (setPowers_frame l ps s).2.2.2.2.2.2.2.2.2.2.1
@[simp] theorem setPowers_monitor : (setPowers l ps s).1.monitor = s.monitor := (setPowers_frame l ps s).2.2.2.2.2.2.2.2.2.2.2.1
@[simp] theorem setPowers_port : (setPowers l ps s).1.port = s.port := (setPowers_frame l ps s).2.2.2.2.2.2.2.2.2.2.2.2.1
@[simp] theorem setPowers_alert : (setPowers l ps s).1.alert = s.alert := (setPowers_frame l ps s).2.2.2.2.2.2.2.2.2.2.2.2.2.1
@[simp] theorem setPowers_pending : (setPowers l ps s).1.pending = s.pending := (setPowers_frame l ps s).2.2.2.2.2.2.2.2.2.2.2.2.2.2
end

section
variable (l : Level) (ps : List Byte) (s : State)
theorem setTrimAbsolute_frame :
    (setTrimAbsolute l ps s).1.inReset = s.inReset ∧
    (setTrimAbsolute l ps s).1.strategies = s.strategies ∧
    (setTrimAbsolute l ps s).1.guards = s.guards ∧
    (setTrimAbsolute l ps s).1.streams = s.streams ∧
    (setTrimAbsolute l ps s).1.queue = s.queue ∧
    (setTrimAbsolute l ps s).1.translating = s.translating ∧
    (setTrimAbsolute l ps s).1.link = s.link ∧
    (setTrimAbsolute l ps s).1.gate = s.gate ∧
    (setTrimAbsolute l ps s).1.writePath = s.writePath ∧
    (setTrimAbsolute l ps s).1.pickup = s.pickup ∧
    (setTrimAbsolute l ps s).1.laser = s.laser ∧
    (setTrimAbsolute l ps s).1.monitor = s.monitor ∧
    (setTrimAbsolute l ps s).1.port = s.port ∧
    (setTrimAbsolute l ps s).1.alert = s.alert ∧
    (setTrimAbsolute l ps s).1.pending = s.pending := by
  simp only [setTrimAbsolute, done, refuseWith, setTrimTo]
  (repeat' split) <;> simp
@[simp] theorem setTrimAbsolute_inReset : (setTrimAbsolute l ps s).1.inReset = s.inReset := (setTrimAbsolute_frame l ps s).1
@[simp] theorem setTrimAbsolute_strategies : (setTrimAbsolute l ps s).1.strategies = s.strategies := (setTrimAbsolute_frame l ps s).2.1
@[simp] theorem setTrimAbsolute_guards : (setTrimAbsolute l ps s).1.guards = s.guards := (setTrimAbsolute_frame l ps s).2.2.1
@[simp] theorem setTrimAbsolute_streams : (setTrimAbsolute l ps s).1.streams = s.streams := (setTrimAbsolute_frame l ps s).2.2.2.1
@[simp] theorem setTrimAbsolute_queue : (setTrimAbsolute l ps s).1.queue = s.queue := (setTrimAbsolute_frame l ps s).2.2.2.2.1
@[simp] theorem setTrimAbsolute_translating : (setTrimAbsolute l ps s).1.translating = s.translating := (setTrimAbsolute_frame l ps s).2.2.2.2.2.1
@[simp] theorem setTrimAbsolute_link : (setTrimAbsolute l ps s).1.link = s.link := (setTrimAbsolute_frame l ps s).2.2.2.2.2.2.1
@[simp] theorem setTrimAbsolute_gate : (setTrimAbsolute l ps s).1.gate = s.gate := (setTrimAbsolute_frame l ps s).2.2.2.2.2.2.2.1
@[simp] theorem setTrimAbsolute_writePath : (setTrimAbsolute l ps s).1.writePath = s.writePath := (setTrimAbsolute_frame l ps s).2.2.2.2.2.2.2.2.1
@[simp] theorem setTrimAbsolute_pickup : (setTrimAbsolute l ps s).1.pickup = s.pickup := (setTrimAbsolute_frame l ps s).2.2.2.2.2.2.2.2.2.1
@[simp] theorem setTrimAbsolute_laser : (setTrimAbsolute l ps s).1.laser = s.laser := (setTrimAbsolute_frame l ps s).2.2.2.2.2.2.2.2.2.2.1
@[simp] theorem setTrimAbsolute_monitor : (setTrimAbsolute l ps s).1.monitor = s.monitor := (setTrimAbsolute_frame l ps s).2.2.2.2.2.2.2.2.2.2.2.1
@[simp] theorem setTrimAbsolute_port : (setTrimAbsolute l ps s).1.port = s.port := (setTrimAbsolute_frame l ps s).2.2.2.2.2.2.2.2.2.2.2.2.1
@[simp] theorem setTrimAbsolute_alert : (setTrimAbsolute l ps s).1.alert = s.alert := (setTrimAbsolute_frame l ps s).2.2.2.2.2.2.2.2.2.2.2.2.2.1
@[simp] theorem setTrimAbsolute_pending : (setTrimAbsolute l ps s).1.pending = s.pending := (setTrimAbsolute_frame l ps s).2.2.2.2.2.2.2.2.2.2.2.2.2.2
end

section
variable (l : Level) (ps : List Byte) (s : State)
theorem setTrimShort_frame :
    (setTrimShort l ps s).1.inReset = s.inReset ∧
    (setTrimShort l ps s).1.strategies = s.strategies ∧
    (setTrimShort l ps s).1.guards = s.guards ∧
    (setTrimShort l ps s).1.streams = s.streams ∧
    (setTrimShort l ps s).1.queue = s.queue ∧
    (setTrimShort l ps s).1.translating = s.translating ∧
    (setTrimShort l ps s).1.link = s.link ∧
    (setTrimShort l ps s).1.gate = s.gate ∧
    (setTrimShort l ps s).1.writePath = s.writePath ∧
    (setTrimShort l ps s).1.pickup = s.pickup ∧
    (setTrimShort l ps s).1.laser = s.laser ∧
    (setTrimShort l ps s).1.monitor = s.monitor ∧
    (setTrimShort l ps s).1.port = s.port ∧
    (setTrimShort l ps s).1.alert = s.alert ∧
    (setTrimShort l ps s).1.pending = s.pending := by
  simp only [setTrimShort, done, refuseWith, setTrimTo]
  (repeat' split) <;> simp
@[simp] theorem setTrimShort_inReset : (setTrimShort l ps s).1.inReset = s.inReset := (setTrimShort_frame l ps s).1
@[simp] theorem setTrimShort_strategies : (setTrimShort l ps s).1.strategies = s.strategies := (setTrimShort_frame l ps s).2.1
@[simp] theorem setTrimShort_guards : (setTrimShort l ps s).1.guards = s.guards := (setTrimShort_frame l ps s).2.2.1
@[simp] theorem setTrimShort_streams : (setTrimShort l ps s).1.streams = s.streams := (setTrimShort_frame l ps s).2.2.2.1
@[simp] theorem setTrimShort_queue : (setTrimShort l ps s).1.queue = s.queue := (setTrimShort_frame l ps s).2.2.2.2.1
@[simp] theorem setTrimShort_translating : (setTrimShort l ps s).1.translating = s.translating := (setTrimShort_frame l ps s).2.2.2.2.2.1
@[simp] theorem setTrimShort_link : (setTrimShort l ps s).1.link = s.link := (setTrimShort_frame l ps s).2.2.2.2.2.2.1
@[simp] theorem setTrimShort_gate : (setTrimShort l ps s).1.gate = s.gate := (setTrimShort_frame l ps s).2.2.2.2.2.2.2.1
@[simp] theorem setTrimShort_writePath : (setTrimShort l ps s).1.writePath = s.writePath := (setTrimShort_frame l ps s).2.2.2.2.2.2.2.2.1
@[simp] theorem setTrimShort_pickup : (setTrimShort l ps s).1.pickup = s.pickup := (setTrimShort_frame l ps s).2.2.2.2.2.2.2.2.2.1
@[simp] theorem setTrimShort_laser : (setTrimShort l ps s).1.laser = s.laser := (setTrimShort_frame l ps s).2.2.2.2.2.2.2.2.2.2.1
@[simp] theorem setTrimShort_monitor : (setTrimShort l ps s).1.monitor = s.monitor := (setTrimShort_frame l ps s).2.2.2.2.2.2.2.2.2.2.2.1
@[simp] theorem setTrimShort_port : (setTrimShort l ps s).1.port = s.port := (setTrimShort_frame l ps s).2.2.2.2.2.2.2.2.2.2.2.2.1
@[simp] theorem setTrimShort_alert : (setTrimShort l ps s).1.alert = s.alert := (setTrimShort_frame l ps s).2.2.2.2.2.2.2.2.2.2.2.2.2.1
@[simp] theorem setTrimShort_pending : (setTrimShort l ps s).1.pending = s.pending := (setTrimShort_frame l ps s).2.2.2.2.2.2.2.2.2.2.2.2.2.2
end

section
variable (l : Level) (ps : List Byte) (s : State)
theorem setAutotrim_frame :
    (setAutotrim l ps s).1.inReset = s.inReset ∧
    (setAutotrim l ps s).1.strategies = s.strategies ∧
    (setAutotrim l ps s).1.guards = s.guards ∧
    (setAutotrim l ps s).1.streams = s.streams ∧
    (setAutotrim l ps s).1.queue = s.queue ∧
    (setAutotrim l ps s).1.translating = s.translating ∧
    (setAutotrim l ps s).1.link = s.link ∧
    (setAutotrim l ps s).1.gate = s.gate ∧
    (setAutotrim l ps s).1.writePath = s.writePath ∧
    (setAutotrim l ps s).1.levels = s.levels ∧
    (setAutotrim l ps s).1.pickup = s.pickup ∧
    (setAutotrim l ps s).1.laser = s.laser ∧
    (setAutotrim l ps s).1.monitor = s.monitor ∧
    (setAutotrim l ps s).1.port = s.port ∧
    (setAutotrim l ps s).1.alert = s.alert ∧
    (setAutotrim l ps s).1.pending = s.pending := by
  simp only [setAutotrim, done, refuseWith]
  (repeat' split) <;> simp
@[simp] theorem setAutotrim_inReset : (setAutotrim l ps s).1.inReset = s.inReset := (setAutotrim_frame l ps s).1
@[simp] theorem setAutotrim_strategies : (setAutotrim l ps s).1.strategies = s.strategies := (setAutotrim_frame l ps s).2.1
@[simp] theorem setAutotrim_guards : (setAutotrim l ps s).1.guards = s.guards := (setAutotrim_frame l ps s).2.2.1
@[simp] theorem setAutotrim_streams : (setAutotrim l ps s).1.streams = s.streams := (setAutotrim_frame l ps s).2.2.2.1
@[simp] theorem setAutotrim_queue : (setAutotrim l ps s).1.queue = s.queue := (setAutotrim_frame l ps s).2.2.2.2.1
@[simp] theorem setAutotrim_translating : (setAutotrim l ps s).1.translating = s.translating := (setAutotrim_frame l ps s).2.2.2.2.2.1
@[simp] theorem setAutotrim_link : (setAutotrim l ps s).1.link = s.link := (setAutotrim_frame l ps s).2.2.2.2.2.2.1
@[simp] theorem setAutotrim_gate : (setAutotrim l ps s).1.gate = s.gate := (setAutotrim_frame l ps s).2.2.2.2.2.2.2.1
@[simp] theorem setAutotrim_writePath : (setAutotrim l ps s).1.writePath = s.writePath := (setAutotrim_frame l ps s).2.2.2.2.2.2.2.2.1
@[simp] theorem setAutotrim_levels : (setAutotrim l ps s).1.levels = s.levels := (setAutotrim_frame l ps s).2.2.2.2.2.2.2.2.2.1
@[simp] theorem setAutotrim_pickup : (setAutotrim l ps s).1.pickup = s.pickup := (setAutotrim_frame l ps s).2.2.2.2.2.2.2.2.2.2.1
@[simp] theorem setAutotrim_laser : (setAutotrim l ps s).1.laser = s.laser := (setAutotrim_frame l ps s).2.2.2.2.2.2.2.2.2.2.2.1
@[simp] theorem setAutotrim_monitor : (setAutotrim l ps s).1.monitor = s.monitor := (setAutotrim_frame l ps s).2.2.2.2.2.2.2.2.2.2.2.2.1
@[simp] theorem setAutotrim_port : (setAutotrim l ps s).1.port = s.port := (setAutotrim_frame l ps s).2.2.2.2.2.2.2.2.2.2.2.2.2.1
@[simp] theorem setAutotrim_alert : (setAutotrim l ps s).1.alert = s.alert := (setAutotrim_frame l ps s).2.2.2.2.2.2.2.2.2.2.2.2.2.2.1
@[simp] theorem setAutotrim_pending : (setAutotrim l ps s).1.pending = s.pending := (setAutotrim_frame l ps s).2.2.2.2.2.2.2.2.2.2.2.2.2.2.2
end

section
variable (l : Level) (ps : List Byte) (s : State)
theorem markAbsent_frame :
    (markAbsent l ps s).1.inReset = s.inReset ∧
    (markAbsent l ps s).1.guards = s.guards ∧
    (markAbsent l ps s).1.streams = s.streams ∧
    (markAbsent l ps s).1.writePath = s.writePath ∧
    (markAbsent l ps s).1.laser = s.laser ∧
    (markAbsent l ps s).1.monitor = s.monitor ∧
    (markAbsent l ps s).1.port = s.port ∧
    (markAbsent l ps s).1.pending = s.pending := by
  simp only [markAbsent, done, refuseWith, State.setZoneState]
  (repeat' split) <;> simp
@[simp] theorem markAbsent_inReset : (markAbsent l ps s).1.inReset = s.inReset := (markAbsent_frame l ps s).1
@[simp] theorem markAbsent_guards : (markAbsent l ps s).1.guards = s.guards := (markAbsent_frame l ps s).2.1
@[simp] theorem markAbsent_streams : (markAbsent l ps s).1.streams = s.streams := (markAbsent_frame l ps s).2.2.1
@[simp] theorem markAbsent_writePath : (markAbsent l ps s).1.writePath = s.writePath := (markAbsent_frame l ps s).2.2.2.1
@[simp] theorem markAbsent_laser : (markAbsent l ps s).1.laser = s.laser := (markAbsent_frame l ps s).2.2.2.2.1
@[simp] theorem markAbsent_monitor : (markAbsent l ps s).1.monitor = s.monitor := (markAbsent_frame l ps s).2.2.2.2.2.1
@[simp] theorem markAbsent_port : (markAbsent l ps s).1.port = s.port := (markAbsent_frame l ps s).2.2.2.2.2.2.1
@[simp] theorem markAbsent_pending : (markAbsent l ps s).1.pending = s.pending := (markAbsent_frame l ps s).2.2.2.2.2.2.2
end

section
variable (l : Level) (ps : List Byte) (s : State)
theorem markPresent_frame :
    (markPresent l ps s).1.inReset = s.inReset ∧
    (markPresent l ps s).1.strategies = s.strategies ∧
    (markPresent l ps s).1.guards = s.guards ∧
    (markPresent l ps s).1.streams = s.streams ∧
    (markPresent l ps s).1.queue = s.queue ∧
    (markPresent l ps s).1.translating = s.translating ∧
    (markPresent l ps s).1.link = s.link ∧
    (markPresent l ps s).1.gate = s.gate ∧
    (markPresent l ps s).1.writePath = s.writePath ∧
    (markPresent l ps s).1.levels = s.levels ∧
    (markPresent l ps s).1.pickup = s.pickup ∧
    (markPresent l ps s).1.laser = s.laser ∧
    (markPresent l ps s).1.monitor = s.monitor ∧
    (markPresent l ps s).1.port = s.port ∧
    (markPresent l ps s).1.alert = s.alert ∧
    (markPresent l ps s).1.pending = s.pending := by
  simp only [markPresent, done, refuseWith, State.setZoneState]
  (repeat' split) <;> simp
@[simp] theorem markPresent_inReset : (markPresent l ps s).1.inReset = s.inReset := (markPresent_frame l ps s).1
@[simp] theorem markPresent_strategies : (markPresent l ps s).1.strategies = s.strategies := (markPresent_frame l ps s).2.1
@[simp] theorem markPresent_guards : (markPresent l ps s).1.guards = s.guards := (markPresent_frame l ps s).2.2.1
@[simp] theorem markPresent_streams : (markPresent l ps s).1.streams = s.streams := (markPresent_frame l ps s).2.2.2.1
@[simp] theorem markPresent_queue : (markPresent l ps s).1.queue = s.queue := (markPresent_frame l ps s).2.2.2.2.1
@[simp] theorem markPresent_translating : (markPresent l ps s).1.translating = s.translating := (markPresent_frame l ps s).2.2.2.2.2.1
@[simp] theorem markPresent_link : (markPresent l ps s).1.link = s.link := (markPresent_frame l ps s).2.2.2.2.2.2.1
@[simp] theorem markPresent_gate : (markPresent l ps s).1.gate = s.gate := (markPresent_frame l ps s).2.2.2.2.2.2.2.1
@[simp] theorem markPresent_writePath : (markPresent l ps s).1.writePath = s.writePath := (markPresent_frame l ps s).2.2.2.2.2.2.2.2.1
@[simp] theorem markPresent_levels : (markPresent l ps s).1.levels = s.levels := (markPresent_frame l ps s).2.2.2.2.2.2.2.2.2.1
@[simp] theorem markPresent_pickup : (markPresent l ps s).1.pickup = s.pickup := (markPresent_frame l ps s).2.2.2.2.2.2.2.2.2.2.1
@[simp] theorem markPresent_laser : (markPresent l ps s).1.laser = s.laser := (markPresent_frame l ps s).2.2.2.2.2.2.2.2.2.2.2.1
@[simp] theorem markPresent_monitor : (markPresent l ps s).1.monitor = s.monitor := (markPresent_frame l ps s).2.2.2.2.2.2.2.2.2.2.2.2.1
@[simp] theorem markPresent_port : (markPresent l ps s).1.port = s.port := (markPresent_frame l ps s).2.2.2.2.2.2.2.2.2.2.2.2.2.1
@[simp] theorem markPresent_alert : (markPresent l ps s).1.alert = s.alert := (markPresent_frame l ps s).2.2.2.2.2.2.2.2.2.2.2.2.2.2.1
@[simp] theorem markPresent_pending : (markPresent l ps s).1.pending = s.pending := (markPresent_frame l ps s).2.2.2.2.2.2.2.2.2.2.2.2.2.2.2
end

section
variable (l : Level) (ps : List Byte) (s : State)
theorem closeZone_frame :
    (closeZone l ps s).1.inReset = s.inReset ∧
    (closeZone l ps s).1.guards = s.guards ∧
    (closeZone l ps s).1.streams = s.streams ∧
    (closeZone l ps s).1.writePath = s.writePath ∧
    (closeZone l ps s).1.laser = s.laser ∧
    (closeZone l ps s).1.monitor = s.monitor ∧
    (closeZone l ps s).1.port = s.port ∧
    (closeZone l ps s).1.pending = s.pending := by
  simp only [closeZone, done, refuseWith, State.setZoneState]
  (repeat' split) <;> simp
@[simp] theorem closeZone_inReset : (closeZone l ps s).1.inReset = s.inReset := (closeZone_frame l ps s).1
@[simp] theorem closeZone_guards : (closeZone l ps s).1.guards = s.guards := (closeZone_frame l ps s).2.1
@[simp] theorem closeZone_streams : (closeZone l ps s).1.streams = s.streams := (closeZone_frame l ps s).2.2.1
@[simp] theorem closeZone_writePath : (closeZone l ps s).1.writePath = s.writePath := (closeZone_frame l ps s).2.2.2.1
@[simp] theorem closeZone_laser : (closeZone l ps s).1.laser = s.laser := (closeZone_frame l ps s).2.2.2.2.1
@[simp] theorem closeZone_monitor : (closeZone l ps s).1.monitor = s.monitor := (closeZone_frame l ps s).2.2.2.2.2.1
@[simp] theorem closeZone_port : (closeZone l ps s).1.port = s.port := (closeZone_frame l ps s).2.2.2.2.2.2.1
@[simp] theorem closeZone_pending : (closeZone l ps s).1.pending = s.pending := (closeZone_frame l ps s).2.2.2.2.2.2.2
end

section
variable (l : Level) (ps : List Byte) (s : State)
theorem reopenZone_frame :
    (reopenZone l ps s).1.inReset = s.inReset ∧
    (reopenZone l ps s).1.strategies = s.strategies ∧
    (reopenZone l ps s).1.guards = s.guards ∧
    (reopenZone l ps s).1.streams = s.streams ∧
    (reopenZone l ps s).1.queue = s.queue ∧
    (reopenZone l ps s).1.translating = s.translating ∧
    (reopenZone l ps s).1.link = s.link ∧
    (reopenZone l ps s).1.gate = s.gate ∧
    (reopenZone l ps s).1.writePath = s.writePath ∧
    (reopenZone l ps s).1.levels = s.levels ∧
    (reopenZone l ps s).1.pickup = s.pickup ∧
    (reopenZone l ps s).1.laser = s.laser ∧
    (reopenZone l ps s).1.monitor = s.monitor ∧
    (reopenZone l ps s).1.port = s.port ∧
    (reopenZone l ps s).1.alert = s.alert ∧
    (reopenZone l ps s).1.pending = s.pending := by
  simp only [reopenZone, done, refuseWith, State.setZoneState]
  (repeat' split) <;> simp
@[simp] theorem reopenZone_inReset : (reopenZone l ps s).1.inReset = s.inReset := (reopenZone_frame l ps s).1
@[simp] theorem reopenZone_strategies : (reopenZone l ps s).1.strategies = s.strategies := (reopenZone_frame l ps s).2.1
@[simp] theorem reopenZone_guards : (reopenZone l ps s).1.guards = s.guards := (reopenZone_frame l ps s).2.2.1
@[simp] theorem reopenZone_streams : (reopenZone l ps s).1.streams = s.streams := (reopenZone_frame l ps s).2.2.2.1
@[simp] theorem reopenZone_queue : (reopenZone l ps s).1.queue = s.queue := (reopenZone_frame l ps s).2.2.2.2.1
@[simp] theorem reopenZone_translating : (reopenZone l ps s).1.translating = s.translating := (reopenZone_frame l ps s).2.2.2.2.2.1
@[simp] theorem reopenZone_link : (reopenZone l ps s).1.link = s.link := (reopenZone_frame l ps s).2.2.2.2.2.2.1
@[simp] theorem reopenZone_gate : (reopenZone l ps s).1.gate = s.gate := (reopenZone_frame l ps s).2.2.2.2.2.2.2.1
@[simp] theorem reopenZone_writePath : (reopenZone l ps s).1.writePath = s.writePath := (reopenZone_frame l ps s).2.2.2.2.2.2.2.2.1
@[simp] theorem reopenZone_levels : (reopenZone l ps s).1.levels = s.levels := (reopenZone_frame l ps s).2.2.2.2.2.2.2.2.2.1
@[simp] theorem reopenZone_pickup : (reopenZone l ps s).1.pickup = s.pickup := (reopenZone_frame l ps s).2.2.2.2.2.2.2.2.2.2.1
@[simp] theorem reopenZone_laser : (reopenZone l ps s).1.laser = s.laser := (reopenZone_frame l ps s).2.2.2.2.2.2.2.2.2.2.2.1
@[simp] theorem reopenZone_monitor : (reopenZone l ps s).1.monitor = s.monitor := (reopenZone_frame l ps s).2.2.2.2.2.2.2.2.2.2.2.2.1
@[simp] theorem reopenZone_port : (reopenZone l ps s).1.port = s.port := (reopenZone_frame l ps s).2.2.2.2.2.2.2.2.2.2.2.2.2.1
@[simp] theorem reopenZone_alert : (reopenZone l ps s).1.alert = s.alert := (reopenZone_frame l ps s).2.2.2.2.2.2.2.2.2.2.2.2.2.2.1
@[simp] theorem reopenZone_pending : (reopenZone l ps s).1.pending = s.pending := (reopenZone_frame l ps s).2.2.2.2.2.2.2.2.2.2.2.2.2.2.2
end

section
variable (l : Level) (ps : List Byte) (s : State)
theorem releaseZone_frame :
    (releaseZone l ps s).1.inReset = s.inReset ∧
    (releaseZone l ps s).1.guards = s.guards ∧
    (releaseZone l ps s).1.streams = s.streams ∧
    (releaseZone l ps s).1.writePath = s.writePath ∧
    (releaseZone l ps s).1.laser = s.laser ∧
    (releaseZone l ps s).1.monitor = s.monitor ∧
    (releaseZone l ps s).1.port = s.port ∧
    (releaseZone l ps s).1.pending = s.pending := by
  simp only [releaseZone, done, refuseWith, State.setZoneState]
  (repeat' split) <;> simp
@[simp] theorem releaseZone_inReset : (releaseZone l ps s).1.inReset = s.inReset := (releaseZone_frame l ps s).1
@[simp] theorem releaseZone_guards : (releaseZone l ps s).1.guards = s.guards := (releaseZone_frame l ps s).2.1
@[simp] theorem releaseZone_streams : (releaseZone l ps s).1.streams = s.streams := (releaseZone_frame l ps s).2.2.1
@[simp] theorem releaseZone_writePath : (releaseZone l ps s).1.writePath = s.writePath := (releaseZone_frame l ps s).2.2.2.1
@[simp] theorem releaseZone_laser : (releaseZone l ps s).1.laser = s.laser := (releaseZone_frame l ps s).2.2.2.2.1
@[simp] theorem releaseZone_monitor : (releaseZone l ps s).1.monitor = s.monitor := (releaseZone_frame l ps s).2.2.2.2.2.1
@[simp] theorem releaseZone_port : (releaseZone l ps s).1.port = s.port := (releaseZone_frame l ps s).2.2.2.2.2.2.1
@[simp] theorem releaseZone_pending : (releaseZone l ps s).1.pending = s.pending := (releaseZone_frame l ps s).2.2.2.2.2.2.2
end

section
variable (l : Level) (ps : List Byte) (s : State)
@[simp] theorem readZone_state : (readZone l ps s).1 = s := by
  simp only [readZone, done, refuseWith]
  (repeat' split) <;> rfl
end

section
variable (l : Level) (ps : List Byte) (s : State)
@[simp] theorem findZone_state : (findZone l ps s).1 = s := by
  simp only [findZone, done, refuseWith]
  (repeat' split) <;> rfl
end

section
variable (l : Level) (ps : List Byte) (s : State)
theorem sweep_frame :
    (sweep l ps s).1.inReset = s.inReset ∧
    (sweep l ps s).1.strategies = s.strategies ∧
    (sweep l ps s).1.guards = s.guards ∧
    (sweep l ps s).1.streams = s.streams ∧
    (sweep l ps s).1.queue = s.queue ∧
    (sweep l ps s).1.translating = s.translating ∧
    (sweep l ps s).1.link = s.link ∧
    (sweep l ps s).1.gate = s.gate ∧
    (sweep l ps s).1.writePath = s.writePath ∧
    (sweep l ps s).1.levels = s.levels ∧
    (sweep l ps s).1.pickup = s.pickup ∧
    (sweep l ps s).1.laser = s.laser ∧
    (sweep l ps s).1.monitor = s.monitor ∧
    (sweep l ps s).1.port = s.port ∧
    (sweep l ps s).1.alert = s.alert ∧
    (sweep l ps s).1.pending = s.pending := by
  simp only [sweep, done, refuseWith]
  (repeat' split) <;> simp
@[simp] theorem sweep_inReset : (sweep l ps s).1.inReset = s.inReset := (sweep_frame l ps s).1
@[simp] theorem sweep_strategies : (sweep l ps s).1.strategies = s.strategies := (sweep_frame l ps s).2.1
@[simp] theorem sweep_guards : (sweep l ps s).1.guards = s.guards := (sweep_frame l ps s).2.2.1
@[simp] theorem sweep_streams : (sweep l ps s).1.streams = s.streams := (sweep_frame l ps s).2.2.2.1
@[simp] theorem sweep_queue : (sweep l ps s).1.queue = s.queue := (sweep_frame l ps s).2.2.2.2.1
@[simp] theorem sweep_translating : (sweep l ps s).1.translating = s.translating := (sweep_frame l ps s).2.2.2.2.2.1
@[simp] theorem sweep_link : (sweep l ps s).1.link = s.link := (sweep_frame l ps s).2.2.2.2.2.2.1
@[simp] theorem sweep_gate : (sweep l ps s).1.gate = s.gate := (sweep_frame l ps s).2.2.2.2.2.2.2.1
@[simp] theorem sweep_writePath : (sweep l ps s).1.writePath = s.writePath := (sweep_frame l ps s).2.2.2.2.2.2.2.2.1
@[simp] theorem sweep_levels : (sweep l ps s).1.levels = s.levels := (sweep_frame l ps s).2.2.2.2.2.2.2.2.2.1
@[simp] theorem sweep_pickup : (sweep l ps s).1.pickup = s.pickup := (sweep_frame l ps s).2.2.2.2.2.2.2.2.2.2.1
@[simp] theorem sweep_laser : (sweep l ps s).1.laser = s.laser := (sweep_frame l ps s).2.2.2.2.2.2.2.2.2.2.2.1
@[simp] theorem sweep_monitor : (sweep l ps s).1.monitor = s.monitor := (sweep_frame l ps s).2.2.2.2.2.2.2.2.2.2.2.2.1
@[simp] theorem sweep_port : (sweep l ps s).1.port = s.port := (sweep_frame l ps s).2.2.2.2.2.2.2.2.2.2.2.2.2.1
@[simp] theorem sweep_alert : (sweep l ps s).1.alert = s.alert := (sweep_frame l ps s).2.2.2.2.2.2.2.2.2.2.2.2.2.2.1
@[simp] theorem sweep_pending : (sweep l ps s).1.pending = s.pending := (sweep_frame l ps s).2.2.2.2.2.2.2.2.2.2.2.2.2.2.2
end

section
variable (l : Level) (ps : List Byte) (s : State)
theorem loadStrategy_frame :
    (loadStrategy l ps s).1.inReset = s.inReset ∧
    (loadStrategy l ps s).1.zones = s.zones ∧
    (loadStrategy l ps s).1.guards = s.guards ∧
    (loadStrategy l ps s).1.streams = s.streams ∧
    (loadStrategy l ps s).1.queue = s.queue ∧
    (loadStrategy l ps s).1.translating = s.translating ∧
    (loadStrategy l ps s).1.link = s.link ∧
    (loadStrategy l ps s).1.gate = s.gate ∧
    (loadStrategy l ps s).1.writePath = s.writePath ∧
    (loadStrategy l ps s).1.levels = s.levels ∧
    (loadStrategy l ps s).1.pickup = s.pickup ∧
    (loadStrategy l ps s).1.laser = s.laser ∧
    (loadStrategy l ps s).1.monitor = s.monitor ∧
    (loadStrategy l ps s).1.port = s.port ∧
    (loadStrategy l ps s).1.alert = s.alert ∧
    (loadStrategy l ps s).1.pending = s.pending := by
  simp only [loadStrategy, done, refuseWith]
  (repeat' split) <;> simp
@[simp] theorem loadStrategy_inReset : (loadStrategy l ps s).1.inReset = s.inReset := (loadStrategy_frame l ps s).1
@[simp] theorem loadStrategy_zones : (loadStrategy l ps s).1.zones = s.zones := (loadStrategy_frame l ps s).2.1
@[simp] theorem loadStrategy_guards : (loadStrategy l ps s).1.guards = s.guards := (loadStrategy_frame l ps s).2.2.1
@[simp] theorem loadStrategy_streams : (loadStrategy l ps s).1.streams = s.streams := (loadStrategy_frame l ps s).2.2.2.1
@[simp] theorem loadStrategy_queue : (loadStrategy l ps s).1.queue = s.queue := (loadStrategy_frame l ps s).2.2.2.2.1
@[simp] theorem loadStrategy_translating : (loadStrategy l ps s).1.translating = s.translating := (loadStrategy_frame l ps s).2.2.2.2.2.1
@[simp] theorem loadStrategy_link : (loadStrategy l ps s).1.link = s.link := (loadStrategy_frame l ps s).2.2.2.2.2.2.1
@[simp] theorem loadStrategy_gate : (loadStrategy l ps s).1.gate = s.gate := (loadStrategy_frame l ps s).2.2.2.2.2.2.2.1
@[simp] theorem loadStrategy_writePath : (loadStrategy l ps s).1.writePath = s.writePath := (loadStrategy_frame l ps s).2.2.2.2.2.2.2.2.1
@[simp] theorem loadStrategy_levels : (loadStrategy l ps s).1.levels = s.levels := (loadStrategy_frame l ps s).2.2.2.2.2.2.2.2.2.1
@[simp] theorem loadStrategy_pickup : (loadStrategy l ps s).1.pickup = s.pickup := (loadStrategy_frame l ps s).2.2.2.2.2.2.2.2.2.2.1
@[simp] theorem loadStrategy_laser : (loadStrategy l ps s).1.laser = s.laser := (loadStrategy_frame l ps s).2.2.2.2.2.2.2.2.2.2.2.1
@[simp] theorem loadStrategy_monitor : (loadStrategy l ps s).1.monitor = s.monitor := (loadStrategy_frame l ps s).2.2.2.2.2.2.2.2.2.2.2.2.1
@[simp] theorem loadStrategy_port : (loadStrategy l ps s).1.port = s.port := (loadStrategy_frame l ps s).2.2.2.2.2.2.2.2.2.2.2.2.2.1
@[simp] theorem loadStrategy_alert : (loadStrategy l ps s).1.alert = s.alert := (loadStrategy_frame l ps s).2.2.2.2.2.2.2.2.2.2.2.2.2.2.1
@[simp] theorem loadStrategy_pending : (loadStrategy l ps s).1.pending = s.pending := (loadStrategy_frame l ps s).2.2.2.2.2.2.2.2.2.2.2.2.2.2.2
end

section
variable (l : Level) (ps : List Byte) (s : State)
theorem releaseStrategy_frame :
    (releaseStrategy l ps s).1.inReset = s.inReset ∧
    (releaseStrategy l ps s).1.zones = s.zones ∧
    (releaseStrategy l ps s).1.guards = s.guards ∧
    (releaseStrategy l ps s).1.streams = s.streams ∧
    (releaseStrategy l ps s).1.queue = s.queue ∧
    (releaseStrategy l ps s).1.translating = s.translating ∧
    (releaseStrategy l ps s).1.link = s.link ∧
    (releaseStrategy l ps s).1.gate = s.gate ∧
    (releaseStrategy l ps s).1.writePath = s.writePath ∧
    (releaseStrategy l ps s).1.levels = s.levels ∧
    (releaseStrategy l ps s).1.pickup = s.pickup ∧
    (releaseStrategy l ps s).1.laser = s.laser ∧
    (releaseStrategy l ps s).1.monitor = s.monitor ∧
    (releaseStrategy l ps s).1.port = s.port ∧
    (releaseStrategy l ps s).1.alert = s.alert ∧
    (releaseStrategy l ps s).1.pending = s.pending := by
  simp only [releaseStrategy, done, refuseWith]
  (repeat' split) <;> simp
@[simp] theorem releaseStrategy_inReset : (releaseStrategy l ps s).1.inReset = s.inReset := (releaseStrategy_frame l ps s).1
@[simp] theorem releaseStrategy_zones : (releaseStrategy l ps s).1.zones = s.zones := (releaseStrategy_frame l ps s).2.1
@[simp] theorem releaseStrategy_guards : (releaseStrategy l ps s).1.guards = s.guards := (releaseStrategy_frame l ps s).2.2.1
@[simp] theorem releaseStrategy_streams : (releaseStrategy l ps s).1.streams = s.streams := (releaseStrategy_frame l ps s).2.2.2.1
@[simp] theorem releaseStrategy_queue : (releaseStrategy l ps s).1.queue = s.queue := (releaseStrategy_frame l ps s).2.2.2.2.1
@[simp] theorem releaseStrategy_translating : (releaseStrategy l ps s).1.translating = s.translating := (releaseStrategy_frame l ps s).2.2.2.2.2.1
@[simp] theorem releaseStrategy_link : (releaseStrategy l ps s).1.link = s.link := (releaseStrategy_frame l ps s).2.2.2.2.2.2.1
@[simp] theorem releaseStrategy_gate : (releaseStrategy l ps s).1.gate = s.gate := (releaseStrategy_frame l ps s).2.2.2.2.2.2.2.1
@[simp] theorem releaseStrategy_writePath : (releaseStrategy l ps s).1.writePath = s.writePath := (releaseStrategy_frame l ps s).2.2.2.2.2.2.2.2.1
@[simp] theorem releaseStrategy_levels : (releaseStrategy l ps s).1.levels = s.levels := (releaseStrategy_frame l ps s).2.2.2.2.2.2.2.2.2.1
@[simp] theorem releaseStrategy_pickup : (releaseStrategy l ps s).1.pickup = s.pickup := (releaseStrategy_frame l ps s).2.2.2.2.2.2.2.2.2.2.1
@[simp] theorem releaseStrategy_laser : (releaseStrategy l ps s).1.laser = s.laser := (releaseStrategy_frame l ps s).2.2.2.2.2.2.2.2.2.2.2.1
@[simp] theorem releaseStrategy_monitor : (releaseStrategy l ps s).1.monitor = s.monitor := (releaseStrategy_frame l ps s).2.2.2.2.2.2.2.2.2.2.2.2.1
@[simp] theorem releaseStrategy_port : (releaseStrategy l ps s).1.port = s.port := (releaseStrategy_frame l ps s).2.2.2.2.2.2.2.2.2.2.2.2.2.1
@[simp] theorem releaseStrategy_alert : (releaseStrategy l ps s).1.alert = s.alert := (releaseStrategy_frame l ps s).2.2.2.2.2.2.2.2.2.2.2.2.2.2.1
@[simp] theorem releaseStrategy_pending : (releaseStrategy l ps s).1.pending = s.pending := (releaseStrategy_frame l ps s).2.2.2.2.2.2.2.2.2.2.2.2.2.2.2
end

section
variable (l : Level) (ps : List Byte) (s : State)
@[simp] theorem readStrategy_state : (readStrategy l ps s).1 = s := by
  simp only [readStrategy, done, refuseWith]
  (repeat' split) <;> rfl
end

section
variable (l : Level) (ps : List Byte) (s : State)
theorem openStream_frame :
    (openStream l ps s).1.inReset = s.inReset ∧
    (openStream l ps s).1.zones = s.zones ∧
    (openStream l ps s).1.strategies = s.strategies ∧
    (openStream l ps s).1.guards = s.guards ∧
    (openStream l ps s).1.queue = s.queue ∧
    (openStream l ps s).1.translating = s.translating ∧
    (openStream l ps s).1.link = s.link ∧
    (openStream l ps s).1.gate = s.gate ∧
    (openStream l ps s).1.writePath = s.writePath ∧
    (openStream l ps s).1.levels = s.levels ∧
    (openStream l ps s).1.pickup = s.pickup ∧
    (openStream l ps s).1.laser = s.laser ∧
    (openStream l ps s).1.monitor = s.monitor ∧
    (openStream l ps s).1.port = s.port ∧
    (openStream l ps s).1.alert = s.alert ∧
    (openStream l ps s).1.pending = s.pending := by
  simp only [openStream, done, refuseWith]
  (repeat' split) <;> simp
@[simp] theorem openStream_inReset : (openStream l ps s).1.inReset = s.inReset := (openStream_frame l ps s).1
@[simp] theorem openStream_zones : (openStream l ps s).1.zones = s.zones := (openStream_frame l ps s).2.1
@[simp] theorem openStream_strategies : (openStream l ps s).1.strategies = s.strategies := (openStream_frame l ps s).2.2.1
@[simp] theorem openStream_guards : (openStream l ps s).1.guards = s.guards := (openStream_frame l ps s).2.2.2.1
@[simp] theorem openStream_queue : (openStream l ps s).1.queue = s.queue := (openStream_frame l ps s).2.2.2.2.1
@[simp] theorem openStream_translating : (openStream l ps s).1.translating = s.translating := (openStream_frame l ps s).2.2.2.2.2.1
@[simp] theorem openStream_link : (openStream l ps s).1.link = s.link := (openStream_frame l ps s).2.2.2.2.2.2.1
@[simp] theorem openStream_gate : (openStream l ps s).1.gate = s.gate := (openStream_frame l ps s).2.2.2.2.2.2.2.1
@[simp] theorem openStream_writePath : (openStream l ps s).1.writePath = s.writePath := (openStream_frame l ps s).2.2.2.2.2.2.2.2.1
@[simp] theorem openStream_levels : (openStream l ps s).1.levels = s.levels := (openStream_frame l ps s).2.2.2.2.2.2.2.2.2.1
@[simp] theorem openStream_pickup : (openStream l ps s).1.pickup = s.pickup := (openStream_frame l ps s).2.2.2.2.2.2.2.2.2.2.1
@[simp] theorem openStream_laser : (openStream l ps s).1.laser = s.laser := (openStream_frame l ps s).2.2.2.2.2.2.2.2.2.2.2.1
@[simp] theorem openStream_monitor : (openStream l ps s).1.monitor = s.monitor := (openStream_frame l ps s).2.2.2.2.2.2.2.2.2.2.2.2.1
@[simp] theorem openStream_port : (openStream l ps s).1.port = s.port := (openStream_frame l ps s).2.2.2.2.2.2.2.2.2.2.2.2.2.1
@[simp] theorem openStream_alert : (openStream l ps s).1.alert = s.alert := (openStream_frame l ps s).2.2.2.2.2.2.2.2.2.2.2.2.2.2.1
@[simp] theorem openStream_pending : (openStream l ps s).1.pending = s.pending := (openStream_frame l ps s).2.2.2.2.2.2.2.2.2.2.2.2.2.2.2
end

section
variable (l : Level) (ps : List Byte) (s : State)
theorem closeStream_frame :
    (closeStream l ps s).1.inReset = s.inReset ∧
    (closeStream l ps s).1.guards = s.guards ∧
    (closeStream l ps s).1.writePath = s.writePath ∧
    (closeStream l ps s).1.laser = s.laser ∧
    (closeStream l ps s).1.monitor = s.monitor ∧
    (closeStream l ps s).1.port = s.port ∧
    (closeStream l ps s).1.pending = s.pending := by
  simp only [closeStream, done, refuseWith]
  (repeat' split) <;> simp
@[simp] theorem closeStream_inReset : (closeStream l ps s).1.inReset = s.inReset := (closeStream_frame l ps s).1
@[simp] theorem closeStream_guards : (closeStream l ps s).1.guards = s.guards := (closeStream_frame l ps s).2.1
@[simp] theorem closeStream_writePath : (closeStream l ps s).1.writePath = s.writePath := (closeStream_frame l ps s).2.2.1
@[simp] theorem closeStream_laser : (closeStream l ps s).1.laser = s.laser := (closeStream_frame l ps s).2.2.2.1
@[simp] theorem closeStream_monitor : (closeStream l ps s).1.monitor = s.monitor := (closeStream_frame l ps s).2.2.2.2.1
@[simp] theorem closeStream_port : (closeStream l ps s).1.port = s.port := (closeStream_frame l ps s).2.2.2.2.2.1
@[simp] theorem closeStream_pending : (closeStream l ps s).1.pending = s.pending := (closeStream_frame l ps s).2.2.2.2.2.2
end

section
variable (l : Level) (ps : List Byte) (s : State)
@[simp] theorem readStream_state : (readStream l ps s).1 = s := by
  simp only [readStream, done, refuseWith]
  (repeat' split) <;> rfl
end

section
variable (l : Level) (ps : List Byte) (s : State)
theorem addGuard_frame :
    (addGuard l ps s).1.inReset = s.inReset ∧
    (addGuard l ps s).1.streams = s.streams ∧
    (addGuard l ps s).1.writePath = s.writePath ∧
    (addGuard l ps s).1.laser = s.laser ∧
    (addGuard l ps s).1.monitor = s.monitor ∧
    (addGuard l ps s).1.port = s.port ∧
    (addGuard l ps s).1.pending = s.pending := by
  simp only [addGuard, done, refuseWith]
  (repeat' split) <;> simp
@[simp] theorem addGuard_inReset : (addGuard l ps s).1.inReset = s.inReset := (addGuard_frame l ps s).1
@[simp] theorem addGuard_streams : (addGuard l ps s).1.streams = s.streams := (addGuard_frame l ps s).2.1
@[simp] theorem addGuard_writePath : (addGuard l ps s).1.writePath = s.writePath := (addGuard_frame l ps s).2.2.1
@[simp] theorem addGuard_laser : (addGuard l ps s).1.laser = s.laser := (addGuard_frame l ps s).2.2.2.1
@[simp] theorem addGuard_monitor : (addGuard l ps s).1.monitor = s.monitor := (addGuard_frame l ps s).2.2.2.2.1
@[simp] theorem addGuard_port : (addGuard l ps s).1.port = s.port := (addGuard_frame l ps s).2.2.2.2.2.1
@[simp] theorem addGuard_pending : (addGuard l ps s).1.pending = s.pending := (addGuard_frame l ps s).2.2.2.2.2.2
end

section
variable (l : Level) (ps : List Byte) (s : State)
theorem removeGuard_frame :
    (removeGuard l ps s).1.inReset = s.inReset ∧
    (removeGuard l ps s).1.zones = s.zones ∧
    (removeGuard l ps s).1.strategies = s.strategies ∧
    (removeGuard l ps s).1.streams = s.streams ∧
    (removeGuard l ps s).1.queue = s.queue ∧
    (removeGuard l ps s).1.translating = s.translating ∧
    (removeGuard l ps s).1.link = s.link ∧
    (removeGuard l ps s).1.gate = s.gate ∧
    (removeGuard l ps s).1.writePath = s.writePath ∧
    (removeGuard l ps s).1.levels = s.levels ∧
    (removeGuard l ps s).1.pickup = s.pickup ∧
    (removeGuard l ps s).1.laser = s.laser ∧
    (removeGuard l ps s).1.monitor = s.monitor ∧
    (removeGuard l ps s).1.port = s.port ∧
    (removeGuard l ps s).1.alert = s.alert ∧
    (removeGuard l ps s).1.pending = s.pending := by
  simp only [removeGuard, done, refuseWith]
  (repeat' split) <;> simp
@[simp] theorem removeGuard_inReset : (removeGuard l ps s).1.inReset = s.inReset := (removeGuard_frame l ps s).1
@[simp] theorem removeGuard_zones : (removeGuard l ps s).1.zones = s.zones := (removeGuard_frame l ps s).2.1
@[simp] theorem removeGuard_strategies : (removeGuard l ps s).1.strategies = s.strategies := (removeGuard_frame l ps s).2.2.1
@[simp] theorem removeGuard_streams : (removeGuard l ps s).1.streams = s.streams := (removeGuard_frame l ps s).2.2.2.1
@[simp] theorem removeGuard_queue : (removeGuard l ps s).1.queue = s.queue := (removeGuard_frame l ps s).2.2.2.2.1
@[simp] theorem removeGuard_translating : (removeGuard l ps s).1.translating = s.translating := (removeGuard_frame l ps s).2.2.2.2.2.1
@[simp] theorem removeGuard_link : (removeGuard l ps s).1.link = s.link := (removeGuard_frame l ps s).2.2.2.2.2.2.1
@[simp] theorem removeGuard_gate : (removeGuard l ps s).1.gate = s.gate := (removeGuard_frame l ps s).2.2.2.2.2.2.2.1
@[simp] theorem removeGuard_writePath : (removeGuard l ps s).1.writePath = s.writePath := (removeGuard_frame l ps s).2.2.2.2.2.2.2.2.1
@[simp] theorem removeGuard_levels : (removeGuard l ps s).1.levels = s.levels := (removeGuard_frame l ps s).2.2.2.2.2.2.2.2.2.1
@[simp] theorem removeGuard_pickup : (removeGuard l ps s).1.pickup = s.pickup := (removeGuard_frame l ps s).2.2.2.2.2.2.2.2.2.2.1
@[simp] theorem removeGuard_laser : (removeGuard l ps s).1.laser = s.laser := (removeGuard_frame l ps s).2.2.2.2.2.2.2.2.2.2.2.1
@[simp] theorem removeGuard_monitor : (removeGuard l ps s).1.monitor = s.monitor := (removeGuard_frame l ps s).2.2.2.2.2.2.2.2.2.2.2.2.1
@[simp] theorem removeGuard_port : (removeGuard l ps s).1.port = s.port := (removeGuard_frame l ps s).2.2.2.2.2.2.2.2.2.2.2.2.2.1
@[simp] theorem removeGuard_alert : (removeGuard l ps s).1.alert = s.alert := (removeGuard_frame l ps s).2.2.2.2.2.2.2.2.2.2.2.2.2.2.1
@[simp] theorem removeGuard_pending : (removeGuard l ps s).1.pending = s.pending := (removeGuard_frame l ps s).2.2.2.2.2.2.2.2.2.2.2.2.2.2.2
end

section
variable (l : Level) (ps : List Byte) (s : State)
@[simp] theorem listGuards_state : (listGuards l ps s).1 = s := by
  simp only [listGuards, done]
end

section
variable (l : Level) (ps : List Byte) (s : State)
theorem loadLayer_frame :
    (loadLayer l ps s).1.inReset = s.inReset ∧
    (loadLayer l ps s).1.zones = s.zones ∧
    (loadLayer l ps s).1.strategies = s.strategies ∧
    (loadLayer l ps s).1.guards = s.guards ∧
    (loadLayer l ps s).1.streams = s.streams ∧
    (loadLayer l ps s).1.queue = s.queue ∧
    (loadLayer l ps s).1.translating = s.translating ∧
    (loadLayer l ps s).1.link = s.link ∧
    (loadLayer l ps s).1.gate = s.gate ∧
    (loadLayer l ps s).1.writePath = s.writePath ∧
    (loadLayer l ps s).1.levels = s.levels ∧
    (loadLayer l ps s).1.laser = s.laser ∧
    (loadLayer l ps s).1.monitor = s.monitor ∧
    (loadLayer l ps s).1.port = s.port ∧
    (loadLayer l ps s).1.alert = s.alert ∧
    (loadLayer l ps s).1.pending = s.pending := by
  simp only [loadLayer, done, refuseWith, State.setLayer]
  (repeat' split) <;> simp
@[simp] theorem loadLayer_inReset : (loadLayer l ps s).1.inReset = s.inReset := (loadLayer_frame l ps s).1
@[simp] theorem loadLayer_zones : (loadLayer l ps s).1.zones = s.zones := (loadLayer_frame l ps s).2.1
@[simp] theorem loadLayer_strategies : (loadLayer l ps s).1.strategies = s.strategies := (loadLayer_frame l ps s).2.2.1
@[simp] theorem loadLayer_guards : (loadLayer l ps s).1.guards = s.guards := (loadLayer_frame l ps s).2.2.2.1
@[simp] theorem loadLayer_streams : (loadLayer l ps s).1.streams = s.streams := (loadLayer_frame l ps s).2.2.2.2.1
@[simp] theorem loadLayer_queue : (loadLayer l ps s).1.queue = s.queue := (loadLayer_frame l ps s).2.2.2.2.2.1
@[simp] theorem loadLayer_translating : (loadLayer l ps s).1.translating = s.translating := (loadLayer_frame l ps s).2.2.2.2.2.2.1
@[simp] theorem loadLayer_link : (loadLayer l ps s).1.link = s.link := (loadLayer_frame l ps s).2.2.2.2.2.2.2.1
@[simp] theorem loadLayer_gate : (loadLayer l ps s).1.gate = s.gate := (loadLayer_frame l ps s).2.2.2.2.2.2.2.2.1
@[simp] theorem loadLayer_writePath : (loadLayer l ps s).1.writePath = s.writePath := (loadLayer_frame l ps s).2.2.2.2.2.2.2.2.2.1
@[simp] theorem loadLayer_levels : (loadLayer l ps s).1.levels = s.levels := (loadLayer_frame l ps s).2.2.2.2.2.2.2.2.2.2.1
@[simp] theorem loadLayer_laser : (loadLayer l ps s).1.laser = s.laser := (loadLayer_frame l ps s).2.2.2.2.2.2.2.2.2.2.2.1
@[simp] theorem loadLayer_monitor : (loadLayer l ps s).1.monitor = s.monitor := (loadLayer_frame l ps s).2.2.2.2.2.2.2.2.2.2.2.2.1
@[simp] theorem loadLayer_port : (loadLayer l ps s).1.port = s.port := (loadLayer_frame l ps s).2.2.2.2.2.2.2.2.2.2.2.2.2.1
@[simp] theorem loadLayer_alert : (loadLayer l ps s).1.alert = s.alert := (loadLayer_frame l ps s).2.2.2.2.2.2.2.2.2.2.2.2.2.2.1
@[simp] theorem loadLayer_pending : (loadLayer l ps s).1.pending = s.pending := (loadLayer_frame l ps s).2.2.2.2.2.2.2.2.2.2.2.2.2.2.2
end

section
variable (l : Level) (ps : List Byte) (s : State)
@[simp] theorem readPickup_state : (readPickup l ps s).1 = s := by
  simp only [readPickup, done]
end

section
variable (l : Level) (ps : List Byte) (s : State)
theorem loadLaserModel_frame :
    (loadLaserModel l ps s).1.inReset = s.inReset ∧
    (loadLaserModel l ps s).1.zones = s.zones ∧
    (loadLaserModel l ps s).1.strategies = s.strategies ∧
    (loadLaserModel l ps s).1.guards = s.guards ∧
    (loadLaserModel l ps s).1.streams = s.streams ∧
    (loadLaserModel l ps s).1.queue = s.queue ∧
    (loadLaserModel l ps s).1.translating = s.translating ∧
    (loadLaserModel l ps s).1.link = s.link ∧
    (loadLaserModel l ps s).1.gate = s.gate ∧
    (loadLaserModel l ps s).1.writePath = s.writePath ∧
    (loadLaserModel l ps s).1.levels = s.levels ∧
    (loadLaserModel l ps s).1.pickup = s.pickup ∧
    (loadLaserModel l ps s).1.monitor = s.monitor ∧
    (loadLaserModel l ps s).1.port = s.port ∧
    (loadLaserModel l ps s).1.alert = s.alert ∧
    (loadLaserModel l ps s).1.pending = s.pending := by
  simp only [loadLaserModel, done, refuseWith]
  (repeat' split) <;> simp
@[simp] theorem loadLaserModel_inReset : (loadLaserModel l ps s).1.inReset = s.inReset := (loadLaserModel_frame l ps s).1
@[simp] theorem loadLaserModel_zones : (loadLaserModel l ps s).1.zones = s.zones := (loadLaserModel_frame l ps s).2.1
@[simp] theorem loadLaserModel_strategies : (loadLaserModel l ps s).1.strategies = s.strategies := (loadLaserModel_frame l ps s).2.2.1
@[simp] theorem loadLaserModel_guards : (loadLaserModel l ps s).1.guards = s.guards := (loadLaserModel_frame l ps s).2.2.2.1
@[simp] theorem loadLaserModel_streams : (loadLaserModel l ps s).1.streams = s.streams := (loadLaserModel_frame l ps s).2.2.2.2.1
@[simp] theorem loadLaserModel_queue : (loadLaserModel l ps s).1.queue = s.queue := (loadLaserModel_frame l ps s).2.2.2.2.2.1
@[simp] theorem loadLaserModel_translating : (loadLaserModel l ps s).1.translating = s.translating := (loadLaserModel_frame l ps s).2.2.2.2.2.2.1
@[simp] theorem loadLaserModel_link : (loadLaserModel l ps s).1.link = s.link := (loadLaserModel_frame l ps s).2.2.2.2.2.2.2.1
@[simp] theorem loadLaserModel_gate : (loadLaserModel l ps s).1.gate = s.gate := (loadLaserModel_frame l ps s).2.2.2.2.2.2.2.2.1
@[simp] theorem loadLaserModel_writePath : (loadLaserModel l ps s).1.writePath = s.writePath := (loadLaserModel_frame l ps s).2.2.2.2.2.2.2.2.2.1
@[simp] theorem loadLaserModel_levels : (loadLaserModel l ps s).1.levels = s.levels := (loadLaserModel_frame l ps s).2.2.2.2.2.2.2.2.2.2.1
@[simp] theorem loadLaserModel_pickup : (loadLaserModel l ps s).1.pickup = s.pickup := (loadLaserModel_frame l ps s).2.2.2.2.2.2.2.2.2.2.2.1
@[simp] theorem loadLaserModel_monitor : (loadLaserModel l ps s).1.monitor = s.monitor := (loadLaserModel_frame l ps s).2.2.2.2.2.2.2.2.2.2.2.2.1
@[simp] theorem loadLaserModel_port : (loadLaserModel l ps s).1.port = s.port := (loadLaserModel_frame l ps s).2.2.2.2.2.2.2.2.2.2.2.2.2.1
@[simp] theorem loadLaserModel_alert : (loadLaserModel l ps s).1.alert = s.alert := (loadLaserModel_frame l ps s).2.2.2.2.2.2.2.2.2.2.2.2.2.2.1
@[simp] theorem loadLaserModel_pending : (loadLaserModel l ps s).1.pending = s.pending := (loadLaserModel_frame l ps s).2.2.2.2.2.2.2.2.2.2.2.2.2.2.2
end

section
variable (l : Level) (ps : List Byte) (s : State)
theorem loadCeilings_frame :
    (loadCeilings l ps s).1.inReset = s.inReset ∧
    (loadCeilings l ps s).1.zones = s.zones ∧
    (loadCeilings l ps s).1.strategies = s.strategies ∧
    (loadCeilings l ps s).1.guards = s.guards ∧
    (loadCeilings l ps s).1.streams = s.streams ∧
    (loadCeilings l ps s).1.queue = s.queue ∧
    (loadCeilings l ps s).1.translating = s.translating ∧
    (loadCeilings l ps s).1.link = s.link ∧
    (loadCeilings l ps s).1.gate = s.gate ∧
    (loadCeilings l ps s).1.writePath = s.writePath ∧
    (loadCeilings l ps s).1.levels = s.levels ∧
    (loadCeilings l ps s).1.pickup = s.pickup ∧
    (loadCeilings l ps s).1.monitor = s.monitor ∧
    (loadCeilings l ps s).1.port = s.port ∧
    (loadCeilings l ps s).1.alert = s.alert ∧
    (loadCeilings l ps s).1.pending = s.pending := by
  simp only [loadCeilings, done, refuseWith]
  (repeat' split) <;> simp
@[simp] theorem loadCeilings_inReset : (loadCeilings l ps s).1.inReset = s.inReset := (loadCeilings_frame l ps s).1
@[simp] theorem loadCeilings_zones : (loadCeilings l ps s).1.zones = s.zones := (loadCeilings_frame l ps s).2.1
@[simp] theorem loadCeilings_strategies : (loadCeilings l ps s).1.strategies = s.strategies := (loadCeilings_frame l ps s).2.2.1
@[simp] theorem loadCeilings_guards : (loadCeilings l ps s).1.guards = s.guards := (loadCeilings_frame l ps s).2.2.2.1
@[simp] theorem loadCeilings_streams : (loadCeilings l ps s).1.streams = s.streams := (loadCeilings_frame l ps s).2.2.2.2.1
@[simp] theorem loadCeilings_queue : (loadCeilings l ps s).1.queue = s.queue := (loadCeilings_frame l ps s).2.2.2.2.2.1
@[simp] theorem loadCeilings_translating : (loadCeilings l ps s).1.translating = s.translating := (loadCeilings_frame l ps s).2.2.2.2.2.2.1
@[simp] theorem loadCeilings_link : (loadCeilings l ps s).1.link = s.link := (loadCeilings_frame l ps s).2.2.2.2.2.2.2.1
@[simp] theorem loadCeilings_gate : (loadCeilings l ps s).1.gate = s.gate := (loadCeilings_frame l ps s).2.2.2.2.2.2.2.2.1
@[simp] theorem loadCeilings_writePath : (loadCeilings l ps s).1.writePath = s.writePath := (loadCeilings_frame l ps s).2.2.2.2.2.2.2.2.2.1
@[simp] theorem loadCeilings_levels : (loadCeilings l ps s).1.levels = s.levels := (loadCeilings_frame l ps s).2.2.2.2.2.2.2.2.2.2.1
@[simp] theorem loadCeilings_pickup : (loadCeilings l ps s).1.pickup = s.pickup := (loadCeilings_frame l ps s).2.2.2.2.2.2.2.2.2.2.2.1
@[simp] theorem loadCeilings_monitor : (loadCeilings l ps s).1.monitor = s.monitor := (loadCeilings_frame l ps s).2.2.2.2.2.2.2.2.2.2.2.2.1
@[simp] theorem loadCeilings_port : (loadCeilings l ps s).1.port = s.port := (loadCeilings_frame l ps s).2.2.2.2.2.2.2.2.2.2.2.2.2.1
@[simp] theorem loadCeilings_alert : (loadCeilings l ps s).1.alert = s.alert := (loadCeilings_frame l ps s).2.2.2.2.2.2.2.2.2.2.2.2.2.2.1
@[simp] theorem loadCeilings_pending : (loadCeilings l ps s).1.pending = s.pending := (loadCeilings_frame l ps s).2.2.2.2.2.2.2.2.2.2.2.2.2.2.2
end

section
variable (l : Level) (ps : List Byte) (s : State)
theorem laserOn_frame :
    (laserOn l ps s).1.inReset = s.inReset ∧
    (laserOn l ps s).1.guards = s.guards ∧
    (laserOn l ps s).1.streams = s.streams ∧
    (laserOn l ps s).1.port = s.port ∧
    (laserOn l ps s).1.pending = s.pending := by
  simp only [laserOn, done, refuseWith, State.enterStandby]
  (repeat' split) <;> simp
@[simp] theorem laserOn_inReset : (laserOn l ps s).1.inReset = s.inReset := (laserOn_frame l ps s).1
@[simp] theorem laserOn_guards : (laserOn l ps s).1.guards = s.guards := (laserOn_frame l ps s).2.1
@[simp] theorem laserOn_streams : (laserOn l ps s).1.streams = s.streams := (laserOn_frame l ps s).2.2.1
@[simp] theorem laserOn_port : (laserOn l ps s).1.port = s.port := (laserOn_frame l ps s).2.2.2.1
@[simp] theorem laserOn_pending : (laserOn l ps s).1.pending = s.pending := (laserOn_frame l ps s).2.2.2.2
end

section
variable (l : Level) (ps : List Byte) (s : State)
theorem laserOff_frame :
    (laserOff l ps s).1.inReset = s.inReset ∧
    (laserOff l ps s).1.guards = s.guards ∧
    (laserOff l ps s).1.streams = s.streams ∧
    (laserOff l ps s).1.port = s.port ∧
    (laserOff l ps s).1.pending = s.pending := by
  simp only [laserOff, done, refuseWith]
  (repeat' split) <;> simp
@[simp] theorem laserOff_inReset : (laserOff l ps s).1.inReset = s.inReset := (laserOff_frame l ps s).1
@[simp] theorem laserOff_guards : (laserOff l ps s).1.guards = s.guards := (laserOff_frame l ps s).2.1
@[simp] theorem laserOff_streams : (laserOff l ps s).1.streams = s.streams := (laserOff_frame l ps s).2.2.1
@[simp] theorem laserOff_port : (laserOff l ps s).1.port = s.port := (laserOff_frame l ps s).2.2.2.1
@[simp] theorem laserOff_pending : (laserOff l ps s).1.pending = s.pending := (laserOff_frame l ps s).2.2.2.2
end

section
variable (l : Level) (ps : List Byte) (s : State)
theorem clearFault_frame :
    (clearFault l ps s).1.inReset = s.inReset ∧
    (clearFault l ps s).1.zones = s.zones ∧
    (clearFault l ps s).1.strategies = s.strategies ∧
    (clearFault l ps s).1.guards = s.guards ∧
    (clearFault l ps s).1.streams = s.streams ∧
    (clearFault l ps s).1.queue = s.queue ∧
    (clearFault l ps s).1.translating = s.translating ∧
    (clearFault l ps s).1.link = s.link ∧
    (clearFault l ps s).1.gate = s.gate ∧
    (clearFault l ps s).1.pickup = s.pickup ∧
    (clearFault l ps s).1.port = s.port ∧
    (clearFault l ps s).1.alert = s.alert ∧
    (clearFault l ps s).1.pending = s.pending := by
  simp only [clearFault, done, refuseWith, State.leaveFault]
  (repeat' split) <;> simp
@[simp] theorem clearFault_inReset : (clearFault l ps s).1.inReset = s.inReset := (clearFault_frame l ps s).1
@[simp] theorem clearFault_zones : (clearFault l ps s).1.zones = s.zones := (clearFault_frame l ps s).2.1
@[simp] theorem clearFault_strategies : (clearFault l ps s).1.strategies = s.strategies := (clearFault_frame l ps s).2.2.1
@[simp] theorem clearFault_guards : (clearFault l ps s).1.guards = s.guards := (clearFault_frame l ps s).2.2.2.1
@[simp] theorem clearFault_streams : (clearFault l ps s).1.streams = s.streams := (clearFault_frame l ps s).2.2.2.2.1
@[simp] theorem clearFault_queue : (clearFault l ps s).1.queue = s.queue := (clearFault_frame l ps s).2.2.2.2.2.1
@[simp] theorem clearFault_translating : (clearFault l ps s).1.translating = s.translating := (clearFault_frame l ps s).2.2.2.2.2.2.1
@[simp] theorem clearFault_link : (clearFault l ps s).1.link = s.link := (clearFault_frame l ps s).2.2.2.2.2.2.2.1
@[simp] theorem clearFault_gate : (clearFault l ps s).1.gate = s.gate := (clearFault_frame l ps s).2.2.2.2.2.2.2.2.1
@[simp] theorem clearFault_pickup : (clearFault l ps s).1.pickup = s.pickup := (clearFault_frame l ps s).2.2.2.2.2.2.2.2.2.1
@[simp] theorem clearFault_port : (clearFault l ps s).1.port = s.port := (clearFault_frame l ps s).2.2.2.2.2.2.2.2.2.2.1
@[simp] theorem clearFault_alert : (clearFault l ps s).1.alert = s.alert := (clearFault_frame l ps s).2.2.2.2.2.2.2.2.2.2.2.1
@[simp] theorem clearFault_pending : (clearFault l ps s).1.pending = s.pending := (clearFault_frame l ps s).2.2.2.2.2.2.2.2.2.2.2.2
end

section
variable (l : Level) (ps : List Byte) (s : State)
@[simp] theorem readLaser_state : (readLaser l ps s).1 = s := by
  simp only [readLaser, done]
end

section
variable (l : Level) (ps : List Byte) (s : State)
theorem ackEvents_frame :
    (ackEvents l ps s).1.inReset = s.inReset ∧
    (ackEvents l ps s).1.zones = s.zones ∧
    (ackEvents l ps s).1.strategies = s.strategies ∧
    (ackEvents l ps s).1.guards = s.guards ∧
    (ackEvents l ps s).1.streams = s.streams ∧
    (ackEvents l ps s).1.queue = s.queue ∧
    (ackEvents l ps s).1.translating = s.translating ∧
    (ackEvents l ps s).1.link = s.link ∧
    (ackEvents l ps s).1.gate = s.gate ∧
    (ackEvents l ps s).1.writePath = s.writePath ∧
    (ackEvents l ps s).1.levels = s.levels ∧
    (ackEvents l ps s).1.pickup = s.pickup ∧
    (ackEvents l ps s).1.laser = s.laser ∧
    (ackEvents l ps s).1.monitor = s.monitor ∧
    (ackEvents l ps s).1.port = s.port ∧
    (ackEvents l ps s).1.pending = s.pending := by
  simp only [ackEvents, done, refuseWith]
  (repeat' split) <;> simp
@[simp] theorem ackEvents_inReset : (ackEvents l ps s).1.inReset = s.inReset := (ackEvents_frame l ps s).1
@[simp] theorem ackEvents_zones : (ackEvents l ps s).1.zones = s.zones := (ackEvents_frame l ps s).2.1
@[simp] theorem ackEvents_strategies : (ackEvents l ps s).1.strategies = s.strategies := (ackEvents_frame l ps s).2.2.1
@[simp] theorem ackEvents_guards : (ackEvents l ps s).1.guards = s.guards := (ackEvents_frame l ps s).2.2.2.1
@[simp] theorem ackEvents_streams : (ackEvents l ps s).1.streams = s.streams := (ackEvents_frame l ps s).2.2.2.2.1
@[simp] theorem ackEvents_queue : (ackEvents l ps s).1.queue = s.queue := (ackEvents_frame l ps s).2.2.2.2.2.1
@[simp] theorem ackEvents_translating : (ackEvents l ps s).1.translating = s.translating := (ackEvents_frame l ps s).2.2.2.2.2.2.1
@[simp] theorem ackEvents_link : (ackEvents l ps s).1.link = s.link := (ackEvents_frame l ps s).2.2.2.2.2.2.2.1
@[simp] theorem ackEvents_gate : (ackEvents l ps s).1.gate = s.gate := (ackEvents_frame l ps s).2.2.2.2.2.2.2.2.1
@[simp] theorem ackEvents_writePath : (ackEvents l ps s).1.writePath = s.writePath := (ackEvents_frame l ps s).2.2.2.2.2.2.2.2.2.1
@[simp] theorem ackEvents_levels : (ackEvents l ps s).1.levels = s.levels := (ackEvents_frame l ps s).2.2.2.2.2.2.2.2.2.2.1
@[simp] theorem ackEvents_pickup : (ackEvents l ps s).1.pickup = s.pickup := (ackEvents_frame l ps s).2.2.2.2.2.2.2.2.2.2.2.1
@[simp] theorem ackEvents_laser : (ackEvents l ps s).1.laser = s.laser := (ackEvents_frame l ps s).2.2.2.2.2.2.2.2.2.2.2.2.1
@[simp] theorem ackEvents_monitor : (ackEvents l ps s).1.monitor = s.monitor := (ackEvents_frame l ps s).2.2.2.2.2.2.2.2.2.2.2.2.2.1
@[simp] theorem ackEvents_port : (ackEvents l ps s).1.port = s.port := (ackEvents_frame l ps s).2.2.2.2.2.2.2.2.2.2.2.2.2.2.1
@[simp] theorem ackEvents_pending : (ackEvents l ps s).1.pending = s.pending := (ackEvents_frame l ps s).2.2.2.2.2.2.2.2.2.2.2.2.2.2.2
end

section
variable (l : Level) (ps : List Byte) (s : State)
theorem setPermissions_frame :
    (setPermissions l ps s).1.inReset = s.inReset ∧
    (setPermissions l ps s).1.zones = s.zones ∧
    (setPermissions l ps s).1.strategies = s.strategies ∧
    (setPermissions l ps s).1.guards = s.guards ∧
    (setPermissions l ps s).1.streams = s.streams ∧
    (setPermissions l ps s).1.queue = s.queue ∧
    (setPermissions l ps s).1.translating = s.translating ∧
    (setPermissions l ps s).1.link = s.link ∧
    (setPermissions l ps s).1.gate = s.gate ∧
    (setPermissions l ps s).1.writePath = s.writePath ∧
    (setPermissions l ps s).1.levels = s.levels ∧
    (setPermissions l ps s).1.pickup = s.pickup ∧
    (setPermissions l ps s).1.laser = s.laser ∧
    (setPermissions l ps s).1.monitor = s.monitor ∧
    (setPermissions l ps s).1.port = s.port ∧
    (setPermissions l ps s).1.pending = s.pending := by
  simp only [setPermissions, done, refuseWith]
  (repeat' split) <;> simp
@[simp] theorem setPermissions_inReset : (setPermissions l ps s).1.inReset = s.inReset := (setPermissions_frame l ps s).1
@[simp] theorem setPermissions_zones : (setPermissions l ps s).1.zones = s.zones := (setPermissions_frame l ps s).2.1
@[simp] theorem setPermissions_strategies : (setPermissions l ps s).1.strategies = s.strategies := (setPermissions_frame l ps s).2.2.1
@[simp] theorem setPermissions_guards : (setPermissions l ps s).1.guards = s.guards := (setPermissions_frame l ps s).2.2.2.1
@[simp] theorem setPermissions_streams : (setPermissions l ps s).1.streams = s.streams := (setPermissions_frame l ps s).2.2.2.2.1
@[simp] theorem setPermissions_queue : (setPermissions l ps s).1.queue = s.queue := (setPermissions_frame l ps s).2.2.2.2.2.1
@[simp] theorem setPermissions_translating : (setPermissions l ps s).1.translating = s.translating := (setPermissions_frame l ps s).2.2.2.2.2.2.1
@[simp] theorem setPermissions_link : (setPermissions l ps s).1.link = s.link := (setPermissions_frame l ps s).2.2.2.2.2.2.2.1
@[simp] theorem setPermissions_gate : (setPermissions l ps s).1.gate = s.gate := (setPermissions_frame l ps s).2.2.2.2.2.2.2.2.1
@[simp] theorem setPermissions_writePath : (setPermissions l ps s).1.writePath = s.writePath := (setPermissions_frame l ps s).2.2.2.2.2.2.2.2.2.1
@[simp] theorem setPermissions_levels : (setPermissions l ps s).1.levels = s.levels := (setPermissions_frame l ps s).2.2.2.2.2.2.2.2.2.2.1
@[simp] theorem setPermissions_pickup : (setPermissions l ps s).1.pickup = s.pickup := (setPermissions_frame l ps s).2.2.2.2.2.2.2.2.2.2.2.1
@[simp] theorem setPermissions_laser : (setPermissions l ps s).1.laser = s.laser := (setPermissions_frame l ps s).2.2.2.2.2.2.2.2.2.2.2.2.1
@[simp] theorem setPermissions_monitor : (setPermissions l ps s).1.monitor = s.monitor := (setPermissions_frame l ps s).2.2.2.2.2.2.2.2.2.2.2.2.2.1
@[simp] theorem setPermissions_port : (setPermissions l ps s).1.port = s.port := (setPermissions_frame l ps s).2.2.2.2.2.2.2.2.2.2.2.2.2.2.1
@[simp] theorem setPermissions_pending : (setPermissions l ps s).1.pending = s.pending := (setPermissions_frame l ps s).2.2.2.2.2.2.2.2.2.2.2.2.2.2.2
end

section
variable (l : Level) (ps : List Byte) (s : State)
theorem setAlertMode_frame :
    (setAlertMode l ps s).1.inReset = s.inReset ∧
    (setAlertMode l ps s).1.zones = s.zones ∧
    (setAlertMode l ps s).1.strategies = s.strategies ∧
    (setAlertMode l ps s).1.guards = s.guards ∧
    (setAlertMode l ps s).1.streams = s.streams ∧
    (setAlertMode l ps s).1.queue = s.queue ∧
    (setAlertMode l ps s).1.translating = s.translating ∧
    (setAlertMode l ps s).1.link = s.link ∧
    (setAlertMode l ps s).1.gate = s.gate ∧
    (setAlertMode l ps s).1.writePath = s.writePath ∧
    (setAlertMode l ps s).1.levels = s.levels ∧
    (setAlertMode l ps s).1.pickup = s.pickup ∧
    (setAlertMode l ps s).1.laser = s.laser ∧
    (setAlertMode l ps s).1.monitor = s.monitor ∧
    (setAlertMode l ps s).1.port = s.port ∧
    (setAlertMode l ps s).1.pending = s.pending := by
  simp only [setAlertMode, done, refuseWith]
  (repeat' split) <;> simp
@[simp] theorem setAlertMode_inReset : (setAlertMode l ps s).1.inReset = s.inReset := (setAlertMode_frame l ps s).1
@[simp] theorem setAlertMode_zones : (setAlertMode l ps s).1.zones = s.zones := (setAlertMode_frame l ps s).2.1
@[simp] theorem setAlertMode_strategies : (setAlertMode l ps s).1.strategies = s.strategies := (setAlertMode_frame l ps s).2.2.1
@[simp] theorem setAlertMode_guards : (setAlertMode l ps s).1.guards = s.guards := (setAlertMode_frame l ps s).2.2.2.1
@[simp] theorem setAlertMode_streams : (setAlertMode l ps s).1.streams = s.streams := (setAlertMode_frame l ps s).2.2.2.2.1
@[simp] theorem setAlertMode_queue : (setAlertMode l ps s).1.queue = s.queue := (setAlertMode_frame l ps s).2.2.2.2.2.1
@[simp] theorem setAlertMode_translating : (setAlertMode l ps s).1.translating = s.translating := (setAlertMode_frame l ps s).2.2.2.2.2.2.1
@[simp] theorem setAlertMode_link : (setAlertMode l ps s).1.link = s.link := (setAlertMode_frame l ps s).2.2.2.2.2.2.2.1
@[simp] theorem setAlertMode_gate : (setAlertMode l ps s).1.gate = s.gate := (setAlertMode_frame l ps s).2.2.2.2.2.2.2.2.1
@[simp] theorem setAlertMode_writePath : (setAlertMode l ps s).1.writePath = s.writePath := (setAlertMode_frame l ps s).2.2.2.2.2.2.2.2.2.1
@[simp] theorem setAlertMode_levels : (setAlertMode l ps s).1.levels = s.levels := (setAlertMode_frame l ps s).2.2.2.2.2.2.2.2.2.2.1
@[simp] theorem setAlertMode_pickup : (setAlertMode l ps s).1.pickup = s.pickup := (setAlertMode_frame l ps s).2.2.2.2.2.2.2.2.2.2.2.1
@[simp] theorem setAlertMode_laser : (setAlertMode l ps s).1.laser = s.laser := (setAlertMode_frame l ps s).2.2.2.2.2.2.2.2.2.2.2.2.1
@[simp] theorem setAlertMode_monitor : (setAlertMode l ps s).1.monitor = s.monitor := (setAlertMode_frame l ps s).2.2.2.2.2.2.2.2.2.2.2.2.2.1
@[simp] theorem setAlertMode_port : (setAlertMode l ps s).1.port = s.port := (setAlertMode_frame l ps s).2.2.2.2.2.2.2.2.2.2.2.2.2.2.1
@[simp] theorem setAlertMode_pending : (setAlertMode l ps s).1.pending = s.pending := (setAlertMode_frame l ps s).2.2.2.2.2.2.2.2.2.2.2.2.2.2.2
end

section
variable (l : Level) (ps : List Byte) (s : State)
@[simp] theorem readEvents_state : (readEvents l ps s).1 = s := by
  simp only [readEvents, done]
end

section
variable (l : Level) (ps : List Byte) (s : State)
@[simp] theorem inquire_state : (inquire l ps s).1 = s := by
  simp only [inquire, done, refuseWith]
  (repeat' split) <;> rfl
end

section
variable (l : Level) (ps : List Byte) (s : State)
theorem unmount_frame :
    (unmount l ps s).1.inReset = s.inReset ∧
    (unmount l ps s).1.port = s.port ∧
    (unmount l ps s).1.pending = s.pending := by
  simp only [unmount, done]
  (repeat' split) <;> simp
@[simp] theorem unmount_inReset : (unmount l ps s).1.inReset = s.inReset := (unmount_frame l ps s).1
@[simp] theorem unmount_port : (unmount l ps s).1.port = s.port := (unmount_frame l ps s).2.1
@[simp] theorem unmount_pending : (unmount l ps s).1.pending = s.pending := (unmount_frame l ps s).2.2
end

section
variable (s : State) (k : Bool) (b : Byte)
theorem generalCallByte_frame :
    (s.generalCallByte k b).inReset = s.inReset ∧
    (s.generalCallByte k b).guards = s.guards ∧
    (s.generalCallByte k b).streams = s.streams ∧
    (s.generalCallByte k b).pending = s.pending := by
  unfold State.generalCallByte
  (repeat' split) <;> simp
@[simp] theorem generalCallByte_inReset : (s.generalCallByte k b).inReset = s.inReset := (generalCallByte_frame s k b).1
@[simp] theorem generalCallByte_guards : (s.generalCallByte k b).guards = s.guards := (generalCallByte_frame s k b).2.1
@[simp] theorem generalCallByte_streams : (s.generalCallByte k b).streams = s.streams := (generalCallByte_frame s k b).2.2.1
@[simp] theorem generalCallByte_pending : (s.generalCallByte k b).pending = s.pending := (generalCallByte_frame s k b).2.2.2
end

section
variable (s : State) (a : Announcement)
theorem enroll_frame :
    (s.enroll a).inReset = s.inReset ∧
    (s.enroll a).zones = s.zones ∧
    (s.enroll a).strategies = s.strategies ∧
    (s.enroll a).guards = s.guards ∧
    (s.enroll a).streams = s.streams ∧
    (s.enroll a).gate = s.gate ∧
    (s.enroll a).writePath = s.writePath ∧
    (s.enroll a).laser = s.laser ∧
    (s.enroll a).monitor = s.monitor ∧
    (s.enroll a).port = s.port ∧
    (s.enroll a).pending = s.pending := by
  unfold State.enroll
  (repeat' split) <;> simp
@[simp] theorem enroll_inReset : (s.enroll a).inReset = s.inReset := (enroll_frame s a).1
@[simp] theorem enroll_zones : (s.enroll a).zones = s.zones := (enroll_frame s a).2.1
@[simp] theorem enroll_strategies : (s.enroll a).strategies = s.strategies := (enroll_frame s a).2.2.1
@[simp] theorem enroll_guards : (s.enroll a).guards = s.guards := (enroll_frame s a).2.2.2.1
@[simp] theorem enroll_streams : (s.enroll a).streams = s.streams := (enroll_frame s a).2.2.2.2.1
@[simp] theorem enroll_gate : (s.enroll a).gate = s.gate := (enroll_frame s a).2.2.2.2.2.1
@[simp] theorem enroll_writePath : (s.enroll a).writePath = s.writePath := (enroll_frame s a).2.2.2.2.2.2.1
@[simp] theorem enroll_laser : (s.enroll a).laser = s.laser := (enroll_frame s a).2.2.2.2.2.2.2.1
@[simp] theorem enroll_monitor : (s.enroll a).monitor = s.monitor := (enroll_frame s a).2.2.2.2.2.2.2.2.1
@[simp] theorem enroll_port : (s.enroll a).port = s.port := (enroll_frame s a).2.2.2.2.2.2.2.2.2.1
@[simp] theorem enroll_pending : (s.enroll a).pending = s.pending := (enroll_frame s a).2.2.2.2.2.2.2.2.2.2
end

section
variable (s : State) (k : Option StreamNo)
theorem abort_frame :
    (s.abort k).inReset = s.inReset ∧
    (s.abort k).guards = s.guards ∧
    (s.abort k).streams = s.streams ∧
    (s.abort k).writePath = s.writePath ∧
    (s.abort k).laser = s.laser ∧
    (s.abort k).monitor = s.monitor ∧
    (s.abort k).port = s.port ∧
    (s.abort k).pending = s.pending := by
  simp [State.abort]
@[simp] theorem abort_inReset : (s.abort k).inReset = s.inReset := (abort_frame s k).1
@[simp] theorem abort_guards : (s.abort k).guards = s.guards := (abort_frame s k).2.1
@[simp] theorem abort_streams : (s.abort k).streams = s.streams := (abort_frame s k).2.2.1
@[simp] theorem abort_writePath : (s.abort k).writePath = s.writePath := (abort_frame s k).2.2.2.1
@[simp] theorem abort_laser : (s.abort k).laser = s.laser := (abort_frame s k).2.2.2.2.1
@[simp] theorem abort_monitor : (s.abort k).monitor = s.monitor := (abort_frame s k).2.2.2.2.2.1
@[simp] theorem abort_port : (s.abort k).port = s.port := (abort_frame s k).2.2.2.2.2.2.1
@[simp] theorem abort_pending : (s.abort k).pending = s.pending := (abort_frame s k).2.2.2.2.2.2.2
end

section
variable (s : State) (i : ZoneSlot) (d : Int)
theorem trimStep_frame :
    (s.trimStep i d).inReset = s.inReset ∧
    (s.trimStep i d).strategies = s.strategies ∧
    (s.trimStep i d).guards = s.guards ∧
    (s.trimStep i d).streams = s.streams ∧
    (s.trimStep i d).queue = s.queue ∧
    (s.trimStep i d).translating = s.translating ∧
    (s.trimStep i d).link = s.link ∧
    (s.trimStep i d).gate = s.gate ∧
    (s.trimStep i d).writePath = s.writePath ∧
    (s.trimStep i d).pickup = s.pickup ∧
    (s.trimStep i d).laser = s.laser ∧
    (s.trimStep i d).monitor = s.monitor ∧
    (s.trimStep i d).port = s.port ∧
    (s.trimStep i d).pending = s.pending := by
  simp only [State.trimStep]
  (repeat' split) <;> simp
@[simp] theorem trimStep_inReset : (s.trimStep i d).inReset = s.inReset := (trimStep_frame s i d).1
@[simp] theorem trimStep_strategies : (s.trimStep i d).strategies = s.strategies := (trimStep_frame s i d).2.1
@[simp] theorem trimStep_guards : (s.trimStep i d).guards = s.guards := (trimStep_frame s i d).2.2.1
@[simp] theorem trimStep_streams : (s.trimStep i d).streams = s.streams := (trimStep_frame s i d).2.2.2.1
@[simp] theorem trimStep_queue : (s.trimStep i d).queue = s.queue := (trimStep_frame s i d).2.2.2.2.1
@[simp] theorem trimStep_translating : (s.trimStep i d).translating = s.translating := (trimStep_frame s i d).2.2.2.2.2.1
@[simp] theorem trimStep_link : (s.trimStep i d).link = s.link := (trimStep_frame s i d).2.2.2.2.2.2.1
@[simp] theorem trimStep_gate : (s.trimStep i d).gate = s.gate := (trimStep_frame s i d).2.2.2.2.2.2.2.1
@[simp] theorem trimStep_writePath : (s.trimStep i d).writePath = s.writePath := (trimStep_frame s i d).2.2.2.2.2.2.2.2.1
@[simp] theorem trimStep_pickup : (s.trimStep i d).pickup = s.pickup := (trimStep_frame s i d).2.2.2.2.2.2.2.2.2.1
@[simp] theorem trimStep_laser : (s.trimStep i d).laser = s.laser := (trimStep_frame s i d).2.2.2.2.2.2.2.2.2.2.1
@[simp] theorem trimStep_monitor : (s.trimStep i d).monitor = s.monitor := (trimStep_frame s i d).2.2.2.2.2.2.2.2.2.2.2.1
@[simp] theorem trimStep_port : (s.trimStep i d).port = s.port := (trimStep_frame s i d).2.2.2.2.2.2.2.2.2.2.2.2.1
@[simp] theorem trimStep_pending : (s.trimStep i d).pending = s.pending := (trimStep_frame s i d).2.2.2.2.2.2.2.2.2.2.2.2.2
end

section
variable (s : State) (k : LayerNo) (b : Nat) (d : Int)
theorem quality_frame :
    (s.quality k b d).inReset = s.inReset ∧
    (s.quality k b d).strategies = s.strategies ∧
    (s.quality k b d).guards = s.guards ∧
    (s.quality k b d).streams = s.streams ∧
    (s.quality k b d).queue = s.queue ∧
    (s.quality k b d).translating = s.translating ∧
    (s.quality k b d).link = s.link ∧
    (s.quality k b d).gate = s.gate ∧
    (s.quality k b d).writePath = s.writePath ∧
    (s.quality k b d).pickup = s.pickup ∧
    (s.quality k b d).laser = s.laser ∧
    (s.quality k b d).monitor = s.monitor ∧
    (s.quality k b d).port = s.port ∧
    (s.quality k b d).pending = s.pending := by
  simp only [State.quality]
  (repeat' split) <;> simp
@[simp] theorem quality_inReset : (s.quality k b d).inReset = s.inReset := (quality_frame s k b d).1
@[simp] theorem quality_strategies : (s.quality k b d).strategies = s.strategies := (quality_frame s k b d).2.1
@[simp] theorem quality_guards : (s.quality k b d).guards = s.guards := (quality_frame s k b d).2.2.1
@[simp] theorem quality_streams : (s.quality k b d).streams = s.streams := (quality_frame s k b d).2.2.2.1
@[simp] theorem quality_queue : (s.quality k b d).queue = s.queue := (quality_frame s k b d).2.2.2.2.1
@[simp] theorem quality_translating : (s.quality k b d).translating = s.translating := (quality_frame s k b d).2.2.2.2.2.1
@[simp] theorem quality_link : (s.quality k b d).link = s.link := (quality_frame s k b d).2.2.2.2.2.2.1
@[simp] theorem quality_gate : (s.quality k b d).gate = s.gate := (quality_frame s k b d).2.2.2.2.2.2.2.1
@[simp] theorem quality_writePath : (s.quality k b d).writePath = s.writePath := (quality_frame s k b d).2.2.2.2.2.2.2.2.1
@[simp] theorem quality_pickup : (s.quality k b d).pickup = s.pickup := (quality_frame s k b d).2.2.2.2.2.2.2.2.2.1
@[simp] theorem quality_laser : (s.quality k b d).laser = s.laser := (quality_frame s k b d).2.2.2.2.2.2.2.2.2.2.1
@[simp] theorem quality_monitor : (s.quality k b d).monitor = s.monitor := (quality_frame s k b d).2.2.2.2.2.2.2.2.2.2.2.1
@[simp] theorem quality_port : (s.quality k b d).port = s.port := (quality_frame s k b d).2.2.2.2.2.2.2.2.2.2.2.2.1
@[simp] theorem quality_pending : (s.quality k b d).pending = s.pending := (quality_frame s k b d).2.2.2.2.2.2.2.2.2.2.2.2.2
end

section
variable (s : State)
theorem malformed_frame :
    (s.malformed).inReset = s.inReset ∧
    (s.malformed).zones = s.zones ∧
    (s.malformed).strategies = s.strategies ∧
    (s.malformed).guards = s.guards ∧
    (s.malformed).streams = s.streams ∧
    (s.malformed).queue = s.queue ∧
    (s.malformed).translating = s.translating ∧
    (s.malformed).link = s.link ∧
    (s.malformed).gate = s.gate ∧
    (s.malformed).writePath = s.writePath ∧
    (s.malformed).levels = s.levels ∧
    (s.malformed).pickup = s.pickup ∧
    (s.malformed).laser = s.laser ∧
    (s.malformed).monitor = s.monitor ∧
    (s.malformed).port = s.port ∧
    (s.malformed).pending = s.pending := by
  simp [State.malformed]
@[simp] theorem malformed_inReset : (s.malformed).inReset = s.inReset := (malformed_frame s).1
@[simp] theorem malformed_zones : (s.malformed).zones = s.zones := (malformed_frame s).2.1
@[simp] theorem malformed_strategies : (s.malformed).strategies = s.strategies := (malformed_frame s).2.2.1
@[simp] theorem malformed_guards : (s.malformed).guards = s.guards := (malformed_frame s).2.2.2.1
@[simp] theorem malformed_streams : (s.malformed).streams = s.streams := (malformed_frame s).2.2.2.2.1
@[simp] theorem malformed_queue : (s.malformed).queue = s.queue := (malformed_frame s).2.2.2.2.2.1
@[simp] theorem malformed_translating : (s.malformed).translating = s.translating := (malformed_frame s).2.2.2.2.2.2.1
@[simp] theorem malformed_link : (s.malformed).link = s.link := (malformed_frame s).2.2.2.2.2.2.2.1
@[simp] theorem malformed_gate : (s.malformed).gate = s.gate := (malformed_frame s).2.2.2.2.2.2.2.2.1
@[simp] theorem malformed_writePath : (s.malformed).writePath = s.writePath := (malformed_frame s).2.2.2.2.2.2.2.2.2.1
@[simp] theorem malformed_levels : (s.malformed).levels = s.levels := (malformed_frame s).2.2.2.2.2.2.2.2.2.2.1
@[simp] theorem malformed_pickup : (s.malformed).pickup = s.pickup := (malformed_frame s).2.2.2.2.2.2.2.2.2.2.2.1
@[simp] theorem malformed_laser : (s.malformed).laser = s.laser := (malformed_frame s).2.2.2.2.2.2.2.2.2.2.2.2.1
@[simp] theorem malformed_monitor : (s.malformed).monitor = s.monitor := (malformed_frame s).2.2.2.2.2.2.2.2.2.2.2.2.2.1
@[simp] theorem malformed_port : (s.malformed).port = s.port := (malformed_frame s).2.2.2.2.2.2.2.2.2.2.2.2.2.2.1
@[simp] theorem malformed_pending : (s.malformed).pending = s.pending := (malformed_frame s).2.2.2.2.2.2.2.2.2.2.2.2.2.2.2
end

section
variable (s : State) (m : LinkMessage)
theorem take_frame :
    (s.take m).inReset = s.inReset ∧
    (s.take m).guards = s.guards ∧
    (s.take m).streams = s.streams ∧
    (s.take m).writePath = s.writePath ∧
    (s.take m).laser = s.laser ∧
    (s.take m).monitor = s.monitor ∧
    (s.take m).port = s.port ∧
    (s.take m).pending = s.pending := by
  unfold State.take
  (repeat' split) <;> simp
@[simp] theorem take_inReset : (s.take m).inReset = s.inReset := (take_frame s m).1
@[simp] theorem take_guards : (s.take m).guards = s.guards := (take_frame s m).2.1
@[simp] theorem take_streams : (s.take m).streams = s.streams := (take_frame s m).2.2.1
@[simp] theorem take_writePath : (s.take m).writePath = s.writePath := (take_frame s m).2.2.2.1
@[simp] theorem take_laser : (s.take m).laser = s.laser := (take_frame s m).2.2.2.2.1
@[simp] theorem take_monitor : (s.take m).monitor = s.monitor := (take_frame s m).2.2.2.2.2.1
@[simp] theorem take_port : (s.take m).port = s.port := (take_frame s m).2.2.2.2.2.2.1
@[simp] theorem take_pending : (s.take m).pending = s.pending := (take_frame s m).2.2.2.2.2.2.2
end

section
variable (s : State) (m : Option LinkMessage)
theorem endFrame_frame :
    (s.endFrame m).inReset = s.inReset ∧
    (s.endFrame m).guards = s.guards ∧
    (s.endFrame m).streams = s.streams ∧
    (s.endFrame m).writePath = s.writePath ∧
    (s.endFrame m).laser = s.laser ∧
    (s.endFrame m).monitor = s.monitor ∧
    (s.endFrame m).port = s.port ∧
    (s.endFrame m).pending = s.pending := by
  unfold State.endFrame
  (repeat' split) <;> simp
@[simp] theorem endFrame_inReset : (s.endFrame m).inReset = s.inReset := (endFrame_frame s m).1
@[simp] theorem endFrame_guards : (s.endFrame m).guards = s.guards := (endFrame_frame s m).2.1
@[simp] theorem endFrame_streams : (s.endFrame m).streams = s.streams := (endFrame_frame s m).2.2.1
@[simp] theorem endFrame_writePath : (s.endFrame m).writePath = s.writePath := (endFrame_frame s m).2.2.2.1
@[simp] theorem endFrame_laser : (s.endFrame m).laser = s.laser := (endFrame_frame s m).2.2.2.2.1
@[simp] theorem endFrame_monitor : (s.endFrame m).monitor = s.monitor := (endFrame_frame s m).2.2.2.2.2.1
@[simp] theorem endFrame_port : (s.endFrame m).port = s.port := (endFrame_frame s m).2.2.2.2.2.2.1
@[simp] theorem endFrame_pending : (s.endFrame m).pending = s.pending := (endFrame_frame s m).2.2.2.2.2.2.2
end

section
variable (s : State) (e : Entry)
theorem replaceEntry_frame :
    (s.replaceEntry e).inReset = s.inReset ∧
    (s.replaceEntry e).zones = s.zones ∧
    (s.replaceEntry e).strategies = s.strategies ∧
    (s.replaceEntry e).guards = s.guards ∧
    (s.replaceEntry e).streams = s.streams ∧
    (s.replaceEntry e).translating = s.translating ∧
    (s.replaceEntry e).link = s.link ∧
    (s.replaceEntry e).gate = s.gate ∧
    (s.replaceEntry e).writePath = s.writePath ∧
    (s.replaceEntry e).levels = s.levels ∧
    (s.replaceEntry e).pickup = s.pickup ∧
    (s.replaceEntry e).laser = s.laser ∧
    (s.replaceEntry e).monitor = s.monitor ∧
    (s.replaceEntry e).port = s.port ∧
    (s.replaceEntry e).alert = s.alert ∧
    (s.replaceEntry e).pending = s.pending := by
  simp [State.replaceEntry]
@[simp] theorem replaceEntry_inReset : (s.replaceEntry e).inReset = s.inReset := (replaceEntry_frame s e).1
@[simp] theorem replaceEntry_zones : (s.replaceEntry e).zones = s.zones := (replaceEntry_frame s e).2.1
@[simp] theorem replaceEntry_strategies : (s.replaceEntry e).strategies = s.strategies := (replaceEntry_frame s e).2.2.1
@[simp] theorem replaceEntry_guards : (s.replaceEntry e).guards = s.guards := (replaceEntry_frame s e).2.2.2.1
@[simp] theorem replaceEntry_streams : (s.replaceEntry e).streams = s.streams := (replaceEntry_frame s e).2.2.2.2.1
@[simp] theorem replaceEntry_translating : (s.replaceEntry e).translating = s.translating := (replaceEntry_frame s e).2.2.2.2.2.1
@[simp] theorem replaceEntry_link : (s.replaceEntry e).link = s.link := (replaceEntry_frame s e).2.2.2.2.2.2.1
@[simp] theorem replaceEntry_gate : (s.replaceEntry e).gate = s.gate := (replaceEntry_frame s e).2.2.2.2.2.2.2.1
@[simp] theorem replaceEntry_writePath : (s.replaceEntry e).writePath = s.writePath := (replaceEntry_frame s e).2.2.2.2.2.2.2.2.1
@[simp] theorem replaceEntry_levels : (s.replaceEntry e).levels = s.levels := (replaceEntry_frame s e).2.2.2.2.2.2.2.2.2.1
@[simp] theorem replaceEntry_pickup : (s.replaceEntry e).pickup = s.pickup := (replaceEntry_frame s e).2.2.2.2.2.2.2.2.2.2.1
@[simp] theorem replaceEntry_laser : (s.replaceEntry e).laser = s.laser := (replaceEntry_frame s e).2.2.2.2.2.2.2.2.2.2.2.1
@[simp] theorem replaceEntry_monitor : (s.replaceEntry e).monitor = s.monitor := (replaceEntry_frame s e).2.2.2.2.2.2.2.2.2.2.2.2.1
@[simp] theorem replaceEntry_port : (s.replaceEntry e).port = s.port := (replaceEntry_frame s e).2.2.2.2.2.2.2.2.2.2.2.2.2.1
@[simp] theorem replaceEntry_alert : (s.replaceEntry e).alert = s.alert := (replaceEntry_frame s e).2.2.2.2.2.2.2.2.2.2.2.2.2.2.1
@[simp] theorem replaceEntry_pending : (s.replaceEntry e).pending = s.pending := (replaceEntry_frame s e).2.2.2.2.2.2.2.2.2.2.2.2.2.2.2
end

section
variable (s : State) (e : Entry)
theorem complete_frame :
    (s.complete e).inReset = s.inReset ∧
    (s.complete e).guards = s.guards ∧
    (s.complete e).streams = s.streams ∧
    (s.complete e).translating = s.translating ∧
    (s.complete e).writePath = s.writePath ∧
    (s.complete e).levels = s.levels ∧
    (s.complete e).pickup = s.pickup ∧
    (s.complete e).laser = s.laser ∧
    (s.complete e).monitor = s.monitor ∧
    (s.complete e).port = s.port ∧
    (s.complete e).pending = s.pending := by
  simp [State.complete]
@[simp] theorem complete_inReset : (s.complete e).inReset = s.inReset := (complete_frame s e).1
@[simp] theorem complete_guards : (s.complete e).guards = s.guards := (complete_frame s e).2.1
@[simp] theorem complete_streams : (s.complete e).streams = s.streams := (complete_frame s e).2.2.1
@[simp] theorem complete_translating : (s.complete e).translating = s.translating := (complete_frame s e).2.2.2.1
@[simp] theorem complete_writePath : (s.complete e).writePath = s.writePath := (complete_frame s e).2.2.2.2.1
@[simp] theorem complete_levels : (s.complete e).levels = s.levels := (complete_frame s e).2.2.2.2.2.1
@[simp] theorem complete_pickup : (s.complete e).pickup = s.pickup := (complete_frame s e).2.2.2.2.2.2.1
@[simp] theorem complete_laser : (s.complete e).laser = s.laser := (complete_frame s e).2.2.2.2.2.2.2.1
@[simp] theorem complete_monitor : (s.complete e).monitor = s.monitor := (complete_frame s e).2.2.2.2.2.2.2.2.1
@[simp] theorem complete_port : (s.complete e).port = s.port := (complete_frame s e).2.2.2.2.2.2.2.2.2.1
@[simp] theorem complete_pending : (s.complete e).pending = s.pending := (complete_frame s e).2.2.2.2.2.2.2.2.2.2
end

section
variable (s : State) (is : List ZoneSlot)
theorem pins_frame :
    (is.foldl State.pin s).inReset = s.inReset ∧
    (is.foldl State.pin s).strategies = s.strategies ∧
    (is.foldl State.pin s).guards = s.guards ∧
    (is.foldl State.pin s).streams = s.streams ∧
    (is.foldl State.pin s).queue = s.queue ∧
    (is.foldl State.pin s).translating = s.translating ∧
    (is.foldl State.pin s).link = s.link ∧
    (is.foldl State.pin s).gate = s.gate ∧
    (is.foldl State.pin s).writePath = s.writePath ∧
    (is.foldl State.pin s).levels = s.levels ∧
    (is.foldl State.pin s).pickup = s.pickup ∧
    (is.foldl State.pin s).laser = s.laser ∧
    (is.foldl State.pin s).monitor = s.monitor ∧
    (is.foldl State.pin s).port = s.port ∧
    (is.foldl State.pin s).alert = s.alert ∧
    (is.foldl State.pin s).pending = s.pending := by
  induction is generalizing s with
  | nil => simp
  | cons i is ih => simp only [List.foldl_cons, ih, pin_frame, and_self]
@[simp] theorem pins_inReset : (is.foldl State.pin s).inReset = s.inReset := (pins_frame s is).1
@[simp] theorem pins_strategies : (is.foldl State.pin s).strategies = s.strategies := (pins_frame s is).2.1
@[simp] theorem pins_guards : (is.foldl State.pin s).guards = s.guards := (pins_frame s is).2.2.1
@[simp] theorem pins_streams : (is.foldl State.pin s).streams = s.streams := (pins_frame s is).2.2.2.1
@[simp] theorem pins_queue : (is.foldl State.pin s).queue = s.queue := (pins_frame s is).2.2.2.2.1
@[simp] theorem pins_translating : (is.foldl State.pin s).translating = s.translating := (pins_frame s is).2.2.2.2.2.1
@[simp] theorem pins_link : (is.foldl State.pin s).link = s.link := (pins_frame s is).2.2.2.2.2.2.1
@[simp] theorem pins_gate : (is.foldl State.pin s).gate = s.gate := (pins_frame s is).2.2.2.2.2.2.2.1
@[simp] theorem pins_writePath : (is.foldl State.pin s).writePath = s.writePath := (pins_frame s is).2.2.2.2.2.2.2.2.1
@[simp] theorem pins_levels : (is.foldl State.pin s).levels = s.levels := (pins_frame s is).2.2.2.2.2.2.2.2.2.1
@[simp] theorem pins_pickup : (is.foldl State.pin s).pickup = s.pickup := (pins_frame s is).2.2.2.2.2.2.2.2.2.2.1
@[simp] theorem pins_laser : (is.foldl State.pin s).laser = s.laser := (pins_frame s is).2.2.2.2.2.2.2.2.2.2.2.1
@[simp] theorem pins_monitor : (is.foldl State.pin s).monitor = s.monitor := (pins_frame s is).2.2.2.2.2.2.2.2.2.2.2.2.1
@[simp] theorem pins_port : (is.foldl State.pin s).port = s.port := (pins_frame s is).2.2.2.2.2.2.2.2.2.2.2.2.2.1
@[simp] theorem pins_alert : (is.foldl State.pin s).alert = s.alert := (pins_frame s is).2.2.2.2.2.2.2.2.2.2.2.2.2.2.1
@[simp] theorem pins_pending : (is.foldl State.pin s).pending = s.pending := (pins_frame s is).2.2.2.2.2.2.2.2.2.2.2.2.2.2.2
end

section
variable (s : State) (e : Entry) (t : Translated)
theorem acceptEntry_frame :
    (s.acceptEntry e t).inReset = s.inReset ∧
    (s.acceptEntry e t).guards = s.guards ∧
    (s.acceptEntry e t).streams = s.streams ∧
    (s.acceptEntry e t).translating = s.translating ∧
    (s.acceptEntry e t).writePath = s.writePath ∧
    (s.acceptEntry e t).levels = s.levels ∧
    (s.acceptEntry e t).pickup = s.pickup ∧
    (s.acceptEntry e t).laser = s.laser ∧
    (s.acceptEntry e t).monitor = s.monitor ∧
    (s.acceptEntry e t).port = s.port ∧
    (s.acceptEntry e t).pending = s.pending := by
  simp only [State.acceptEntry]
  (repeat' split) <;> simp
@[simp] theorem acceptEntry_inReset : (s.acceptEntry e t).inReset = s.inReset := (acceptEntry_frame s e t).1
@[simp] theorem acceptEntry_guards : (s.acceptEntry e t).guards = s.guards := (acceptEntry_frame s e t).2.1
@[simp] theorem acceptEntry_streams : (s.acceptEntry e t).streams = s.streams := (acceptEntry_frame s e t).2.2.1
@[simp] theorem acceptEntry_translating : (s.acceptEntry e t).translating = s.translating := (acceptEntry_frame s e t).2.2.2.1
@[simp] theorem acceptEntry_writePath : (s.acceptEntry e t).writePath = s.writePath := (acceptEntry_frame s e t).2.2.2.2.1
@[simp] theorem acceptEntry_levels : (s.acceptEntry e t).levels = s.levels := (acceptEntry_frame s e t).2.2.2.2.2.1
@[simp] theorem acceptEntry_pickup : (s.acceptEntry e t).pickup = s.pickup := (acceptEntry_frame s e t).2.2.2.2.2.2.1
@[simp] theorem acceptEntry_laser : (s.acceptEntry e t).laser = s.laser := (acceptEntry_frame s e t).2.2.2.2.2.2.2.1
@[simp] theorem acceptEntry_monitor : (s.acceptEntry e t).monitor = s.monitor := (acceptEntry_frame s e t).2.2.2.2.2.2.2.2.1
@[simp] theorem acceptEntry_port : (s.acceptEntry e t).port = s.port := (acceptEntry_frame s e t).2.2.2.2.2.2.2.2.2.1
@[simp] theorem acceptEntry_pending : (s.acceptEntry e t).pending = s.pending := (acceptEntry_frame s e t).2.2.2.2.2.2.2.2.2.2
end

section
variable (s : State) (e : Entry)
theorem completeTranslation_frame :
    (s.completeTranslation e).inReset = s.inReset ∧
    (s.completeTranslation e).guards = s.guards ∧
    (s.completeTranslation e).streams = s.streams ∧
    (s.completeTranslation e).writePath = s.writePath ∧
    (s.completeTranslation e).laser = s.laser ∧
    (s.completeTranslation e).monitor = s.monitor ∧
    (s.completeTranslation e).port = s.port ∧
    (s.completeTranslation e).pending = s.pending := by
  unfold State.completeTranslation
  (repeat' split) <;> simp
@[simp] theorem completeTranslation_inReset : (s.completeTranslation e).inReset = s.inReset := (completeTranslation_frame s e).1
@[simp] theorem completeTranslation_guards : (s.completeTranslation e).guards = s.guards := (completeTranslation_frame s e).2.1
@[simp] theorem completeTranslation_streams : (s.completeTranslation e).streams = s.streams := (completeTranslation_frame s e).2.2.1
@[simp] theorem completeTranslation_writePath : (s.completeTranslation e).writePath = s.writePath := (completeTranslation_frame s e).2.2.2.1
@[simp] theorem completeTranslation_laser : (s.completeTranslation e).laser = s.laser := (completeTranslation_frame s e).2.2.2.2.1
@[simp] theorem completeTranslation_monitor : (s.completeTranslation e).monitor = s.monitor := (completeTranslation_frame s e).2.2.2.2.2.1
@[simp] theorem completeTranslation_port : (s.completeTranslation e).port = s.port := (completeTranslation_frame s e).2.2.2.2.2.2.1
@[simp] theorem completeTranslation_pending : (s.completeTranslation e).pending = s.pending := (completeTranslation_frame s e).2.2.2.2.2.2.2
end

section
variable (s : State) (e : Entry) (k : SkipReason)
theorem skipBlock_frame :
    (s.skipBlock e k).inReset = s.inReset ∧
    (s.skipBlock e k).zones = s.zones ∧
    (s.skipBlock e k).strategies = s.strategies ∧
    (s.skipBlock e k).guards = s.guards ∧
    (s.skipBlock e k).translating = s.translating ∧
    (s.skipBlock e k).writePath = s.writePath ∧
    (s.skipBlock e k).levels = s.levels ∧
    (s.skipBlock e k).pickup = s.pickup ∧
    (s.skipBlock e k).laser = s.laser ∧
    (s.skipBlock e k).monitor = s.monitor ∧
    (s.skipBlock e k).port = s.port ∧
    (s.skipBlock e k).pending = s.pending := by
  simp [State.skipBlock]
@[simp] theorem skipBlock_inReset : (s.skipBlock e k).inReset = s.inReset := (skipBlock_frame s e k).1
@[simp] theorem skipBlock_zones : (s.skipBlock e k).zones = s.zones := (skipBlock_frame s e k).2.1
@[simp] theorem skipBlock_strategies : (s.skipBlock e k).strategies = s.strategies := (skipBlock_frame s e k).2.2.1
@[simp] theorem skipBlock_guards : (s.skipBlock e k).guards = s.guards := (skipBlock_frame s e k).2.2.2.1
@[simp] theorem skipBlock_translating : (s.skipBlock e k).translating = s.translating := (skipBlock_frame s e k).2.2.2.2.1
@[simp] theorem skipBlock_writePath : (s.skipBlock e k).writePath = s.writePath := (skipBlock_frame s e k).2.2.2.2.2.1
@[simp] theorem skipBlock_levels : (s.skipBlock e k).levels = s.levels := (skipBlock_frame s e k).2.2.2.2.2.2.1
@[simp] theorem skipBlock_pickup : (s.skipBlock e k).pickup = s.pickup := (skipBlock_frame s e k).2.2.2.2.2.2.2.1
@[simp] theorem skipBlock_laser : (s.skipBlock e k).laser = s.laser := (skipBlock_frame s e k).2.2.2.2.2.2.2.2.1
@[simp] theorem skipBlock_monitor : (s.skipBlock e k).monitor = s.monitor := (skipBlock_frame s e k).2.2.2.2.2.2.2.2.2.1
@[simp] theorem skipBlock_port : (s.skipBlock e k).port = s.port := (skipBlock_frame s e k).2.2.2.2.2.2.2.2.2.2.1
@[simp] theorem skipBlock_pending : (s.skipBlock e k).pending = s.pending := (skipBlock_frame s e k).2.2.2.2.2.2.2.2.2.2.2
end

section
variable (s : State) (w : WritePath)
theorem driveWrite_frame :
    (s.driveWrite w).inReset = s.inReset ∧
    (s.driveWrite w).zones = s.zones ∧
    (s.driveWrite w).strategies = s.strategies ∧
    (s.driveWrite w).guards = s.guards ∧
    (s.driveWrite w).streams = s.streams ∧
    (s.driveWrite w).queue = s.queue ∧
    (s.driveWrite w).translating = s.translating ∧
    (s.driveWrite w).link = s.link ∧
    (s.driveWrite w).gate = s.gate ∧
    (s.driveWrite w).levels = s.levels ∧
    (s.driveWrite w).pickup = s.pickup ∧
    (s.driveWrite w).monitor = s.monitor ∧
    (s.driveWrite w).port = s.port ∧
    (s.driveWrite w).alert = s.alert ∧
    (s.driveWrite w).pending = s.pending := by
  simp [State.driveWrite]
@[simp] theorem driveWrite_inReset : (s.driveWrite w).inReset = s.inReset := (driveWrite_frame s w).1
@[simp] theorem driveWrite_zones : (s.driveWrite w).zones = s.zones := (driveWrite_frame s w).2.1
@[simp] theorem driveWrite_strategies : (s.driveWrite w).strategies = s.strategies := (driveWrite_frame s w).2.2.1
@[simp] theorem driveWrite_guards : (s.driveWrite w).guards = s.guards := (driveWrite_frame s w).2.2.2.1
@[simp] theorem driveWrite_streams : (s.driveWrite w).streams = s.streams := (driveWrite_frame s w).2.2.2.2.1
@[simp] theorem driveWrite_queue : (s.driveWrite w).queue = s.queue := (driveWrite_frame s w).2.2.2.2.2.1
@[simp] theorem driveWrite_translating : (s.driveWrite w).translating = s.translating := (driveWrite_frame s w).2.2.2.2.2.2.1
@[simp] theorem driveWrite_link : (s.driveWrite w).link = s.link := (driveWrite_frame s w).2.2.2.2.2.2.2.1
@[simp] theorem driveWrite_gate : (s.driveWrite w).gate = s.gate := (driveWrite_frame s w).2.2.2.2.2.2.2.2.1
@[simp] theorem driveWrite_levels : (s.driveWrite w).levels = s.levels := (driveWrite_frame s w).2.2.2.2.2.2.2.2.2.1
@[simp] theorem driveWrite_pickup : (s.driveWrite w).pickup = s.pickup := (driveWrite_frame s w).2.2.2.2.2.2.2.2.2.2.1
@[simp] theorem driveWrite_monitor : (s.driveWrite w).monitor = s.monitor := (driveWrite_frame s w).2.2.2.2.2.2.2.2.2.2.2.1
@[simp] theorem driveWrite_port : (s.driveWrite w).port = s.port := (driveWrite_frame s w).2.2.2.2.2.2.2.2.2.2.2.2.1
@[simp] theorem driveWrite_alert : (s.driveWrite w).alert = s.alert := (driveWrite_frame s w).2.2.2.2.2.2.2.2.2.2.2.2.2.1
@[simp] theorem driveWrite_pending : (s.driveWrite w).pending = s.pending := (driveWrite_frame s w).2.2.2.2.2.2.2.2.2.2.2.2.2.2
end

section
variable (s : State)
theorem startReading_frame :
    (s.startReading).inReset = s.inReset ∧
    (s.startReading).zones = s.zones ∧
    (s.startReading).strategies = s.strategies ∧
    (s.startReading).guards = s.guards ∧
    (s.startReading).streams = s.streams ∧
    (s.startReading).queue = s.queue ∧
    (s.startReading).translating = s.translating ∧
    (s.startReading).link = s.link ∧
    (s.startReading).gate = s.gate ∧
    (s.startReading).writePath = s.writePath ∧
    (s.startReading).levels = s.levels ∧
    (s.startReading).pickup = s.pickup ∧
    (s.startReading).monitor = s.monitor ∧
    (s.startReading).port = s.port ∧
    (s.startReading).pending = s.pending := by
  simp [State.startReading]
@[simp] theorem startReading_inReset : (s.startReading).inReset = s.inReset := (startReading_frame s).1
@[simp] theorem startReading_zones : (s.startReading).zones = s.zones := (startReading_frame s).2.1
@[simp] theorem startReading_strategies : (s.startReading).strategies = s.strategies := (startReading_frame s).2.2.1
@[simp] theorem startReading_guards : (s.startReading).guards = s.guards := (startReading_frame s).2.2.2.1
@[simp] theorem startReading_streams : (s.startReading).streams = s.streams := (startReading_frame s).2.2.2.2.1
@[simp] theorem startReading_queue : (s.startReading).queue = s.queue := (startReading_frame s).2.2.2.2.2.1
@[simp] theorem startReading_translating : (s.startReading).translating = s.translating := (startReading_frame s).2.2.2.2.2.2.1
@[simp] theorem startReading_link : (s.startReading).link = s.link := (startReading_frame s).2.2.2.2.2.2.2.1
@[simp] theorem startReading_gate : (s.startReading).gate = s.gate := (startReading_frame s).2.2.2.2.2.2.2.2.1
@[simp] theorem startReading_writePath : (s.startReading).writePath = s.writePath := (startReading_frame s).2.2.2.2.2.2.2.2.2.1
@[simp] theorem startReading_levels : (s.startReading).levels = s.levels := (startReading_frame s).2.2.2.2.2.2.2.2.2.2.1
@[simp] theorem startReading_pickup : (s.startReading).pickup = s.pickup := (startReading_frame s).2.2.2.2.2.2.2.2.2.2.2.1
@[simp] theorem startReading_monitor : (s.startReading).monitor = s.monitor := (startReading_frame s).2.2.2.2.2.2.2.2.2.2.2.2.1
@[simp] theorem startReading_port : (s.startReading).port = s.port := (startReading_frame s).2.2.2.2.2.2.2.2.2.2.2.2.2.1
@[simp] theorem startReading_pending : (s.startReading).pending = s.pending := (startReading_frame s).2.2.2.2.2.2.2.2.2.2.2.2.2.2
end

section
variable (s : State) (k : Option ZoneSlot)
theorem markWritten_frame :
    (s.markWritten k).inReset = s.inReset ∧
    (s.markWritten k).strategies = s.strategies ∧
    (s.markWritten k).guards = s.guards ∧
    (s.markWritten k).streams = s.streams ∧
    (s.markWritten k).queue = s.queue ∧
    (s.markWritten k).translating = s.translating ∧
    (s.markWritten k).link = s.link ∧
    (s.markWritten k).gate = s.gate ∧
    (s.markWritten k).writePath = s.writePath ∧
    (s.markWritten k).levels = s.levels ∧
    (s.markWritten k).pickup = s.pickup ∧
    (s.markWritten k).laser = s.laser ∧
    (s.markWritten k).monitor = s.monitor ∧
    (s.markWritten k).port = s.port ∧
    (s.markWritten k).alert = s.alert ∧
    (s.markWritten k).pending = s.pending := by
  unfold State.markWritten
  (repeat' split) <;> simp
@[simp] theorem markWritten_inReset : (s.markWritten k).inReset = s.inReset := (markWritten_frame s k).1
@[simp] theorem markWritten_strategies : (s.markWritten k).strategies = s.strategies := (markWritten_frame s k).2.1
@[simp] theorem markWritten_guards : (s.markWritten k).guards = s.guards := (markWritten_frame s k).2.2.1
@[simp] theorem markWritten_streams : (s.markWritten k).streams = s.streams := (markWritten_frame s k).2.2.2.1
@[simp] theorem markWritten_queue : (s.markWritten k).queue = s.queue := (markWritten_frame s k).2.2.2.2.1
@[simp] theorem markWritten_translating : (s.markWritten k).translating = s.translating := (markWritten_frame s k).2.2.2.2.2.1
@[simp] theorem markWritten_link : (s.markWritten k).link = s.link := (markWritten_frame s k).2.2.2.2.2.2.1
@[simp] theorem markWritten_gate : (s.markWritten k).gate = s.gate := (markWritten_frame s k).2.2.2.2.2.2.2.1
@[simp] theorem markWritten_writePath : (s.markWritten k).writePath = s.writePath := (markWritten_frame s k).2.2.2.2.2.2.2.2.1
@[simp] theorem markWritten_levels : (s.markWritten k).levels = s.levels := (markWritten_frame s k).2.2.2.2.2.2.2.2.2.1
@[simp] theorem markWritten_pickup : (s.markWritten k).pickup = s.pickup := (markWritten_frame s k).2.2.2.2.2.2.2.2.2.2.1
@[simp] theorem markWritten_laser : (s.markWritten k).laser = s.laser := (markWritten_frame s k).2.2.2.2.2.2.2.2.2.2.2.1
@[simp] theorem markWritten_monitor : (s.markWritten k).monitor = s.monitor := (markWritten_frame s k).2.2.2.2.2.2.2.2.2.2.2.2.1
@[simp] theorem markWritten_port : (s.markWritten k).port = s.port := (markWritten_frame s k).2.2.2.2.2.2.2.2.2.2.2.2.2.1
@[simp] theorem markWritten_alert : (s.markWritten k).alert = s.alert := (markWritten_frame s k).2.2.2.2.2.2.2.2.2.2.2.2.2.2.1
@[simp] theorem markWritten_pending : (s.markWritten k).pending = s.pending := (markWritten_frame s k).2.2.2.2.2.2.2.2.2.2.2.2.2.2.2
end

section
variable (s : State) (k : Option ZoneSlot) (w : WriteLevels)
theorem startWriting_frame :
    (s.startWriting k w).inReset = s.inReset ∧
    (s.startWriting k w).strategies = s.strategies ∧
    (s.startWriting k w).guards = s.guards ∧
    (s.startWriting k w).streams = s.streams ∧
    (s.startWriting k w).queue = s.queue ∧
    (s.startWriting k w).translating = s.translating ∧
    (s.startWriting k w).link = s.link ∧
    (s.startWriting k w).gate = s.gate ∧
    (s.startWriting k w).levels = s.levels ∧
    (s.startWriting k w).pickup = s.pickup ∧
    (s.startWriting k w).monitor = s.monitor ∧
    (s.startWriting k w).port = s.port ∧
    (s.startWriting k w).alert = s.alert ∧
    (s.startWriting k w).pending = s.pending := by
  simp [State.startWriting]
@[simp] theorem startWriting_inReset : (s.startWriting k w).inReset = s.inReset := (startWriting_frame s k w).1
@[simp] theorem startWriting_strategies : (s.startWriting k w).strategies = s.strategies := (startWriting_frame s k w).2.1
@[simp] theorem startWriting_guards : (s.startWriting k w).guards = s.guards := (startWriting_frame s k w).2.2.1
@[simp] theorem startWriting_streams : (s.startWriting k w).streams = s.streams := (startWriting_frame s k w).2.2.2.1
@[simp] theorem startWriting_queue : (s.startWriting k w).queue = s.queue := (startWriting_frame s k w).2.2.2.2.1
@[simp] theorem startWriting_translating : (s.startWriting k w).translating = s.translating := (startWriting_frame s k w).2.2.2.2.2.1
@[simp] theorem startWriting_link : (s.startWriting k w).link = s.link := (startWriting_frame s k w).2.2.2.2.2.2.1
@[simp] theorem startWriting_gate : (s.startWriting k w).gate = s.gate := (startWriting_frame s k w).2.2.2.2.2.2.2.1
@[simp] theorem startWriting_levels : (s.startWriting k w).levels = s.levels := (startWriting_frame s k w).2.2.2.2.2.2.2.2.1
@[simp] theorem startWriting_pickup : (s.startWriting k w).pickup = s.pickup := (startWriting_frame s k w).2.2.2.2.2.2.2.2.2.1
@[simp] theorem startWriting_monitor : (s.startWriting k w).monitor = s.monitor := (startWriting_frame s k w).2.2.2.2.2.2.2.2.2.2.1
@[simp] theorem startWriting_port : (s.startWriting k w).port = s.port := (startWriting_frame s k w).2.2.2.2.2.2.2.2.2.2.2.1
@[simp] theorem startWriting_alert : (s.startWriting k w).alert = s.alert := (startWriting_frame s k w).2.2.2.2.2.2.2.2.2.2.2.2.1
@[simp] theorem startWriting_pending : (s.startWriting k w).pending = s.pending := (startWriting_frame s k w).2.2.2.2.2.2.2.2.2.2.2.2.2
end

section
variable (s : State) (e : Entry) (k : LevelSet)
theorem serveBlock_frame :
    (s.serveBlock e k).inReset = s.inReset ∧
    (s.serveBlock e k).strategies = s.strategies ∧
    (s.serveBlock e k).guards = s.guards ∧
    (s.serveBlock e k).translating = s.translating ∧
    (s.serveBlock e k).pickup = s.pickup ∧
    (s.serveBlock e k).port = s.port ∧
    (s.serveBlock e k).pending = s.pending := by
  simp only [State.serveBlock]
  (repeat' split) <;> simp
@[simp] theorem serveBlock_inReset : (s.serveBlock e k).inReset = s.inReset := (serveBlock_frame s e k).1
@[simp] theorem serveBlock_strategies : (s.serveBlock e k).strategies = s.strategies := (serveBlock_frame s e k).2.1
@[simp] theorem serveBlock_guards : (s.serveBlock e k).guards = s.guards := (serveBlock_frame s e k).2.2.1
@[simp] theorem serveBlock_translating : (s.serveBlock e k).translating = s.translating := (serveBlock_frame s e k).2.2.2.1
@[simp] theorem serveBlock_pickup : (s.serveBlock e k).pickup = s.pickup := (serveBlock_frame s e k).2.2.2.2.1
@[simp] theorem serveBlock_port : (s.serveBlock e k).port = s.port := (serveBlock_frame s e k).2.2.2.2.2.1
@[simp] theorem serveBlock_pending : (s.serveBlock e k).pending = s.pending := (serveBlock_frame s e k).2.2.2.2.2.2
end

section
variable (s : State) (e : Entry)
theorem riseOn_frame :
    (s.riseOn e).inReset = s.inReset ∧
    (s.riseOn e).strategies = s.strategies ∧
    (s.riseOn e).guards = s.guards ∧
    (s.riseOn e).translating = s.translating ∧
    (s.riseOn e).pickup = s.pickup ∧
    (s.riseOn e).port = s.port ∧
    (s.riseOn e).pending = s.pending := by
  unfold State.riseOn
  (repeat' split) <;> simp
@[simp] theorem riseOn_inReset : (s.riseOn e).inReset = s.inReset := (riseOn_frame s e).1
@[simp] theorem riseOn_strategies : (s.riseOn e).strategies = s.strategies := (riseOn_frame s e).2.1
@[simp] theorem riseOn_guards : (s.riseOn e).guards = s.guards := (riseOn_frame s e).2.2.1
@[simp] theorem riseOn_translating : (s.riseOn e).translating = s.translating := (riseOn_frame s e).2.2.2.1
@[simp] theorem riseOn_pickup : (s.riseOn e).pickup = s.pickup := (riseOn_frame s e).2.2.2.2.1
@[simp] theorem riseOn_port : (s.riseOn e).port = s.port := (riseOn_frame s e).2.2.2.2.2.1
@[simp] theorem riseOn_pending : (s.riseOn e).pending = s.pending := (riseOn_frame s e).2.2.2.2.2.2
end

section
variable (s : State)
theorem riseEmpty_frame :
    (s.riseEmpty).inReset = s.inReset ∧
    (s.riseEmpty).zones = s.zones ∧
    (s.riseEmpty).strategies = s.strategies ∧
    (s.riseEmpty).guards = s.guards ∧
    (s.riseEmpty).streams = s.streams ∧
    (s.riseEmpty).queue = s.queue ∧
    (s.riseEmpty).translating = s.translating ∧
    (s.riseEmpty).writePath = s.writePath ∧
    (s.riseEmpty).pickup = s.pickup ∧
    (s.riseEmpty).laser = s.laser ∧
    (s.riseEmpty).monitor = s.monitor ∧
    (s.riseEmpty).port = s.port ∧
    (s.riseEmpty).pending = s.pending := by
  simp [State.riseEmpty]
@[simp] theorem riseEmpty_inReset : (s.riseEmpty).inReset = s.inReset := (riseEmpty_frame s).1
@[simp] theorem riseEmpty_zones : (s.riseEmpty).zones = s.zones := (riseEmpty_frame s).2.1
@[simp] theorem riseEmpty_strategies : (s.riseEmpty).strategies = s.strategies := (riseEmpty_frame s).2.2.1
@[simp] theorem riseEmpty_guards : (s.riseEmpty).guards = s.guards := (riseEmpty_frame s).2.2.2.1
@[simp] theorem riseEmpty_streams : (s.riseEmpty).streams = s.streams := (riseEmpty_frame s).2.2.2.2.1
@[simp] theorem riseEmpty_queue : (s.riseEmpty).queue = s.queue := (riseEmpty_frame s).2.2.2.2.2.1
@[simp] theorem riseEmpty_translating : (s.riseEmpty).translating = s.translating := (riseEmpty_frame s).2.2.2.2.2.2.1
@[simp] theorem riseEmpty_writePath : (s.riseEmpty).writePath = s.writePath := (riseEmpty_frame s).2.2.2.2.2.2.2.1
@[simp] theorem riseEmpty_pickup : (s.riseEmpty).pickup = s.pickup := (riseEmpty_frame s).2.2.2.2.2.2.2.2.1
@[simp] theorem riseEmpty_laser : (s.riseEmpty).laser = s.laser := (riseEmpty_frame s).2.2.2.2.2.2.2.2.2.1
@[simp] theorem riseEmpty_monitor : (s.riseEmpty).monitor = s.monitor := (riseEmpty_frame s).2.2.2.2.2.2.2.2.2.2.1
@[simp] theorem riseEmpty_port : (s.riseEmpty).port = s.port := (riseEmpty_frame s).2.2.2.2.2.2.2.2.2.2.2.1
@[simp] theorem riseEmpty_pending : (s.riseEmpty).pending = s.pending := (riseEmpty_frame s).2.2.2.2.2.2.2.2.2.2.2.2
end

section
variable (s : State) (e : Entry)
theorem removeDeferred_frame :
    (s.removeDeferred e).inReset = s.inReset ∧
    (s.removeDeferred e).guards = s.guards ∧
    (s.removeDeferred e).streams = s.streams ∧
    (s.removeDeferred e).translating = s.translating ∧
    (s.removeDeferred e).link = s.link ∧
    (s.removeDeferred e).gate = s.gate ∧
    (s.removeDeferred e).writePath = s.writePath ∧
    (s.removeDeferred e).levels = s.levels ∧
    (s.removeDeferred e).pickup = s.pickup ∧
    (s.removeDeferred e).laser = s.laser ∧
    (s.removeDeferred e).monitor = s.monitor ∧
    (s.removeDeferred e).port = s.port ∧
    (s.removeDeferred e).pending = s.pending := by
  simp [State.removeDeferred]
@[simp] theorem removeDeferred_inReset : (s.removeDeferred e).inReset = s.inReset := (removeDeferred_frame s e).1
@[simp] theorem removeDeferred_guards : (s.removeDeferred e).guards = s.guards := (removeDeferred_frame s e).2.1
@[simp] theorem removeDeferred_streams : (s.removeDeferred e).streams = s.streams := (removeDeferred_frame s e).2.2.1
@[simp] theorem removeDeferred_translating : (s.removeDeferred e).translating = s.translating := (removeDeferred_frame s e).2.2.2.1
@[simp] theorem removeDeferred_link : (s.removeDeferred e).link = s.link := (removeDeferred_frame s e).2.2.2.2.1
@[simp] theorem removeDeferred_gate : (s.removeDeferred e).gate = s.gate := (removeDeferred_frame s e).2.2.2.2.2.1
@[simp] theorem removeDeferred_writePath : (s.removeDeferred e).writePath = s.writePath := (removeDeferred_frame s e).2.2.2.2.2.2.1
@[simp] theorem removeDeferred_levels : (s.removeDeferred e).levels = s.levels := (removeDeferred_frame s e).2.2.2.2.2.2.2.1
@[simp] theorem removeDeferred_pickup : (s.removeDeferred e).pickup = s.pickup := (removeDeferred_frame s e).2.2.2.2.2.2.2.2.1
@[simp] theorem removeDeferred_laser : (s.removeDeferred e).laser = s.laser := (removeDeferred_frame s e).2.2.2.2.2.2.2.2.2.1
@[simp] theorem removeDeferred_monitor : (s.removeDeferred e).monitor = s.monitor := (removeDeferred_frame s e).2.2.2.2.2.2.2.2.2.2.1
@[simp] theorem removeDeferred_port : (s.removeDeferred e).port = s.port := (removeDeferred_frame s e).2.2.2.2.2.2.2.2.2.2.2.1
@[simp] theorem removeDeferred_pending : (s.removeDeferred e).pending = s.pending := (removeDeferred_frame s e).2.2.2.2.2.2.2.2.2.2.2.2
end

section
variable (s : State) (e : Entry) (k : Bool)
theorem endEntry_frame :
    (s.endEntry e k).inReset = s.inReset ∧
    (s.endEntry e k).guards = s.guards ∧
    (s.endEntry e k).streams = s.streams ∧
    (s.endEntry e k).translating = s.translating ∧
    (s.endEntry e k).writePath = s.writePath ∧
    (s.endEntry e k).levels = s.levels ∧
    (s.endEntry e k).pickup = s.pickup ∧
    (s.endEntry e k).laser = s.laser ∧
    (s.endEntry e k).monitor = s.monitor ∧
    (s.endEntry e k).port = s.port ∧
    (s.endEntry e k).pending = s.pending := by
  unfold State.endEntry
  (repeat' split) <;> simp
@[simp] theorem endEntry_inReset : (s.endEntry e k).inReset = s.inReset := (endEntry_frame s e k).1
@[simp] theorem endEntry_guards : (s.endEntry e k).guards = s.guards := (endEntry_frame s e k).2.1
@[simp] theorem endEntry_streams : (s.endEntry e k).streams = s.streams := (endEntry_frame s e k).2.2.1
@[simp] theorem endEntry_translating : (s.endEntry e k).translating = s.translating := (endEntry_frame s e k).2.2.2.1
@[simp] theorem endEntry_writePath : (s.endEntry e k).writePath = s.writePath := (endEntry_frame s e k).2.2.2.2.1
@[simp] theorem endEntry_levels : (s.endEntry e k).levels = s.levels := (endEntry_frame s e k).2.2.2.2.2.1
@[simp] theorem endEntry_pickup : (s.endEntry e k).pickup = s.pickup := (endEntry_frame s e k).2.2.2.2.2.2.1
@[simp] theorem endEntry_laser : (s.endEntry e k).laser = s.laser := (endEntry_frame s e k).2.2.2.2.2.2.2.1
@[simp] theorem endEntry_monitor : (s.endEntry e k).monitor = s.monitor := (endEntry_frame s e k).2.2.2.2.2.2.2.2.1
@[simp] theorem endEntry_port : (s.endEntry e k).port = s.port := (endEntry_frame s e k).2.2.2.2.2.2.2.2.2.1
@[simp] theorem endEntry_pending : (s.endEntry e k).pending = s.pending := (endEntry_frame s e k).2.2.2.2.2.2.2.2.2.2
end

section
variable (s : State)
theorem returnToIdle_frame :
    (s.returnToIdle).inReset = s.inReset ∧
    (s.returnToIdle).zones = s.zones ∧
    (s.returnToIdle).strategies = s.strategies ∧
    (s.returnToIdle).guards = s.guards ∧
    (s.returnToIdle).streams = s.streams ∧
    (s.returnToIdle).queue = s.queue ∧
    (s.returnToIdle).translating = s.translating ∧
    (s.returnToIdle).link = s.link ∧
    (s.returnToIdle).gate = s.gate ∧
    (s.returnToIdle).levels = s.levels ∧
    (s.returnToIdle).pickup = s.pickup ∧
    (s.returnToIdle).port = s.port ∧
    (s.returnToIdle).pending = s.pending := by
  unfold State.returnToIdle
  (repeat' split) <;> simp
@[simp] theorem returnToIdle_inReset : (s.returnToIdle).inReset = s.inReset := (returnToIdle_frame s).1
@[simp] theorem returnToIdle_zones : (s.returnToIdle).zones = s.zones := (returnToIdle_frame s).2.1
@[simp] theorem returnToIdle_strategies : (s.returnToIdle).strategies = s.strategies := (returnToIdle_frame s).2.2.1
@[simp] theorem returnToIdle_guards : (s.returnToIdle).guards = s.guards := (returnToIdle_frame s).2.2.2.1
@[simp] theorem returnToIdle_streams : (s.returnToIdle).streams = s.streams := (returnToIdle_frame s).2.2.2.2.1
@[simp] theorem returnToIdle_queue : (s.returnToIdle).queue = s.queue := (returnToIdle_frame s).2.2.2.2.2.1
@[simp] theorem returnToIdle_translating : (s.returnToIdle).translating = s.translating := (returnToIdle_frame s).2.2.2.2.2.2.1
@[simp] theorem returnToIdle_link : (s.returnToIdle).link = s.link := (returnToIdle_frame s).2.2.2.2.2.2.2.1
@[simp] theorem returnToIdle_gate : (s.returnToIdle).gate = s.gate := (returnToIdle_frame s).2.2.2.2.2.2.2.2.1
@[simp] theorem returnToIdle_levels : (s.returnToIdle).levels = s.levels := (returnToIdle_frame s).2.2.2.2.2.2.2.2.2.1
@[simp] theorem returnToIdle_pickup : (s.returnToIdle).pickup = s.pickup := (returnToIdle_frame s).2.2.2.2.2.2.2.2.2.2.1
@[simp] theorem returnToIdle_port : (s.returnToIdle).port = s.port := (returnToIdle_frame s).2.2.2.2.2.2.2.2.2.2.2.1
@[simp] theorem returnToIdle_pending : (s.returnToIdle).pending = s.pending := (returnToIdle_frame s).2.2.2.2.2.2.2.2.2.2.2.2
end

section
variable (s : State) (r : BlockRecord)
theorem fallOn_frame :
    (s.fallOn r).inReset = s.inReset ∧
    (s.fallOn r).guards = s.guards ∧
    (s.fallOn r).streams = s.streams ∧
    (s.fallOn r).port = s.port ∧
    (s.fallOn r).pending = s.pending := by
  simp only [State.fallOn]
  (repeat' split) <;> simp
@[simp] theorem fallOn_inReset : (s.fallOn r).inReset = s.inReset := (fallOn_frame s r).1
@[simp] theorem fallOn_guards : (s.fallOn r).guards = s.guards := (fallOn_frame s r).2.1
@[simp] theorem fallOn_streams : (s.fallOn r).streams = s.streams := (fallOn_frame s r).2.2.1
@[simp] theorem fallOn_port : (s.fallOn r).port = s.port := (fallOn_frame s r).2.2.2.1
@[simp] theorem fallOn_pending : (s.fallOn r).pending = s.pending := (fallOn_frame s r).2.2.2.2
end

section
variable (s : State) (m : MonitorCode)
theorem observePeak_frame :
    (s.observePeak m).inReset = s.inReset ∧
    (s.observePeak m).zones = s.zones ∧
    (s.observePeak m).strategies = s.strategies ∧
    (s.observePeak m).guards = s.guards ∧
    (s.observePeak m).streams = s.streams ∧
    (s.observePeak m).queue = s.queue ∧
    (s.observePeak m).translating = s.translating ∧
    (s.observePeak m).link = s.link ∧
    (s.observePeak m).gate = s.gate ∧
    (s.observePeak m).writePath = s.writePath ∧
    (s.observePeak m).levels = s.levels ∧
    (s.observePeak m).pickup = s.pickup ∧
    (s.observePeak m).laser = s.laser ∧
    (s.observePeak m).port = s.port ∧
    (s.observePeak m).alert = s.alert ∧
    (s.observePeak m).pending = s.pending := by
  unfold State.observePeak
  (repeat' split) <;> simp
@[simp] theorem observePeak_inReset : (s.observePeak m).inReset = s.inReset := (observePeak_frame s m).1
@[simp] theorem observePeak_zones : (s.observePeak m).zones = s.zones := (observePeak_frame s m).2.1
@[simp] theorem observePeak_strategies : (s.observePeak m).strategies = s.strategies := (observePeak_frame s m).2.2.1
@[simp] theorem observePeak_guards : (s.observePeak m).guards = s.guards := (observePeak_frame s m).2.2.2.1
@[simp] theorem observePeak_streams : (s.observePeak m).streams = s.streams := (observePeak_frame s m).2.2.2.2.1
@[simp] theorem observePeak_queue : (s.observePeak m).queue = s.queue := (observePeak_frame s m).2.2.2.2.2.1
@[simp] theorem observePeak_translating : (s.observePeak m).translating = s.translating := (observePeak_frame s m).2.2.2.2.2.2.1
@[simp] theorem observePeak_link : (s.observePeak m).link = s.link := (observePeak_frame s m).2.2.2.2.2.2.2.1
@[simp] theorem observePeak_gate : (s.observePeak m).gate = s.gate := (observePeak_frame s m).2.2.2.2.2.2.2.2.1
@[simp] theorem observePeak_writePath : (s.observePeak m).writePath = s.writePath := (observePeak_frame s m).2.2.2.2.2.2.2.2.2.1
@[simp] theorem observePeak_levels : (s.observePeak m).levels = s.levels := (observePeak_frame s m).2.2.2.2.2.2.2.2.2.2.1
@[simp] theorem observePeak_pickup : (s.observePeak m).pickup = s.pickup := (observePeak_frame s m).2.2.2.2.2.2.2.2.2.2.2.1
@[simp] theorem observePeak_laser : (s.observePeak m).laser = s.laser := (observePeak_frame s m).2.2.2.2.2.2.2.2.2.2.2.2.1
@[simp] theorem observePeak_port : (s.observePeak m).port = s.port := (observePeak_frame s m).2.2.2.2.2.2.2.2.2.2.2.2.2.1
@[simp] theorem observePeak_alert : (s.observePeak m).alert = s.alert := (observePeak_frame s m).2.2.2.2.2.2.2.2.2.2.2.2.2.2.1
@[simp] theorem observePeak_pending : (s.observePeak m).pending = s.pending := (observePeak_frame s m).2.2.2.2.2.2.2.2.2.2.2.2.2.2.2
end

section
variable (s : State)
theorem startMark_frame :
    (s.startMark).inReset = s.inReset ∧
    (s.startMark).zones = s.zones ∧
    (s.startMark).strategies = s.strategies ∧
    (s.startMark).guards = s.guards ∧
    (s.startMark).streams = s.streams ∧
    (s.startMark).queue = s.queue ∧
    (s.startMark).translating = s.translating ∧
    (s.startMark).link = s.link ∧
    (s.startMark).gate = s.gate ∧
    (s.startMark).levels = s.levels ∧
    (s.startMark).pickup = s.pickup ∧
    (s.startMark).monitor = s.monitor ∧
    (s.startMark).port = s.port ∧
    (s.startMark).alert = s.alert ∧
    (s.startMark).pending = s.pending := by
  unfold State.startMark
  (repeat' split) <;> simp
@[simp] theorem startMark_inReset : (s.startMark).inReset = s.inReset := (startMark_frame s).1
@[simp] theorem startMark_zones : (s.startMark).zones = s.zones := (startMark_frame s).2.1
@[simp] theorem startMark_strategies : (s.startMark).strategies = s.strategies := (startMark_frame s).2.2.1
@[simp] theorem startMark_guards : (s.startMark).guards = s.guards := (startMark_frame s).2.2.2.1
@[simp] theorem startMark_streams : (s.startMark).streams = s.streams := (startMark_frame s).2.2.2.2.1
@[simp] theorem startMark_queue : (s.startMark).queue = s.queue := (startMark_frame s).2.2.2.2.2.1
@[simp] theorem startMark_translating : (s.startMark).translating = s.translating := (startMark_frame s).2.2.2.2.2.2.1
@[simp] theorem startMark_link : (s.startMark).link = s.link := (startMark_frame s).2.2.2.2.2.2.2.1
@[simp] theorem startMark_gate : (s.startMark).gate = s.gate := (startMark_frame s).2.2.2.2.2.2.2.2.1
@[simp] theorem startMark_levels : (s.startMark).levels = s.levels := (startMark_frame s).2.2.2.2.2.2.2.2.2.1
@[simp] theorem startMark_pickup : (s.startMark).pickup = s.pickup := (startMark_frame s).2.2.2.2.2.2.2.2.2.2.1
@[simp] theorem startMark_monitor : (s.startMark).monitor = s.monitor := (startMark_frame s).2.2.2.2.2.2.2.2.2.2.2.1
@[simp] theorem startMark_port : (s.startMark).port = s.port := (startMark_frame s).2.2.2.2.2.2.2.2.2.2.2.2.1
@[simp] theorem startMark_alert : (s.startMark).alert = s.alert := (startMark_frame s).2.2.2.2.2.2.2.2.2.2.2.2.2.1
@[simp] theorem startMark_pending : (s.startMark).pending = s.pending := (startMark_frame s).2.2.2.2.2.2.2.2.2.2.2.2.2.2
end

section
variable (s : State)
theorem endStep_frame :
    (s.endStep).inReset = s.inReset ∧
    (s.endStep).zones = s.zones ∧
    (s.endStep).strategies = s.strategies ∧
    (s.endStep).guards = s.guards ∧
    (s.endStep).streams = s.streams ∧
    (s.endStep).queue = s.queue ∧
    (s.endStep).translating = s.translating ∧
    (s.endStep).link = s.link ∧
    (s.endStep).gate = s.gate ∧
    (s.endStep).levels = s.levels ∧
    (s.endStep).pickup = s.pickup ∧
    (s.endStep).monitor = s.monitor ∧
    (s.endStep).port = s.port ∧
    (s.endStep).alert = s.alert ∧
    (s.endStep).pending = s.pending := by
  unfold State.endStep
  (repeat' split) <;> simp
@[simp] theorem endStep_inReset : (s.endStep).inReset = s.inReset := (endStep_frame s).1
@[simp] theorem endStep_zones : (s.endStep).zones = s.zones := (endStep_frame s).2.1
@[simp] theorem endStep_strategies : (s.endStep).strategies = s.strategies := (endStep_frame s).2.2.1
@[simp] theorem endStep_guards : (s.endStep).guards = s.guards := (endStep_frame s).2.2.2.1
@[simp] theorem endStep_streams : (s.endStep).streams = s.streams := (endStep_frame s).2.2.2.2.1
@[simp] theorem endStep_queue : (s.endStep).queue = s.queue := (endStep_frame s).2.2.2.2.2.1
@[simp] theorem endStep_translating : (s.endStep).translating = s.translating := (endStep_frame s).2.2.2.2.2.2.1
@[simp] theorem endStep_link : (s.endStep).link = s.link := (endStep_frame s).2.2.2.2.2.2.2.1
@[simp] theorem endStep_gate : (s.endStep).gate = s.gate := (endStep_frame s).2.2.2.2.2.2.2.2.1
@[simp] theorem endStep_levels : (s.endStep).levels = s.levels := (endStep_frame s).2.2.2.2.2.2.2.2.2.1
@[simp] theorem endStep_pickup : (s.endStep).pickup = s.pickup := (endStep_frame s).2.2.2.2.2.2.2.2.2.2.1
@[simp] theorem endStep_monitor : (s.endStep).monitor = s.monitor := (endStep_frame s).2.2.2.2.2.2.2.2.2.2.2.1
@[simp] theorem endStep_port : (s.endStep).port = s.port := (endStep_frame s).2.2.2.2.2.2.2.2.2.2.2.2.1
@[simp] theorem endStep_alert : (s.endStep).alert = s.alert := (endStep_frame s).2.2.2.2.2.2.2.2.2.2.2.2.2.1
@[simp] theorem endStep_pending : (s.endStep).pending = s.pending := (endStep_frame s).2.2.2.2.2.2.2.2.2.2.2.2.2.2
end

section
variable (s : State) (i : IdleSet)
theorem useIdleSet_frame :
    (s.useIdleSet i).inReset = s.inReset ∧
    (s.useIdleSet i).zones = s.zones ∧
    (s.useIdleSet i).strategies = s.strategies ∧
    (s.useIdleSet i).guards = s.guards ∧
    (s.useIdleSet i).streams = s.streams ∧
    (s.useIdleSet i).queue = s.queue ∧
    (s.useIdleSet i).translating = s.translating ∧
    (s.useIdleSet i).link = s.link ∧
    (s.useIdleSet i).gate = s.gate ∧
    (s.useIdleSet i).writePath = s.writePath ∧
    (s.useIdleSet i).levels = s.levels ∧
    (s.useIdleSet i).pickup = s.pickup ∧
    (s.useIdleSet i).monitor = s.monitor ∧
    (s.useIdleSet i).port = s.port ∧
    (s.useIdleSet i).pending = s.pending := by
  unfold State.useIdleSet
  (repeat' split) <;> simp
@[simp] theorem useIdleSet_inReset : (s.useIdleSet i).inReset = s.inReset := (useIdleSet_frame s i).1
@[simp] theorem useIdleSet_zones : (s.useIdleSet i).zones = s.zones := (useIdleSet_frame s i).2.1
@[simp] theorem useIdleSet_strategies : (s.useIdleSet i).strategies = s.strategies := (useIdleSet_frame s i).2.2.1
@[simp] theorem useIdleSet_guards : (s.useIdleSet i).guards = s.guards := (useIdleSet_frame s i).2.2.2.1
@[simp] theorem useIdleSet_streams : (s.useIdleSet i).streams = s.streams := (useIdleSet_frame s i).2.2.2.2.1
@[simp] theorem useIdleSet_queue : (s.useIdleSet i).queue = s.queue := (useIdleSet_frame s i).2.2.2.2.2.1
@[simp] theorem useIdleSet_translating : (s.useIdleSet i).translating = s.translating := (useIdleSet_frame s i).2.2.2.2.2.2.1
@[simp] theorem useIdleSet_link : (s.useIdleSet i).link = s.link := (useIdleSet_frame s i).2.2.2.2.2.2.2.1
@[simp] theorem useIdleSet_gate : (s.useIdleSet i).gate = s.gate := (useIdleSet_frame s i).2.2.2.2.2.2.2.2.1
@[simp] theorem useIdleSet_writePath : (s.useIdleSet i).writePath = s.writePath := (useIdleSet_frame s i).2.2.2.2.2.2.2.2.2.1
@[simp] theorem useIdleSet_levels : (s.useIdleSet i).levels = s.levels := (useIdleSet_frame s i).2.2.2.2.2.2.2.2.2.2.1
@[simp] theorem useIdleSet_pickup : (s.useIdleSet i).pickup = s.pickup := (useIdleSet_frame s i).2.2.2.2.2.2.2.2.2.2.2.1
@[simp] theorem useIdleSet_monitor : (s.useIdleSet i).monitor = s.monitor := (useIdleSet_frame s i).2.2.2.2.2.2.2.2.2.2.2.2.1
@[simp] theorem useIdleSet_port : (s.useIdleSet i).port = s.port := (useIdleSet_frame s i).2.2.2.2.2.2.2.2.2.2.2.2.2.1
@[simp] theorem useIdleSet_pending : (s.useIdleSet i).pending = s.pending := (useIdleSet_frame s i).2.2.2.2.2.2.2.2.2.2.2.2.2.2
end

section
variable (s : State) (i : IdleInputs)
theorem completeIdle_frame :
    (s.completeIdle i).inReset = s.inReset ∧
    (s.completeIdle i).zones = s.zones ∧
    (s.completeIdle i).strategies = s.strategies ∧
    (s.completeIdle i).guards = s.guards ∧
    (s.completeIdle i).streams = s.streams ∧
    (s.completeIdle i).queue = s.queue ∧
    (s.completeIdle i).translating = s.translating ∧
    (s.completeIdle i).link = s.link ∧
    (s.completeIdle i).gate = s.gate ∧
    (s.completeIdle i).writePath = s.writePath ∧
    (s.completeIdle i).pickup = s.pickup ∧
    (s.completeIdle i).monitor = s.monitor ∧
    (s.completeIdle i).port = s.port ∧
    (s.completeIdle i).pending = s.pending := by
  simp [State.completeIdle]
@[simp] theorem completeIdle_inReset : (s.completeIdle i).inReset = s.inReset := (completeIdle_frame s i).1
@[simp] theorem completeIdle_zones : (s.completeIdle i).zones = s.zones := (completeIdle_frame s i).2.1
@[simp] theorem completeIdle_strategies : (s.completeIdle i).strategies = s.strategies := (completeIdle_frame s i).2.2.1
@[simp] theorem completeIdle_guards : (s.completeIdle i).guards = s.guards := (completeIdle_frame s i).2.2.2.1
@[simp] theorem completeIdle_streams : (s.completeIdle i).streams = s.streams := (completeIdle_frame s i).2.2.2.2.1
@[simp] theorem completeIdle_queue : (s.completeIdle i).queue = s.queue := (completeIdle_frame s i).2.2.2.2.2.1
@[simp] theorem completeIdle_translating : (s.completeIdle i).translating = s.translating := (completeIdle_frame s i).2.2.2.2.2.2.1
@[simp] theorem completeIdle_link : (s.completeIdle i).link = s.link := (completeIdle_frame s i).2.2.2.2.2.2.2.1
@[simp] theorem completeIdle_gate : (s.completeIdle i).gate = s.gate := (completeIdle_frame s i).2.2.2.2.2.2.2.2.1
@[simp] theorem completeIdle_writePath : (s.completeIdle i).writePath = s.writePath := (completeIdle_frame s i).2.2.2.2.2.2.2.2.2.1
@[simp] theorem completeIdle_pickup : (s.completeIdle i).pickup = s.pickup := (completeIdle_frame s i).2.2.2.2.2.2.2.2.2.2.1
@[simp] theorem completeIdle_monitor : (s.completeIdle i).monitor = s.monitor := (completeIdle_frame s i).2.2.2.2.2.2.2.2.2.2.2.1
@[simp] theorem completeIdle_port : (s.completeIdle i).port = s.port := (completeIdle_frame s i).2.2.2.2.2.2.2.2.2.2.2.2.1
@[simp] theorem completeIdle_pending : (s.completeIdle i).pending = s.pending := (completeIdle_frame s i).2.2.2.2.2.2.2.2.2.2.2.2.2
end

section
variable (s : State)
theorem endWarmUp_frame :
    (s.endWarmUp).inReset = s.inReset ∧
    (s.endWarmUp).zones = s.zones ∧
    (s.endWarmUp).strategies = s.strategies ∧
    (s.endWarmUp).guards = s.guards ∧
    (s.endWarmUp).streams = s.streams ∧
    (s.endWarmUp).queue = s.queue ∧
    (s.endWarmUp).translating = s.translating ∧
    (s.endWarmUp).link = s.link ∧
    (s.endWarmUp).gate = s.gate ∧
    (s.endWarmUp).levels = s.levels ∧
    (s.endWarmUp).pickup = s.pickup ∧
    (s.endWarmUp).port = s.port ∧
    (s.endWarmUp).pending = s.pending := by
  simp [State.endWarmUp]
@[simp] theorem endWarmUp_inReset : (s.endWarmUp).inReset = s.inReset := (endWarmUp_frame s).1
@[simp] theorem endWarmUp_zones : (s.endWarmUp).zones = s.zones := (endWarmUp_frame s).2.1
@[simp] theorem endWarmUp_strategies : (s.endWarmUp).strategies = s.strategies := (endWarmUp_frame s).2.2.1
@[simp] theorem endWarmUp_guards : (s.endWarmUp).guards = s.guards := (endWarmUp_frame s).2.2.2.1
@[simp] theorem endWarmUp_streams : (s.endWarmUp).streams = s.streams := (endWarmUp_frame s).2.2.2.2.1
@[simp] theorem endWarmUp_queue : (s.endWarmUp).queue = s.queue := (endWarmUp_frame s).2.2.2.2.2.1
@[simp] theorem endWarmUp_translating : (s.endWarmUp).translating = s.translating := (endWarmUp_frame s).2.2.2.2.2.2.1
@[simp] theorem endWarmUp_link : (s.endWarmUp).link = s.link := (endWarmUp_frame s).2.2.2.2.2.2.2.1
@[simp] theorem endWarmUp_gate : (s.endWarmUp).gate = s.gate := (endWarmUp_frame s).2.2.2.2.2.2.2.2.1
@[simp] theorem endWarmUp_levels : (s.endWarmUp).levels = s.levels := (endWarmUp_frame s).2.2.2.2.2.2.2.2.2.1
@[simp] theorem endWarmUp_pickup : (s.endWarmUp).pickup = s.pickup := (endWarmUp_frame s).2.2.2.2.2.2.2.2.2.2.1
@[simp] theorem endWarmUp_port : (s.endWarmUp).port = s.port := (endWarmUp_frame s).2.2.2.2.2.2.2.2.2.2.2.1
@[simp] theorem endWarmUp_pending : (s.endWarmUp).pending = s.pending := (endWarmUp_frame s).2.2.2.2.2.2.2.2.2.2.2.2
end

section
variable (s : State) (t : Int)
theorem takeSample_frame :
    (s.takeSample t).inReset = s.inReset ∧
    (s.takeSample t).zones = s.zones ∧
    (s.takeSample t).strategies = s.strategies ∧
    (s.takeSample t).guards = s.guards ∧
    (s.takeSample t).streams = s.streams ∧
    (s.takeSample t).queue = s.queue ∧
    (s.takeSample t).translating = s.translating ∧
    (s.takeSample t).link = s.link ∧
    (s.takeSample t).gate = s.gate ∧
    (s.takeSample t).writePath = s.writePath ∧
    (s.takeSample t).levels = s.levels ∧
    (s.takeSample t).pickup = s.pickup ∧
    (s.takeSample t).monitor = s.monitor ∧
    (s.takeSample t).port = s.port ∧
    (s.takeSample t).alert = s.alert ∧
    (s.takeSample t).pending = s.pending := by
  simp [State.takeSample]
@[simp] theorem takeSample_inReset : (s.takeSample t).inReset = s.inReset := (takeSample_frame s t).1
@[simp] theorem takeSample_zones : (s.takeSample t).zones = s.zones := (takeSample_frame s t).2.1
@[simp] theorem takeSample_strategies : (s.takeSample t).strategies = s.strategies := (takeSample_frame s t).2.2.1
@[simp] theorem takeSample_guards : (s.takeSample t).guards = s.guards := (takeSample_frame s t).2.2.2.1
@[simp] theorem takeSample_streams : (s.takeSample t).streams = s.streams := (takeSample_frame s t).2.2.2.2.1
@[simp] theorem takeSample_queue : (s.takeSample t).queue = s.queue := (takeSample_frame s t).2.2.2.2.2.1
@[simp] theorem takeSample_translating : (s.takeSample t).translating = s.translating := (takeSample_frame s t).2.2.2.2.2.2.1
@[simp] theorem takeSample_link : (s.takeSample t).link = s.link := (takeSample_frame s t).2.2.2.2.2.2.2.1
@[simp] theorem takeSample_gate : (s.takeSample t).gate = s.gate := (takeSample_frame s t).2.2.2.2.2.2.2.2.1
@[simp] theorem takeSample_writePath : (s.takeSample t).writePath = s.writePath := (takeSample_frame s t).2.2.2.2.2.2.2.2.2.1
@[simp] theorem takeSample_levels : (s.takeSample t).levels = s.levels := (takeSample_frame s t).2.2.2.2.2.2.2.2.2.2.1
@[simp] theorem takeSample_pickup : (s.takeSample t).pickup = s.pickup := (takeSample_frame s t).2.2.2.2.2.2.2.2.2.2.2.1
@[simp] theorem takeSample_monitor : (s.takeSample t).monitor = s.monitor := (takeSample_frame s t).2.2.2.2.2.2.2.2.2.2.2.2.1
@[simp] theorem takeSample_port : (s.takeSample t).port = s.port := (takeSample_frame s t).2.2.2.2.2.2.2.2.2.2.2.2.2.1
@[simp] theorem takeSample_alert : (s.takeSample t).alert = s.alert := (takeSample_frame s t).2.2.2.2.2.2.2.2.2.2.2.2.2.2.1
@[simp] theorem takeSample_pending : (s.takeSample t).pending = s.pending := (takeSample_frame s t).2.2.2.2.2.2.2.2.2.2.2.2.2.2.2
end

section
variable (s : State) (k : Bool)
theorem overLimitAct_frame :
    (s.overLimitAct k).inReset = s.inReset ∧
    (s.overLimitAct k).guards = s.guards ∧
    (s.overLimitAct k).streams = s.streams ∧
    (s.overLimitAct k).port = s.port ∧
    (s.overLimitAct k).pending = s.pending := by
  unfold State.overLimitAct
  (repeat' split) <;> simp
@[simp] theorem overLimitAct_inReset : (s.overLimitAct k).inReset = s.inReset := (overLimitAct_frame s k).1
@[simp] theorem overLimitAct_guards : (s.overLimitAct k).guards = s.guards := (overLimitAct_frame s k).2.1
@[simp] theorem overLimitAct_streams : (s.overLimitAct k).streams = s.streams := (overLimitAct_frame s k).2.2.1
@[simp] theorem overLimitAct_port : (s.overLimitAct k).port = s.port := (overLimitAct_frame s k).2.2.2.1
@[simp] theorem overLimitAct_pending : (s.overLimitAct k).pending = s.pending := (overLimitAct_frame s k).2.2.2.2
end

section
variable (s : State) (k : Bool)
theorem reportPll_frame :
    (s.reportPll k).inReset = s.inReset ∧
    (s.reportPll k).zones = s.zones ∧
    (s.reportPll k).strategies = s.strategies ∧
    (s.reportPll k).guards = s.guards ∧
    (s.reportPll k).streams = s.streams ∧
    (s.reportPll k).queue = s.queue ∧
    (s.reportPll k).translating = s.translating ∧
    (s.reportPll k).link = s.link ∧
    (s.reportPll k).gate = s.gate ∧
    (s.reportPll k).writePath = s.writePath ∧
    (s.reportPll k).levels = s.levels ∧
    (s.reportPll k).pickup = s.pickup ∧
    (s.reportPll k).monitor = s.monitor ∧
    (s.reportPll k).port = s.port ∧
    (s.reportPll k).alert = s.alert ∧
    (s.reportPll k).pending = s.pending := by
  simp [State.reportPll]
@[simp] theorem reportPll_inReset : (s.reportPll k).inReset = s.inReset := (reportPll_frame s k).1
@[simp] theorem reportPll_zones : (s.reportPll k).zones = s.zones := (reportPll_frame s k).2.1
@[simp] theorem reportPll_strategies : (s.reportPll k).strategies = s.strategies := (reportPll_frame s k).2.2.1
@[simp] theorem reportPll_guards : (s.reportPll k).guards = s.guards := (reportPll_frame s k).2.2.2.1
@[simp] theorem reportPll_streams : (s.reportPll k).streams = s.streams := (reportPll_frame s k).2.2.2.2.1
@[simp] theorem reportPll_queue : (s.reportPll k).queue = s.queue := (reportPll_frame s k).2.2.2.2.2.1
@[simp] theorem reportPll_translating : (s.reportPll k).translating = s.translating := (reportPll_frame s k).2.2.2.2.2.2.1
@[simp] theorem reportPll_link : (s.reportPll k).link = s.link := (reportPll_frame s k).2.2.2.2.2.2.2.1
@[simp] theorem reportPll_gate : (s.reportPll k).gate = s.gate := (reportPll_frame s k).2.2.2.2.2.2.2.2.1
@[simp] theorem reportPll_writePath : (s.reportPll k).writePath = s.writePath := (reportPll_frame s k).2.2.2.2.2.2.2.2.2.1
@[simp] theorem reportPll_levels : (s.reportPll k).levels = s.levels := (reportPll_frame s k).2.2.2.2.2.2.2.2.2.2.1
@[simp] theorem reportPll_pickup : (s.reportPll k).pickup = s.pickup := (reportPll_frame s k).2.2.2.2.2.2.2.2.2.2.2.1
@[simp] theorem reportPll_monitor : (s.reportPll k).monitor = s.monitor := (reportPll_frame s k).2.2.2.2.2.2.2.2.2.2.2.2.1
@[simp] theorem reportPll_port : (s.reportPll k).port = s.port := (reportPll_frame s k).2.2.2.2.2.2.2.2.2.2.2.2.2.1
@[simp] theorem reportPll_alert : (s.reportPll k).alert = s.alert := (reportPll_frame s k).2.2.2.2.2.2.2.2.2.2.2.2.2.2.1
@[simp] theorem reportPll_pending : (s.reportPll k).pending = s.pending := (reportPll_frame s k).2.2.2.2.2.2.2.2.2.2.2.2.2.2.2
end

section
variable (s : State)
theorem loseLock_frame :
    (s.loseLock).inReset = s.inReset ∧
    (s.loseLock).guards = s.guards ∧
    (s.loseLock).streams = s.streams ∧
    (s.loseLock).port = s.port ∧
    (s.loseLock).pending = s.pending := by
  unfold State.loseLock
  (repeat' split) <;> simp
@[simp] theorem loseLock_inReset : (s.loseLock).inReset = s.inReset := (loseLock_frame s).1
@[simp] theorem loseLock_guards : (s.loseLock).guards = s.guards := (loseLock_frame s).2.1
@[simp] theorem loseLock_streams : (s.loseLock).streams = s.streams := (loseLock_frame s).2.2.1
@[simp] theorem loseLock_port : (s.loseLock).port = s.port := (loseLock_frame s).2.2.2.1
@[simp] theorem loseLock_pending : (s.loseLock).pending = s.pending := (loseLock_frame s).2.2.2.2
end

section
variable (s : State)
theorem regainLock_frame :
    (s.regainLock).inReset = s.inReset ∧
    (s.regainLock).zones = s.zones ∧
    (s.regainLock).strategies = s.strategies ∧
    (s.regainLock).guards = s.guards ∧
    (s.regainLock).streams = s.streams ∧
    (s.regainLock).queue = s.queue ∧
    (s.regainLock).translating = s.translating ∧
    (s.regainLock).link = s.link ∧
    (s.regainLock).gate = s.gate ∧
    (s.regainLock).writePath = s.writePath ∧
    (s.regainLock).levels = s.levels ∧
    (s.regainLock).pickup = s.pickup ∧
    (s.regainLock).monitor = s.monitor ∧
    (s.regainLock).port = s.port ∧
    (s.regainLock).alert = s.alert ∧
    (s.regainLock).pending = s.pending := by
  simp [State.regainLock]
@[simp] theorem regainLock_inReset : (s.regainLock).inReset = s.inReset := (regainLock_frame s).1
@[simp] theorem regainLock_zones : (s.regainLock).zones = s.zones := (regainLock_frame s).2.1
@[simp] theorem regainLock_strategies : (s.regainLock).strategies = s.strategies := (regainLock_frame s).2.2.1
@[simp] theorem regainLock_guards : (s.regainLock).guards = s.guards := (regainLock_frame s).2.2.2.1
@[simp] theorem regainLock_streams : (s.regainLock).streams = s.streams := (regainLock_frame s).2.2.2.2.1
@[simp] theorem regainLock_queue : (s.regainLock).queue = s.queue := (regainLock_frame s).2.2.2.2.2.1
@[simp] theorem regainLock_translating : (s.regainLock).translating = s.translating := (regainLock_frame s).2.2.2.2.2.2.1
@[simp] theorem regainLock_link : (s.regainLock).link = s.link := (regainLock_frame s).2.2.2.2.2.2.2.1
@[simp] theorem regainLock_gate : (s.regainLock).gate = s.gate := (regainLock_frame s).2.2.2.2.2.2.2.2.1
@[simp] theorem regainLock_writePath : (s.regainLock).writePath = s.writePath := (regainLock_frame s).2.2.2.2.2.2.2.2.2.1
@[simp] theorem regainLock_levels : (s.regainLock).levels = s.levels := (regainLock_frame s).2.2.2.2.2.2.2.2.2.2.1
@[simp] theorem regainLock_pickup : (s.regainLock).pickup = s.pickup := (regainLock_frame s).2.2.2.2.2.2.2.2.2.2.2.1
@[simp] theorem regainLock_monitor : (s.regainLock).monitor = s.monitor := (regainLock_frame s).2.2.2.2.2.2.2.2.2.2.2.2.1
@[simp] theorem regainLock_port : (s.regainLock).port = s.port := (regainLock_frame s).2.2.2.2.2.2.2.2.2.2.2.2.2.1
@[simp] theorem regainLock_alert : (s.regainLock).alert = s.alert := (regainLock_frame s).2.2.2.2.2.2.2.2.2.2.2.2.2.2.1
@[simp] theorem regainLock_pending : (s.regainLock).pending = s.pending := (regainLock_frame s).2.2.2.2.2.2.2.2.2.2.2.2.2.2.2
end

section
variable (s : State) (k : SampleKind) (c d : Nat)
theorem startConversion_frame :
    (s.startConversion k c d).inReset = s.inReset ∧
    (s.startConversion k c d).zones = s.zones ∧
    (s.startConversion k c d).strategies = s.strategies ∧
    (s.startConversion k c d).guards = s.guards ∧
    (s.startConversion k c d).streams = s.streams ∧
    (s.startConversion k c d).queue = s.queue ∧
    (s.startConversion k c d).translating = s.translating ∧
    (s.startConversion k c d).link = s.link ∧
    (s.startConversion k c d).gate = s.gate ∧
    (s.startConversion k c d).writePath = s.writePath ∧
    (s.startConversion k c d).levels = s.levels ∧
    (s.startConversion k c d).pickup = s.pickup ∧
    (s.startConversion k c d).laser = s.laser ∧
    (s.startConversion k c d).port = s.port ∧
    (s.startConversion k c d).alert = s.alert ∧
    (s.startConversion k c d).pending = s.pending := by
  simp [State.startConversion]
@[simp] theorem startConversion_inReset : (s.startConversion k c d).inReset = s.inReset := (startConversion_frame s k c d).1
@[simp] theorem startConversion_zones : (s.startConversion k c d).zones = s.zones := (startConversion_frame s k c d).2.1
@[simp] theorem startConversion_strategies : (s.startConversion k c d).strategies = s.strategies := (startConversion_frame s k c d).2.2.1
@[simp] theorem startConversion_guards : (s.startConversion k c d).guards = s.guards := (startConversion_frame s k c d).2.2.2.1
@[simp] theorem startConversion_streams : (s.startConversion k c d).streams = s.streams := (startConversion_frame s k c d).2.2.2.2.1
@[simp] theorem startConversion_queue : (s.startConversion k c d).queue = s.queue := (startConversion_frame s k c d).2.2.2.2.2.1
@[simp] theorem startConversion_translating : (s.startConversion k c d).translating = s.translating := (startConversion_frame s k c d).2.2.2.2.2.2.1
@[simp] theorem startConversion_link : (s.startConversion k c d).link = s.link := (startConversion_frame s k c d).2.2.2.2.2.2.2.1
@[simp] theorem startConversion_gate : (s.startConversion k c d).gate = s.gate := (startConversion_frame s k c d).2.2.2.2.2.2.2.2.1
@[simp] theorem startConversion_writePath : (s.startConversion k c d).writePath = s.writePath := (startConversion_frame s k c d).2.2.2.2.2.2.2.2.2.1
@[simp] theorem startConversion_levels : (s.startConversion k c d).levels = s.levels := (startConversion_frame s k c d).2.2.2.2.2.2.2.2.2.2.1
@[simp] theorem startConversion_pickup : (s.startConversion k c d).pickup = s.pickup := (startConversion_frame s k c d).2.2.2.2.2.2.2.2.2.2.2.1
@[simp] theorem startConversion_laser : (s.startConversion k c d).laser = s.laser := (startConversion_frame s k c d).2.2.2.2.2.2.2.2.2.2.2.2.1
@[simp] theorem startConversion_port : (s.startConversion k c d).port = s.port := (startConversion_frame s k c d).2.2.2.2.2.2.2.2.2.2.2.2.2.1
@[simp] theorem startConversion_alert : (s.startConversion k c d).alert = s.alert := (startConversion_frame s k c d).2.2.2.2.2.2.2.2.2.2.2.2.2.2.1
@[simp] theorem startConversion_pending : (s.startConversion k c d).pending = s.pending := (startConversion_frame s k c d).2.2.2.2.2.2.2.2.2.2.2.2.2.2.2
end

section
variable (s : State) (m : MonitorCode)
theorem sampleRead_frame :
    (s.sampleRead m).inReset = s.inReset ∧
    (s.sampleRead m).zones = s.zones ∧
    (s.sampleRead m).strategies = s.strategies ∧
    (s.sampleRead m).guards = s.guards ∧
    (s.sampleRead m).streams = s.streams ∧
    (s.sampleRead m).queue = s.queue ∧
    (s.sampleRead m).translating = s.translating ∧
    (s.sampleRead m).link = s.link ∧
    (s.sampleRead m).gate = s.gate ∧
    (s.sampleRead m).writePath = s.writePath ∧
    (s.sampleRead m).levels = s.levels ∧
    (s.sampleRead m).pickup = s.pickup ∧
    (s.sampleRead m).laser = s.laser ∧
    (s.sampleRead m).port = s.port ∧
    (s.sampleRead m).alert = s.alert ∧
    (s.sampleRead m).pending = s.pending := by
  unfold State.sampleRead
  (repeat' split) <;> simp
@[simp] theorem sampleRead_inReset : (s.sampleRead m).inReset = s.inReset := (sampleRead_frame s m).1
@[simp] theorem sampleRead_zones : (s.sampleRead m).zones = s.zones := (sampleRead_frame s m).2.1
@[simp] theorem sampleRead_strategies : (s.sampleRead m).strategies = s.strategies := (sampleRead_frame s m).2.2.1
@[simp] theorem sampleRead_guards : (s.sampleRead m).guards = s.guards := (sampleRead_frame s m).2.2.2.1
@[simp] theorem sampleRead_streams : (s.sampleRead m).streams = s.streams := (sampleRead_frame s m).2.2.2.2.1
@[simp] theorem sampleRead_queue : (s.sampleRead m).queue = s.queue := (sampleRead_frame s m).2.2.2.2.2.1
@[simp] theorem sampleRead_translating : (s.sampleRead m).translating = s.translating := (sampleRead_frame s m).2.2.2.2.2.2.1
@[simp] theorem sampleRead_link : (s.sampleRead m).link = s.link := (sampleRead_frame s m).2.2.2.2.2.2.2.1
@[simp] theorem sampleRead_gate : (s.sampleRead m).gate = s.gate := (sampleRead_frame s m).2.2.2.2.2.2.2.2.1
@[simp] theorem sampleRead_writePath : (s.sampleRead m).writePath = s.writePath := (sampleRead_frame s m).2.2.2.2.2.2.2.2.2.1
@[simp] theorem sampleRead_levels : (s.sampleRead m).levels = s.levels := (sampleRead_frame s m).2.2.2.2.2.2.2.2.2.2.1
@[simp] theorem sampleRead_pickup : (s.sampleRead m).pickup = s.pickup := (sampleRead_frame s m).2.2.2.2.2.2.2.2.2.2.2.1
@[simp] theorem sampleRead_laser : (s.sampleRead m).laser = s.laser := (sampleRead_frame s m).2.2.2.2.2.2.2.2.2.2.2.2.1
@[simp] theorem sampleRead_port : (s.sampleRead m).port = s.port := (sampleRead_frame s m).2.2.2.2.2.2.2.2.2.2.2.2.2.1
@[simp] theorem sampleRead_alert : (s.sampleRead m).alert = s.alert := (sampleRead_frame s m).2.2.2.2.2.2.2.2.2.2.2.2.2.2.1
@[simp] theorem sampleRead_pending : (s.sampleRead m).pending = s.pending := (sampleRead_frame s m).2.2.2.2.2.2.2.2.2.2.2.2.2.2.2
end

section
variable (s : State)
theorem sampleWrite_frame :
    (s.sampleWrite).inReset = s.inReset ∧
    (s.sampleWrite).zones = s.zones ∧
    (s.sampleWrite).strategies = s.strategies ∧
    (s.sampleWrite).guards = s.guards ∧
    (s.sampleWrite).streams = s.streams ∧
    (s.sampleWrite).queue = s.queue ∧
    (s.sampleWrite).translating = s.translating ∧
    (s.sampleWrite).link = s.link ∧
    (s.sampleWrite).gate = s.gate ∧
    (s.sampleWrite).writePath = s.writePath ∧
    (s.sampleWrite).levels = s.levels ∧
    (s.sampleWrite).pickup = s.pickup ∧
    (s.sampleWrite).laser = s.laser ∧
    (s.sampleWrite).port = s.port ∧
    (s.sampleWrite).alert = s.alert ∧
    (s.sampleWrite).pending = s.pending := by
  unfold State.sampleWrite
  (repeat' split) <;> simp
@[simp] theorem sampleWrite_inReset : (s.sampleWrite).inReset = s.inReset := (sampleWrite_frame s).1
@[simp] theorem sampleWrite_zones : (s.sampleWrite).zones = s.zones := (sampleWrite_frame s).2.1
@[simp] theorem sampleWrite_strategies : (s.sampleWrite).strategies = s.strategies := (sampleWrite_frame s).2.2.1
@[simp] theorem sampleWrite_guards : (s.sampleWrite).guards = s.guards := (sampleWrite_frame s).2.2.2.1
@[simp] theorem sampleWrite_streams : (s.sampleWrite).streams = s.streams := (sampleWrite_frame s).2.2.2.2.1
@[simp] theorem sampleWrite_queue : (s.sampleWrite).queue = s.queue := (sampleWrite_frame s).2.2.2.2.2.1
@[simp] theorem sampleWrite_translating : (s.sampleWrite).translating = s.translating := (sampleWrite_frame s).2.2.2.2.2.2.1
@[simp] theorem sampleWrite_link : (s.sampleWrite).link = s.link := (sampleWrite_frame s).2.2.2.2.2.2.2.1
@[simp] theorem sampleWrite_gate : (s.sampleWrite).gate = s.gate := (sampleWrite_frame s).2.2.2.2.2.2.2.2.1
@[simp] theorem sampleWrite_writePath : (s.sampleWrite).writePath = s.writePath := (sampleWrite_frame s).2.2.2.2.2.2.2.2.2.1
@[simp] theorem sampleWrite_levels : (s.sampleWrite).levels = s.levels := (sampleWrite_frame s).2.2.2.2.2.2.2.2.2.2.1
@[simp] theorem sampleWrite_pickup : (s.sampleWrite).pickup = s.pickup := (sampleWrite_frame s).2.2.2.2.2.2.2.2.2.2.2.1
@[simp] theorem sampleWrite_laser : (s.sampleWrite).laser = s.laser := (sampleWrite_frame s).2.2.2.2.2.2.2.2.2.2.2.2.1
@[simp] theorem sampleWrite_port : (s.sampleWrite).port = s.port := (sampleWrite_frame s).2.2.2.2.2.2.2.2.2.2.2.2.2.1
@[simp] theorem sampleWrite_alert : (s.sampleWrite).alert = s.alert := (sampleWrite_frame s).2.2.2.2.2.2.2.2.2.2.2.2.2.2.1
@[simp] theorem sampleWrite_pending : (s.sampleWrite).pending = s.pending := (sampleWrite_frame s).2.2.2.2.2.2.2.2.2.2.2.2.2.2.2
end

section
variable (s : State) (d : BlockSampleDue) (m : MonitorCode)
theorem takeBlockSample_frame :
    (s.takeBlockSample d m).inReset = s.inReset ∧
    (s.takeBlockSample d m).zones = s.zones ∧
    (s.takeBlockSample d m).strategies = s.strategies ∧
    (s.takeBlockSample d m).guards = s.guards ∧
    (s.takeBlockSample d m).streams = s.streams ∧
    (s.takeBlockSample d m).queue = s.queue ∧
    (s.takeBlockSample d m).translating = s.translating ∧
    (s.takeBlockSample d m).link = s.link ∧
    (s.takeBlockSample d m).gate = s.gate ∧
    (s.takeBlockSample d m).writePath = s.writePath ∧
    (s.takeBlockSample d m).levels = s.levels ∧
    (s.takeBlockSample d m).pickup = s.pickup ∧
    (s.takeBlockSample d m).laser = s.laser ∧
    (s.takeBlockSample d m).port = s.port ∧
    (s.takeBlockSample d m).alert = s.alert ∧
    (s.takeBlockSample d m).pending = s.pending := by
  unfold State.takeBlockSample
  (repeat' split) <;> simp
@[simp] theorem takeBlockSample_inReset : (s.takeBlockSample d m).inReset = s.inReset := (takeBlockSample_frame s d m).1
@[simp] theorem takeBlockSample_zones : (s.takeBlockSample d m).zones = s.zones := (takeBlockSample_frame s d m).2.1
@[simp] theorem takeBlockSample_strategies : (s.takeBlockSample d m).strategies = s.strategies := (takeBlockSample_frame s d m).2.2.1
@[simp] theorem takeBlockSample_guards : (s.takeBlockSample d m).guards = s.guards := (takeBlockSample_frame s d m).2.2.2.1
@[simp] theorem takeBlockSample_streams : (s.takeBlockSample d m).streams = s.streams := (takeBlockSample_frame s d m).2.2.2.2.1
@[simp] theorem takeBlockSample_queue : (s.takeBlockSample d m).queue = s.queue := (takeBlockSample_frame s d m).2.2.2.2.2.1
@[simp] theorem takeBlockSample_translating : (s.takeBlockSample d m).translating = s.translating := (takeBlockSample_frame s d m).2.2.2.2.2.2.1
@[simp] theorem takeBlockSample_link : (s.takeBlockSample d m).link = s.link := (takeBlockSample_frame s d m).2.2.2.2.2.2.2.1
@[simp] theorem takeBlockSample_gate : (s.takeBlockSample d m).gate = s.gate := (takeBlockSample_frame s d m).2.2.2.2.2.2.2.2.1
@[simp] theorem takeBlockSample_writePath : (s.takeBlockSample d m).writePath = s.writePath := (takeBlockSample_frame s d m).2.2.2.2.2.2.2.2.2.1
@[simp] theorem takeBlockSample_levels : (s.takeBlockSample d m).levels = s.levels := (takeBlockSample_frame s d m).2.2.2.2.2.2.2.2.2.2.1
@[simp] theorem takeBlockSample_pickup : (s.takeBlockSample d m).pickup = s.pickup := (takeBlockSample_frame s d m).2.2.2.2.2.2.2.2.2.2.2.1
@[simp] theorem takeBlockSample_laser : (s.takeBlockSample d m).laser = s.laser := (takeBlockSample_frame s d m).2.2.2.2.2.2.2.2.2.2.2.2.1
@[simp] theorem takeBlockSample_port : (s.takeBlockSample d m).port = s.port := (takeBlockSample_frame s d m).2.2.2.2.2.2.2.2.2.2.2.2.2.1
@[simp] theorem takeBlockSample_alert : (s.takeBlockSample d m).alert = s.alert := (takeBlockSample_frame s d m).2.2.2.2.2.2.2.2.2.2.2.2.2.2.1
@[simp] theorem takeBlockSample_pending : (s.takeBlockSample d m).pending = s.pending := (takeBlockSample_frame s d m).2.2.2.2.2.2.2.2.2.2.2.2.2.2.2
end

section
variable (s : State) (m : MonitorCode)
theorem dueBlockSample_frame :
    (s.dueBlockSample m).inReset = s.inReset ∧
    (s.dueBlockSample m).zones = s.zones ∧
    (s.dueBlockSample m).strategies = s.strategies ∧
    (s.dueBlockSample m).guards = s.guards ∧
    (s.dueBlockSample m).streams = s.streams ∧
    (s.dueBlockSample m).queue = s.queue ∧
    (s.dueBlockSample m).translating = s.translating ∧
    (s.dueBlockSample m).link = s.link ∧
    (s.dueBlockSample m).gate = s.gate ∧
    (s.dueBlockSample m).writePath = s.writePath ∧
    (s.dueBlockSample m).levels = s.levels ∧
    (s.dueBlockSample m).pickup = s.pickup ∧
    (s.dueBlockSample m).laser = s.laser ∧
    (s.dueBlockSample m).port = s.port ∧
    (s.dueBlockSample m).alert = s.alert ∧
    (s.dueBlockSample m).pending = s.pending := by
  unfold State.dueBlockSample
  (repeat' split) <;> simp
@[simp] theorem dueBlockSample_inReset : (s.dueBlockSample m).inReset = s.inReset := (dueBlockSample_frame s m).1
@[simp] theorem dueBlockSample_zones : (s.dueBlockSample m).zones = s.zones := (dueBlockSample_frame s m).2.1
@[simp] theorem dueBlockSample_strategies : (s.dueBlockSample m).strategies = s.strategies := (dueBlockSample_frame s m).2.2.1
@[simp] theorem dueBlockSample_guards : (s.dueBlockSample m).guards = s.guards := (dueBlockSample_frame s m).2.2.2.1
@[simp] theorem dueBlockSample_streams : (s.dueBlockSample m).streams = s.streams := (dueBlockSample_frame s m).2.2.2.2.1
@[simp] theorem dueBlockSample_queue : (s.dueBlockSample m).queue = s.queue := (dueBlockSample_frame s m).2.2.2.2.2.1
@[simp] theorem dueBlockSample_translating : (s.dueBlockSample m).translating = s.translating := (dueBlockSample_frame s m).2.2.2.2.2.2.1
@[simp] theorem dueBlockSample_link : (s.dueBlockSample m).link = s.link := (dueBlockSample_frame s m).2.2.2.2.2.2.2.1
@[simp] theorem dueBlockSample_gate : (s.dueBlockSample m).gate = s.gate := (dueBlockSample_frame s m).2.2.2.2.2.2.2.2.1
@[simp] theorem dueBlockSample_writePath : (s.dueBlockSample m).writePath = s.writePath := (dueBlockSample_frame s m).2.2.2.2.2.2.2.2.2.1
@[simp] theorem dueBlockSample_levels : (s.dueBlockSample m).levels = s.levels := (dueBlockSample_frame s m).2.2.2.2.2.2.2.2.2.2.1
@[simp] theorem dueBlockSample_pickup : (s.dueBlockSample m).pickup = s.pickup := (dueBlockSample_frame s m).2.2.2.2.2.2.2.2.2.2.2.1
@[simp] theorem dueBlockSample_laser : (s.dueBlockSample m).laser = s.laser := (dueBlockSample_frame s m).2.2.2.2.2.2.2.2.2.2.2.2.1
@[simp] theorem dueBlockSample_port : (s.dueBlockSample m).port = s.port := (dueBlockSample_frame s m).2.2.2.2.2.2.2.2.2.2.2.2.2.1
@[simp] theorem dueBlockSample_alert : (s.dueBlockSample m).alert = s.alert := (dueBlockSample_frame s m).2.2.2.2.2.2.2.2.2.2.2.2.2.2.1
@[simp] theorem dueBlockSample_pending : (s.dueBlockSample m).pending = s.pending := (dueBlockSample_frame s m).2.2.2.2.2.2.2.2.2.2.2.2.2.2.2
end

section
variable (s : State) (m : MonitorCode)
theorem sampleIdle_frame :
    (s.sampleIdle m).inReset = s.inReset ∧
    (s.sampleIdle m).zones = s.zones ∧
    (s.sampleIdle m).strategies = s.strategies ∧
    (s.sampleIdle m).guards = s.guards ∧
    (s.sampleIdle m).streams = s.streams ∧
    (s.sampleIdle m).queue = s.queue ∧
    (s.sampleIdle m).translating = s.translating ∧
    (s.sampleIdle m).link = s.link ∧
    (s.sampleIdle m).gate = s.gate ∧
    (s.sampleIdle m).writePath = s.writePath ∧
    (s.sampleIdle m).levels = s.levels ∧
    (s.sampleIdle m).pickup = s.pickup ∧
    (s.sampleIdle m).laser = s.laser ∧
    (s.sampleIdle m).port = s.port ∧
    (s.sampleIdle m).alert = s.alert ∧
    (s.sampleIdle m).pending = s.pending := by
  unfold State.sampleIdle
  (repeat' split) <;> simp
@[simp] theorem sampleIdle_inReset : (s.sampleIdle m).inReset = s.inReset := (sampleIdle_frame s m).1
@[simp] theorem sampleIdle_zones : (s.sampleIdle m).zones = s.zones := (sampleIdle_frame s m).2.1
@[simp] theorem sampleIdle_strategies : (s.sampleIdle m).strategies = s.strategies := (sampleIdle_frame s m).2.2.1
@[simp] theorem sampleIdle_guards : (s.sampleIdle m).guards = s.guards := (sampleIdle_frame s m).2.2.2.1
@[simp] theorem sampleIdle_streams : (s.sampleIdle m).streams = s.streams := (sampleIdle_frame s m).2.2.2.2.1
@[simp] theorem sampleIdle_queue : (s.sampleIdle m).queue = s.queue := (sampleIdle_frame s m).2.2.2.2.2.1
@[simp] theorem sampleIdle_translating : (s.sampleIdle m).translating = s.translating := (sampleIdle_frame s m).2.2.2.2.2.2.1
@[simp] theorem sampleIdle_link : (s.sampleIdle m).link = s.link := (sampleIdle_frame s m).2.2.2.2.2.2.2.1
@[simp] theorem sampleIdle_gate : (s.sampleIdle m).gate = s.gate := (sampleIdle_frame s m).2.2.2.2.2.2.2.2.1
@[simp] theorem sampleIdle_writePath : (s.sampleIdle m).writePath = s.writePath := (sampleIdle_frame s m).2.2.2.2.2.2.2.2.2.1
@[simp] theorem sampleIdle_levels : (s.sampleIdle m).levels = s.levels := (sampleIdle_frame s m).2.2.2.2.2.2.2.2.2.2.1
@[simp] theorem sampleIdle_pickup : (s.sampleIdle m).pickup = s.pickup := (sampleIdle_frame s m).2.2.2.2.2.2.2.2.2.2.2.1
@[simp] theorem sampleIdle_laser : (s.sampleIdle m).laser = s.laser := (sampleIdle_frame s m).2.2.2.2.2.2.2.2.2.2.2.2.1
@[simp] theorem sampleIdle_port : (s.sampleIdle m).port = s.port := (sampleIdle_frame s m).2.2.2.2.2.2.2.2.2.2.2.2.2.1
@[simp] theorem sampleIdle_alert : (s.sampleIdle m).alert = s.alert := (sampleIdle_frame s m).2.2.2.2.2.2.2.2.2.2.2.2.2.2.1
@[simp] theorem sampleIdle_pending : (s.sampleIdle m).pending = s.pending := (sampleIdle_frame s m).2.2.2.2.2.2.2.2.2.2.2.2.2.2.2
end

section
variable (s : State) (m : MonitorCode)
theorem dueIdleSample_frame :
    (s.dueIdleSample m).inReset = s.inReset ∧
    (s.dueIdleSample m).zones = s.zones ∧
    (s.dueIdleSample m).strategies = s.strategies ∧
    (s.dueIdleSample m).guards = s.guards ∧
    (s.dueIdleSample m).streams = s.streams ∧
    (s.dueIdleSample m).queue = s.queue ∧
    (s.dueIdleSample m).translating = s.translating ∧
    (s.dueIdleSample m).link = s.link ∧
    (s.dueIdleSample m).gate = s.gate ∧
    (s.dueIdleSample m).writePath = s.writePath ∧
    (s.dueIdleSample m).levels = s.levels ∧
    (s.dueIdleSample m).pickup = s.pickup ∧
    (s.dueIdleSample m).laser = s.laser ∧
    (s.dueIdleSample m).port = s.port ∧
    (s.dueIdleSample m).alert = s.alert ∧
    (s.dueIdleSample m).pending = s.pending := by
  unfold State.dueIdleSample
  (repeat' split) <;> simp
@[simp] theorem dueIdleSample_inReset : (s.dueIdleSample m).inReset = s.inReset := (dueIdleSample_frame s m).1
@[simp] theorem dueIdleSample_zones : (s.dueIdleSample m).zones = s.zones := (dueIdleSample_frame s m).2.1
@[simp] theorem dueIdleSample_strategies : (s.dueIdleSample m).strategies = s.strategies := (dueIdleSample_frame s m).2.2.1
@[simp] theorem dueIdleSample_guards : (s.dueIdleSample m).guards = s.guards := (dueIdleSample_frame s m).2.2.2.1
@[simp] theorem dueIdleSample_streams : (s.dueIdleSample m).streams = s.streams := (dueIdleSample_frame s m).2.2.2.2.1
@[simp] theorem dueIdleSample_queue : (s.dueIdleSample m).queue = s.queue := (dueIdleSample_frame s m).2.2.2.2.2.1
@[simp] theorem dueIdleSample_translating : (s.dueIdleSample m).translating = s.translating := (dueIdleSample_frame s m).2.2.2.2.2.2.1
@[simp] theorem dueIdleSample_link : (s.dueIdleSample m).link = s.link := (dueIdleSample_frame s m).2.2.2.2.2.2.2.1
@[simp] theorem dueIdleSample_gate : (s.dueIdleSample m).gate = s.gate := (dueIdleSample_frame s m).2.2.2.2.2.2.2.2.1
@[simp] theorem dueIdleSample_writePath : (s.dueIdleSample m).writePath = s.writePath := (dueIdleSample_frame s m).2.2.2.2.2.2.2.2.2.1
@[simp] theorem dueIdleSample_levels : (s.dueIdleSample m).levels = s.levels := (dueIdleSample_frame s m).2.2.2.2.2.2.2.2.2.2.1
@[simp] theorem dueIdleSample_pickup : (s.dueIdleSample m).pickup = s.pickup := (dueIdleSample_frame s m).2.2.2.2.2.2.2.2.2.2.2.1
@[simp] theorem dueIdleSample_laser : (s.dueIdleSample m).laser = s.laser := (dueIdleSample_frame s m).2.2.2.2.2.2.2.2.2.2.2.2.1
@[simp] theorem dueIdleSample_port : (s.dueIdleSample m).port = s.port := (dueIdleSample_frame s m).2.2.2.2.2.2.2.2.2.2.2.2.2.1
@[simp] theorem dueIdleSample_alert : (s.dueIdleSample m).alert = s.alert := (dueIdleSample_frame s m).2.2.2.2.2.2.2.2.2.2.2.2.2.2.1
@[simp] theorem dueIdleSample_pending : (s.dueIdleSample m).pending = s.pending := (dueIdleSample_frame s m).2.2.2.2.2.2.2.2.2.2.2.2.2.2.2
end

section
variable (s : State) (c : Conversion)
theorem compare_frame :
    (s.compare c).inReset = s.inReset ∧
    (s.compare c).guards = s.guards ∧
    (s.compare c).streams = s.streams ∧
    (s.compare c).port = s.port ∧
    (s.compare c).pending = s.pending := by
  simp only [State.compare]
  (repeat' split) <;> simp
@[simp] theorem compare_inReset : (s.compare c).inReset = s.inReset := (compare_frame s c).1
@[simp] theorem compare_guards : (s.compare c).guards = s.guards := (compare_frame s c).2.1
@[simp] theorem compare_streams : (s.compare c).streams = s.streams := (compare_frame s c).2.2.1
@[simp] theorem compare_port : (s.compare c).port = s.port := (compare_frame s c).2.2.2.1
@[simp] theorem compare_pending : (s.compare c).pending = s.pending := (compare_frame s c).2.2.2.2
end

section
variable (s : State) (c : Int)
theorem setApc_frame :
    (s.setApc c).inReset = s.inReset ∧
    (s.setApc c).zones = s.zones ∧
    (s.setApc c).strategies = s.strategies ∧
    (s.setApc c).guards = s.guards ∧
    (s.setApc c).streams = s.streams ∧
    (s.setApc c).queue = s.queue ∧
    (s.setApc c).translating = s.translating ∧
    (s.setApc c).link = s.link ∧
    (s.setApc c).gate = s.gate ∧
    (s.setApc c).writePath = s.writePath ∧
    (s.setApc c).levels = s.levels ∧
    (s.setApc c).pickup = s.pickup ∧
    (s.setApc c).port = s.port ∧
    (s.setApc c).pending = s.pending := by
  simp only [State.setApc]
  (repeat' split) <;> simp
@[simp] theorem setApc_inReset : (s.setApc c).inReset = s.inReset := (setApc_frame s c).1
@[simp] theorem setApc_zones : (s.setApc c).zones = s.zones := (setApc_frame s c).2.1
@[simp] theorem setApc_strategies : (s.setApc c).strategies = s.strategies := (setApc_frame s c).2.2.1
@[simp] theorem setApc_guards : (s.setApc c).guards = s.guards := (setApc_frame s c).2.2.2.1
@[simp] theorem setApc_streams : (s.setApc c).streams = s.streams := (setApc_frame s c).2.2.2.2.1
@[simp] theorem setApc_queue : (s.setApc c).queue = s.queue := (setApc_frame s c).2.2.2.2.2.1
@[simp] theorem setApc_translating : (s.setApc c).translating = s.translating := (setApc_frame s c).2.2.2.2.2.2.1
@[simp] theorem setApc_link : (s.setApc c).link = s.link := (setApc_frame s c).2.2.2.2.2.2.2.1
@[simp] theorem setApc_gate : (s.setApc c).gate = s.gate := (setApc_frame s c).2.2.2.2.2.2.2.2.1
@[simp] theorem setApc_writePath : (s.setApc c).writePath = s.writePath := (setApc_frame s c).2.2.2.2.2.2.2.2.2.1
@[simp] theorem setApc_levels : (s.setApc c).levels = s.levels := (setApc_frame s c).2.2.2.2.2.2.2.2.2.2.1
@[simp] theorem setApc_pickup : (s.setApc c).pickup = s.pickup := (setApc_frame s c).2.2.2.2.2.2.2.2.2.2.2.1
@[simp] theorem setApc_port : (s.setApc c).port = s.port := (setApc_frame s c).2.2.2.2.2.2.2.2.2.2.2.2.1
@[simp] theorem setApc_pending : (s.setApc c).pending = s.pending := (setApc_frame s c).2.2.2.2.2.2.2.2.2.2.2.2.2
end

section
variable (s : State) (c : Conversion)
theorem apcStep_frame :
    (s.apcStep c).inReset = s.inReset ∧
    (s.apcStep c).zones = s.zones ∧
    (s.apcStep c).strategies = s.strategies ∧
    (s.apcStep c).guards = s.guards ∧
    (s.apcStep c).streams = s.streams ∧
    (s.apcStep c).queue = s.queue ∧
    (s.apcStep c).translating = s.translating ∧
    (s.apcStep c).link = s.link ∧
    (s.apcStep c).gate = s.gate ∧
    (s.apcStep c).writePath = s.writePath ∧
    (s.apcStep c).levels = s.levels ∧
    (s.apcStep c).pickup = s.pickup ∧
    (s.apcStep c).port = s.port ∧
    (s.apcStep c).pending = s.pending := by
  unfold State.apcStep
  (repeat' split) <;> simp
@[simp] theorem apcStep_inReset : (s.apcStep c).inReset = s.inReset := (apcStep_frame s c).1
@[simp] theorem apcStep_zones : (s.apcStep c).zones = s.zones := (apcStep_frame s c).2.1
@[simp] theorem apcStep_strategies : (s.apcStep c).strategies = s.strategies := (apcStep_frame s c).2.2.1
@[simp] theorem apcStep_guards : (s.apcStep c).guards = s.guards := (apcStep_frame s c).2.2.2.1
@[simp] theorem apcStep_streams : (s.apcStep c).streams = s.streams := (apcStep_frame s c).2.2.2.2.1
@[simp] theorem apcStep_queue : (s.apcStep c).queue = s.queue := (apcStep_frame s c).2.2.2.2.2.1
@[simp] theorem apcStep_translating : (s.apcStep c).translating = s.translating := (apcStep_frame s c).2.2.2.2.2.2.1
@[simp] theorem apcStep_link : (s.apcStep c).link = s.link := (apcStep_frame s c).2.2.2.2.2.2.2.1
@[simp] theorem apcStep_gate : (s.apcStep c).gate = s.gate := (apcStep_frame s c).2.2.2.2.2.2.2.2.1
@[simp] theorem apcStep_writePath : (s.apcStep c).writePath = s.writePath := (apcStep_frame s c).2.2.2.2.2.2.2.2.2.1
@[simp] theorem apcStep_levels : (s.apcStep c).levels = s.levels := (apcStep_frame s c).2.2.2.2.2.2.2.2.2.2.1
@[simp] theorem apcStep_pickup : (s.apcStep c).pickup = s.pickup := (apcStep_frame s c).2.2.2.2.2.2.2.2.2.2.2.1
@[simp] theorem apcStep_port : (s.apcStep c).port = s.port := (apcStep_frame s c).2.2.2.2.2.2.2.2.2.2.2.2.1
@[simp] theorem apcStep_pending : (s.apcStep c).pending = s.pending := (apcStep_frame s c).2.2.2.2.2.2.2.2.2.2.2.2.2
end

section
variable (s : State) (c : Conversion)
theorem completeConversion_frame :
    (s.completeConversion c).inReset = s.inReset ∧
    (s.completeConversion c).guards = s.guards ∧
    (s.completeConversion c).streams = s.streams ∧
    (s.completeConversion c).port = s.port ∧
    (s.completeConversion c).pending = s.pending := by
  simp only [State.completeConversion]
  (repeat' split) <;> simp
@[simp] theorem completeConversion_inReset : (s.completeConversion c).inReset = s.inReset := (completeConversion_frame s c).1
@[simp] theorem completeConversion_guards : (s.completeConversion c).guards = s.guards := (completeConversion_frame s c).2.1
@[simp] theorem completeConversion_streams : (s.completeConversion c).streams = s.streams := (completeConversion_frame s c).2.2.1
@[simp] theorem completeConversion_port : (s.completeConversion c).port = s.port := (completeConversion_frame s c).2.2.2.1
@[simp] theorem completeConversion_pending : (s.completeConversion c).pending = s.pending := (completeConversion_frame s c).2.2.2.2
end

section
variable (s : State)
theorem tick_frame :
    (s.tick).inReset = s.inReset ∧
    (s.tick).zones = s.zones ∧
    (s.tick).strategies = s.strategies ∧
    (s.tick).guards = s.guards ∧
    (s.tick).streams = s.streams ∧
    (s.tick).queue = s.queue ∧
    (s.tick).translating = s.translating ∧
    (s.tick).link = s.link ∧
    (s.tick).gate = s.gate ∧
    (s.tick).writePath = s.writePath ∧
    (s.tick).levels = s.levels ∧
    (s.tick).pending = s.pending := by
  unfold State.tick
  (repeat' split) <;> simp
@[simp] theorem tick_inReset : (s.tick).inReset = s.inReset := (tick_frame s).1
@[simp] theorem tick_zones : (s.tick).zones = s.zones := (tick_frame s).2.1
@[simp] theorem tick_strategies : (s.tick).strategies = s.strategies := (tick_frame s).2.2.1
@[simp] theorem tick_guards : (s.tick).guards = s.guards := (tick_frame s).2.2.2.1
@[simp] theorem tick_streams : (s.tick).streams = s.streams := (tick_frame s).2.2.2.2.1
@[simp] theorem tick_queue : (s.tick).queue = s.queue := (tick_frame s).2.2.2.2.2.1
@[simp] theorem tick_translating : (s.tick).translating = s.translating := (tick_frame s).2.2.2.2.2.2.1
@[simp] theorem tick_link : (s.tick).link = s.link := (tick_frame s).2.2.2.2.2.2.2.1
@[simp] theorem tick_gate : (s.tick).gate = s.gate := (tick_frame s).2.2.2.2.2.2.2.2.1
@[simp] theorem tick_writePath : (s.tick).writePath = s.writePath := (tick_frame s).2.2.2.2.2.2.2.2.2.1
@[simp] theorem tick_levels : (s.tick).levels = s.levels := (tick_frame s).2.2.2.2.2.2.2.2.2.2.1
@[simp] theorem tick_pending : (s.tick).pending = s.pending := (tick_frame s).2.2.2.2.2.2.2.2.2.2.2
end

/-! ### Meanings -/

/-- What `execute` leaves of the blocks a rule's body keeps: the state is untouched, or is the body's with the executor's
result. -/
theorem execute_next {s t : State} {code : Byte} {g : Level} {f : Level → List Byte → State → Answered}
    (h : s.execute code g f = .next t) :
    t = s ∨ ∃ l ps r, t = s.withPort { s.port with executor := some ⟨l, code, ps, some r⟩ } ∨
      t = (f l ps s).1.withPort { (f l ps s).1.port with executor := some ⟨l, code, ps, some r⟩ } := by
  simp only [State.execute, State.whenRunning] at h
  injection h with h
  subst h
  split
  · exact .inl rfl
  · split
    · next l c ps he =>
      split
      · next hc =>
        subst hc
        by_cases hl : l ≤ g
        · exact .inr ⟨l, ps, (f l ps s).2, .inr (by simp [hl])⟩
        · exact .inr ⟨l, ps, ⟨.denied, []⟩, .inl (by simp [hl, refuseWith])⟩
      · exact .inl rfl
    · exact .inl rfl

theorem execLoadZone_keeps {s t : State} (h : execLoadZone s = .next t) :
    t.inReset = s.inReset ∧
    t.guards = s.guards ∧
    t.streams = s.streams ∧
    t.queue = s.queue ∧
    t.translating = s.translating ∧
    t.link = s.link ∧
    t.gate = s.gate ∧
    t.writePath = s.writePath ∧
    t.levels = s.levels ∧
    t.pickup = s.pickup ∧
    t.laser = s.laser ∧
    t.monitor = s.monitor ∧
    t.alert = s.alert ∧
    t.pending = s.pending := by
  obtain rfl | ⟨l, ps, r, rfl | rfl⟩ := execute_next h <;> simp

theorem execSetPowers_keeps {s t : State} (h : execSetPowers s = .next t) :
    t.inReset = s.inReset ∧
    t.strategies = s.strategies ∧
    t.guards = s.guards ∧
    t.streams = s.streams ∧
    t.queue = s.queue ∧
    t.translating = s.translating ∧
    t.link = s.link ∧
    t.gate = s.gate ∧
    t.writePath = s.writePath ∧
    t.pickup = s.pickup ∧
    t.laser = s.laser ∧
    t.monitor = s.monitor ∧
    t.alert = s.alert ∧
    t.pending = s.pending := by
  obtain rfl | ⟨l, ps, r, rfl | rfl⟩ := execute_next h <;> simp

theorem execSetTrimAbsolute_keeps {s t : State} (h : execSetTrimAbsolute s = .next t) :
    t.inReset = s.inReset ∧
    t.strategies = s.strategies ∧
    t.guards = s.guards ∧
    t.streams = s.streams ∧
    t.queue = s.queue ∧
    t.translating = s.translating ∧
    t.link = s.link ∧
    t.gate = s.gate ∧
    t.writePath = s.writePath ∧
    t.pickup = s.pickup ∧
    t.laser = s.laser ∧
    t.monitor = s.monitor ∧
    t.alert = s.alert ∧
    t.pending = s.pending := by
  obtain rfl | ⟨l, ps, r, rfl | rfl⟩ := execute_next h <;> simp

theorem execSetTrimShort_keeps {s t : State} (h : execSetTrimShort s = .next t) :
    t.inReset = s.inReset ∧
    t.strategies = s.strategies ∧
    t.guards = s.guards ∧
    t.streams = s.streams ∧
    t.queue = s.queue ∧
    t.translating = s.translating ∧
    t.link = s.link ∧
    t.gate = s.gate ∧
    t.writePath = s.writePath ∧
    t.pickup = s.pickup ∧
    t.laser = s.laser ∧
    t.monitor = s.monitor ∧
    t.alert = s.alert ∧
    t.pending = s.pending := by
  obtain rfl | ⟨l, ps, r, rfl | rfl⟩ := execute_next h <;> simp

theorem execSetAutotrim_keeps {s t : State} (h : execSetAutotrim s = .next t) :
    t.inReset = s.inReset ∧
    t.strategies = s.strategies ∧
    t.guards = s.guards ∧
    t.streams = s.streams ∧
    t.queue = s.queue ∧
    t.translating = s.translating ∧
    t.link = s.link ∧
    t.gate = s.gate ∧
    t.writePath = s.writePath ∧
    t.levels = s.levels ∧
    t.pickup = s.pickup ∧
    t.laser = s.laser ∧
    t.monitor = s.monitor ∧
    t.alert = s.alert ∧
    t.pending = s.pending := by
  obtain rfl | ⟨l, ps, r, rfl | rfl⟩ := execute_next h <;> simp

theorem execMarkAbsent_keeps {s t : State} (h : execMarkAbsent s = .next t) :
    t.inReset = s.inReset ∧
    t.guards = s.guards ∧
    t.streams = s.streams ∧
    t.writePath = s.writePath ∧
    t.laser = s.laser ∧
    t.monitor = s.monitor ∧
    t.pending = s.pending := by
  obtain rfl | ⟨l, ps, r, rfl | rfl⟩ := execute_next h <;> simp

theorem execMarkPresent_keeps {s t : State} (h : execMarkPresent s = .next t) :
    t.inReset = s.inReset ∧
    t.strategies = s.strategies ∧
    t.guards = s.guards ∧
    t.streams = s.streams ∧
    t.queue = s.queue ∧
    t.translating = s.translating ∧
    t.link = s.link ∧
    t.gate = s.gate ∧
    t.writePath = s.writePath ∧
    t.levels = s.levels ∧
    t.pickup = s.pickup ∧
    t.laser = s.laser ∧
    t.monitor = s.monitor ∧
    t.alert = s.alert ∧
    t.pending = s.pending := by
  obtain rfl | ⟨l, ps, r, rfl | rfl⟩ := execute_next h <;> simp

theorem execCloseZone_keeps {s t : State} (h : execCloseZone s = .next t) :
    t.inReset = s.inReset ∧
    t.guards = s.guards ∧
    t.streams = s.streams ∧
    t.writePath = s.writePath ∧
    t.laser = s.laser ∧
    t.monitor = s.monitor ∧
    t.pending = s.pending := by
  obtain rfl | ⟨l, ps, r, rfl | rfl⟩ := execute_next h <;> simp

theorem execReopenZone_keeps {s t : State} (h : execReopenZone s = .next t) :
    t.inReset = s.inReset ∧
    t.strategies = s.strategies ∧
    t.guards = s.guards ∧
    t.streams = s.streams ∧
    t.queue = s.queue ∧
    t.translating = s.translating ∧
    t.link = s.link ∧
    t.gate = s.gate ∧
    t.writePath = s.writePath ∧
    t.levels = s.levels ∧
    t.pickup = s.pickup ∧
    t.laser = s.laser ∧
    t.monitor = s.monitor ∧
    t.alert = s.alert ∧
    t.pending = s.pending := by
  obtain rfl | ⟨l, ps, r, rfl | rfl⟩ := execute_next h <;> simp

theorem execReleaseZone_keeps {s t : State} (h : execReleaseZone s = .next t) :
    t.inReset = s.inReset ∧
    t.guards = s.guards ∧
    t.streams = s.streams ∧
    t.writePath = s.writePath ∧
    t.laser = s.laser ∧
    t.monitor = s.monitor ∧
    t.pending = s.pending := by
  obtain rfl | ⟨l, ps, r, rfl | rfl⟩ := execute_next h <;> simp

theorem execReadZone_keeps {s t : State} (h : execReadZone s = .next t) :
    t.inReset = s.inReset ∧
    t.zones = s.zones ∧
    t.strategies = s.strategies ∧
    t.guards = s.guards ∧
    t.streams = s.streams ∧
    t.queue = s.queue ∧
    t.translating = s.translating ∧
    t.link = s.link ∧
    t.gate = s.gate ∧
    t.writePath = s.writePath ∧
    t.levels = s.levels ∧
    t.pickup = s.pickup ∧
    t.laser = s.laser ∧
    t.monitor = s.monitor ∧
    t.alert = s.alert ∧
    t.pending = s.pending := by
  obtain rfl | ⟨l, ps, r, rfl | rfl⟩ := execute_next h <;> simp

theorem execFindZone_keeps {s t : State} (h : execFindZone s = .next t) :
    t.inReset = s.inReset ∧
    t.zones = s.zones ∧
    t.strategies = s.strategies ∧
    t.guards = s.guards ∧
    t.streams = s.streams ∧
    t.queue = s.queue ∧
    t.translating = s.translating ∧
    t.link = s.link ∧
    t.gate = s.gate ∧
    t.writePath = s.writePath ∧
    t.levels = s.levels ∧
    t.pickup = s.pickup ∧
    t.laser = s.laser ∧
    t.monitor = s.monitor ∧
    t.alert = s.alert ∧
    t.pending = s.pending := by
  obtain rfl | ⟨l, ps, r, rfl | rfl⟩ := execute_next h <;> simp

theorem execSweep_keeps {s t : State} (h : execSweep s = .next t) :
    t.inReset = s.inReset ∧
    t.strategies = s.strategies ∧
    t.guards = s.guards ∧
    t.streams = s.streams ∧
    t.queue = s.queue ∧
    t.translating = s.translating ∧
    t.link = s.link ∧
    t.gate = s.gate ∧
    t.writePath = s.writePath ∧
    t.levels = s.levels ∧
    t.pickup = s.pickup ∧
    t.laser = s.laser ∧
    t.monitor = s.monitor ∧
    t.alert = s.alert ∧
    t.pending = s.pending := by
  obtain rfl | ⟨l, ps, r, rfl | rfl⟩ := execute_next h <;> simp

theorem execLoadStrategy_keeps {s t : State} (h : execLoadStrategy s = .next t) :
    t.inReset = s.inReset ∧
    t.zones = s.zones ∧
    t.guards = s.guards ∧
    t.streams = s.streams ∧
    t.queue = s.queue ∧
    t.translating = s.translating ∧
    t.link = s.link ∧
    t.gate = s.gate ∧
    t.writePath = s.writePath ∧
    t.levels = s.levels ∧
    t.pickup = s.pickup ∧
    t.laser = s.laser ∧
    t.monitor = s.monitor ∧
    t.alert = s.alert ∧
    t.pending = s.pending := by
  obtain rfl | ⟨l, ps, r, rfl | rfl⟩ := execute_next h <;> simp

theorem execReleaseStrategy_keeps {s t : State} (h : execReleaseStrategy s = .next t) :
    t.inReset = s.inReset ∧
    t.zones = s.zones ∧
    t.guards = s.guards ∧
    t.streams = s.streams ∧
    t.queue = s.queue ∧
    t.translating = s.translating ∧
    t.link = s.link ∧
    t.gate = s.gate ∧
    t.writePath = s.writePath ∧
    t.levels = s.levels ∧
    t.pickup = s.pickup ∧
    t.laser = s.laser ∧
    t.monitor = s.monitor ∧
    t.alert = s.alert ∧
    t.pending = s.pending := by
  obtain rfl | ⟨l, ps, r, rfl | rfl⟩ := execute_next h <;> simp

theorem execReadStrategy_keeps {s t : State} (h : execReadStrategy s = .next t) :
    t.inReset = s.inReset ∧
    t.zones = s.zones ∧
    t.strategies = s.strategies ∧
    t.guards = s.guards ∧
    t.streams = s.streams ∧
    t.queue = s.queue ∧
    t.translating = s.translating ∧
    t.link = s.link ∧
    t.gate = s.gate ∧
    t.writePath = s.writePath ∧
    t.levels = s.levels ∧
    t.pickup = s.pickup ∧
    t.laser = s.laser ∧
    t.monitor = s.monitor ∧
    t.alert = s.alert ∧
    t.pending = s.pending := by
  obtain rfl | ⟨l, ps, r, rfl | rfl⟩ := execute_next h <;> simp

theorem execOpenStream_keeps {s t : State} (h : execOpenStream s = .next t) :
    t.inReset = s.inReset ∧
    t.zones = s.zones ∧
    t.strategies = s.strategies ∧
    t.guards = s.guards ∧
    t.queue = s.queue ∧
    t.translating = s.translating ∧
    t.link = s.link ∧
    t.gate = s.gate ∧
    t.writePath = s.writePath ∧
    t.levels = s.levels ∧
    t.pickup = s.pickup ∧
    t.laser = s.laser ∧
    t.monitor = s.monitor ∧
    t.alert = s.alert ∧
    t.pending = s.pending := by
  obtain rfl | ⟨l, ps, r, rfl | rfl⟩ := execute_next h <;> simp

theorem execCloseStream_keeps {s t : State} (h : execCloseStream s = .next t) :
    t.inReset = s.inReset ∧
    t.guards = s.guards ∧
    t.writePath = s.writePath ∧
    t.laser = s.laser ∧
    t.monitor = s.monitor ∧
    t.pending = s.pending := by
  obtain rfl | ⟨l, ps, r, rfl | rfl⟩ := execute_next h <;> simp

theorem execReadStream_keeps {s t : State} (h : execReadStream s = .next t) :
    t.inReset = s.inReset ∧
    t.zones = s.zones ∧
    t.strategies = s.strategies ∧
    t.guards = s.guards ∧
    t.streams = s.streams ∧
    t.queue = s.queue ∧
    t.translating = s.translating ∧
    t.link = s.link ∧
    t.gate = s.gate ∧
    t.writePath = s.writePath ∧
    t.levels = s.levels ∧
    t.pickup = s.pickup ∧
    t.laser = s.laser ∧
    t.monitor = s.monitor ∧
    t.alert = s.alert ∧
    t.pending = s.pending := by
  obtain rfl | ⟨l, ps, r, rfl | rfl⟩ := execute_next h <;> simp

theorem execAddGuard_keeps {s t : State} (h : execAddGuard s = .next t) :
    t.inReset = s.inReset ∧
    t.streams = s.streams ∧
    t.writePath = s.writePath ∧
    t.laser = s.laser ∧
    t.monitor = s.monitor ∧
    t.pending = s.pending := by
  obtain rfl | ⟨l, ps, r, rfl | rfl⟩ := execute_next h <;> simp

theorem execRemoveGuard_keeps {s t : State} (h : execRemoveGuard s = .next t) :
    t.inReset = s.inReset ∧
    t.zones = s.zones ∧
    t.strategies = s.strategies ∧
    t.streams = s.streams ∧
    t.queue = s.queue ∧
    t.translating = s.translating ∧
    t.link = s.link ∧
    t.gate = s.gate ∧
    t.writePath = s.writePath ∧
    t.levels = s.levels ∧
    t.pickup = s.pickup ∧
    t.laser = s.laser ∧
    t.monitor = s.monitor ∧
    t.alert = s.alert ∧
    t.pending = s.pending := by
  obtain rfl | ⟨l, ps, r, rfl | rfl⟩ := execute_next h <;> simp

theorem execListGuards_keeps {s t : State} (h : execListGuards s = .next t) :
    t.inReset = s.inReset ∧
    t.zones = s.zones ∧
    t.strategies = s.strategies ∧
    t.guards = s.guards ∧
    t.streams = s.streams ∧
    t.queue = s.queue ∧
    t.translating = s.translating ∧
    t.link = s.link ∧
    t.gate = s.gate ∧
    t.writePath = s.writePath ∧
    t.levels = s.levels ∧
    t.pickup = s.pickup ∧
    t.laser = s.laser ∧
    t.monitor = s.monitor ∧
    t.alert = s.alert ∧
    t.pending = s.pending := by
  obtain rfl | ⟨l, ps, r, rfl | rfl⟩ := execute_next h <;> simp

theorem execLoadLayer_keeps {s t : State} (h : execLoadLayer s = .next t) :
    t.inReset = s.inReset ∧
    t.zones = s.zones ∧
    t.strategies = s.strategies ∧
    t.guards = s.guards ∧
    t.streams = s.streams ∧
    t.queue = s.queue ∧
    t.translating = s.translating ∧
    t.link = s.link ∧
    t.gate = s.gate ∧
    t.writePath = s.writePath ∧
    t.levels = s.levels ∧
    t.laser = s.laser ∧
    t.monitor = s.monitor ∧
    t.alert = s.alert ∧
    t.pending = s.pending := by
  obtain rfl | ⟨l, ps, r, rfl | rfl⟩ := execute_next h <;> simp

theorem execReadPickup_keeps {s t : State} (h : execReadPickup s = .next t) :
    t.inReset = s.inReset ∧
    t.zones = s.zones ∧
    t.strategies = s.strategies ∧
    t.guards = s.guards ∧
    t.streams = s.streams ∧
    t.queue = s.queue ∧
    t.translating = s.translating ∧
    t.link = s.link ∧
    t.gate = s.gate ∧
    t.writePath = s.writePath ∧
    t.levels = s.levels ∧
    t.pickup = s.pickup ∧
    t.laser = s.laser ∧
    t.monitor = s.monitor ∧
    t.alert = s.alert ∧
    t.pending = s.pending := by
  obtain rfl | ⟨l, ps, r, rfl | rfl⟩ := execute_next h <;> simp

theorem execLoadLaserModel_keeps {s t : State} (h : execLoadLaserModel s = .next t) :
    t.inReset = s.inReset ∧
    t.zones = s.zones ∧
    t.strategies = s.strategies ∧
    t.guards = s.guards ∧
    t.streams = s.streams ∧
    t.queue = s.queue ∧
    t.translating = s.translating ∧
    t.link = s.link ∧
    t.gate = s.gate ∧
    t.writePath = s.writePath ∧
    t.levels = s.levels ∧
    t.pickup = s.pickup ∧
    t.monitor = s.monitor ∧
    t.alert = s.alert ∧
    t.pending = s.pending := by
  obtain rfl | ⟨l, ps, r, rfl | rfl⟩ := execute_next h <;> simp

theorem execLoadCeilings_keeps {s t : State} (h : execLoadCeilings s = .next t) :
    t.inReset = s.inReset ∧
    t.zones = s.zones ∧
    t.strategies = s.strategies ∧
    t.guards = s.guards ∧
    t.streams = s.streams ∧
    t.queue = s.queue ∧
    t.translating = s.translating ∧
    t.link = s.link ∧
    t.gate = s.gate ∧
    t.writePath = s.writePath ∧
    t.levels = s.levels ∧
    t.pickup = s.pickup ∧
    t.monitor = s.monitor ∧
    t.alert = s.alert ∧
    t.pending = s.pending := by
  obtain rfl | ⟨l, ps, r, rfl | rfl⟩ := execute_next h <;> simp

theorem execLaserOn_keeps {s t : State} (h : execLaserOn s = .next t) :
    t.inReset = s.inReset ∧
    t.guards = s.guards ∧
    t.streams = s.streams ∧
    t.pending = s.pending := by
  obtain rfl | ⟨l, ps, r, rfl | rfl⟩ := execute_next h <;> simp

theorem execLaserOff_keeps {s t : State} (h : execLaserOff s = .next t) :
    t.inReset = s.inReset ∧
    t.guards = s.guards ∧
    t.streams = s.streams ∧
    t.pending = s.pending := by
  obtain rfl | ⟨l, ps, r, rfl | rfl⟩ := execute_next h <;> simp

theorem execClearFault_keeps {s t : State} (h : execClearFault s = .next t) :
    t.inReset = s.inReset ∧
    t.zones = s.zones ∧
    t.strategies = s.strategies ∧
    t.guards = s.guards ∧
    t.streams = s.streams ∧
    t.queue = s.queue ∧
    t.translating = s.translating ∧
    t.link = s.link ∧
    t.gate = s.gate ∧
    t.pickup = s.pickup ∧
    t.alert = s.alert ∧
    t.pending = s.pending := by
  obtain rfl | ⟨l, ps, r, rfl | rfl⟩ := execute_next h <;> simp

theorem execReadLaser_keeps {s t : State} (h : execReadLaser s = .next t) :
    t.inReset = s.inReset ∧
    t.zones = s.zones ∧
    t.strategies = s.strategies ∧
    t.guards = s.guards ∧
    t.streams = s.streams ∧
    t.queue = s.queue ∧
    t.translating = s.translating ∧
    t.link = s.link ∧
    t.gate = s.gate ∧
    t.writePath = s.writePath ∧
    t.levels = s.levels ∧
    t.pickup = s.pickup ∧
    t.laser = s.laser ∧
    t.monitor = s.monitor ∧
    t.alert = s.alert ∧
    t.pending = s.pending := by
  obtain rfl | ⟨l, ps, r, rfl | rfl⟩ := execute_next h <;> simp

theorem execAckEvents_keeps {s t : State} (h : execAckEvents s = .next t) :
    t.inReset = s.inReset ∧
    t.zones = s.zones ∧
    t.strategies = s.strategies ∧
    t.guards = s.guards ∧
    t.streams = s.streams ∧
    t.queue = s.queue ∧
    t.translating = s.translating ∧
    t.link = s.link ∧
    t.gate = s.gate ∧
    t.writePath = s.writePath ∧
    t.levels = s.levels ∧
    t.pickup = s.pickup ∧
    t.laser = s.laser ∧
    t.monitor = s.monitor ∧
    t.pending = s.pending := by
  obtain rfl | ⟨l, ps, r, rfl | rfl⟩ := execute_next h <;> simp

theorem execSetPermissions_keeps {s t : State} (h : execSetPermissions s = .next t) :
    t.inReset = s.inReset ∧
    t.zones = s.zones ∧
    t.strategies = s.strategies ∧
    t.guards = s.guards ∧
    t.streams = s.streams ∧
    t.queue = s.queue ∧
    t.translating = s.translating ∧
    t.link = s.link ∧
    t.gate = s.gate ∧
    t.writePath = s.writePath ∧
    t.levels = s.levels ∧
    t.pickup = s.pickup ∧
    t.laser = s.laser ∧
    t.monitor = s.monitor ∧
    t.pending = s.pending := by
  obtain rfl | ⟨l, ps, r, rfl | rfl⟩ := execute_next h <;> simp

theorem execSetAlertMode_keeps {s t : State} (h : execSetAlertMode s = .next t) :
    t.inReset = s.inReset ∧
    t.zones = s.zones ∧
    t.strategies = s.strategies ∧
    t.guards = s.guards ∧
    t.streams = s.streams ∧
    t.queue = s.queue ∧
    t.translating = s.translating ∧
    t.link = s.link ∧
    t.gate = s.gate ∧
    t.writePath = s.writePath ∧
    t.levels = s.levels ∧
    t.pickup = s.pickup ∧
    t.laser = s.laser ∧
    t.monitor = s.monitor ∧
    t.pending = s.pending := by
  obtain rfl | ⟨l, ps, r, rfl | rfl⟩ := execute_next h <;> simp

theorem execReadEvents_keeps {s t : State} (h : execReadEvents s = .next t) :
    t.inReset = s.inReset ∧
    t.zones = s.zones ∧
    t.strategies = s.strategies ∧
    t.guards = s.guards ∧
    t.streams = s.streams ∧
    t.queue = s.queue ∧
    t.translating = s.translating ∧
    t.link = s.link ∧
    t.gate = s.gate ∧
    t.writePath = s.writePath ∧
    t.levels = s.levels ∧
    t.pickup = s.pickup ∧
    t.laser = s.laser ∧
    t.monitor = s.monitor ∧
    t.alert = s.alert ∧
    t.pending = s.pending := by
  obtain rfl | ⟨l, ps, r, rfl | rfl⟩ := execute_next h <;> simp

theorem execInquire_keeps {s t : State} (h : execInquire s = .next t) :
    t.inReset = s.inReset ∧
    t.zones = s.zones ∧
    t.strategies = s.strategies ∧
    t.guards = s.guards ∧
    t.streams = s.streams ∧
    t.queue = s.queue ∧
    t.translating = s.translating ∧
    t.link = s.link ∧
    t.gate = s.gate ∧
    t.writePath = s.writePath ∧
    t.levels = s.levels ∧
    t.pickup = s.pickup ∧
    t.laser = s.laser ∧
    t.monitor = s.monitor ∧
    t.alert = s.alert ∧
    t.pending = s.pending := by
  obtain rfl | ⟨l, ps, r, rfl | rfl⟩ := execute_next h <;> simp

theorem execUnmount_keeps {s t : State} (h : execUnmount s = .next t) :
    t.inReset = s.inReset ∧
    t.pending = s.pending := by
  obtain rfl | ⟨l, ps, r, rfl | rfl⟩ := execute_next h <;> simp

theorem execPowerOn_keeps {s t : State} (p : Pins) (h : execPowerOn p s = .next t) :
    t.pending = s.pending := by
  simp only [execPowerOn, State.atReset] at h
  injection h with h
  subst h
  (repeat' split) <;> simp

theorem execRstnLow_keeps {s t : State} (h : execRstnLow s = .next t) :
    t.pending = s.pending := by
  simp only [execRstnLow, State.holdInReset] at h
  injection h with h
  subst h
  simp

theorem execRstnRelease_keeps {s t : State} (p : Pins) (h : execRstnRelease p s = .next t) :
    t.pending = s.pending := by
  simp only [execRstnRelease, State.atReset] at h
  injection h with h
  subst h
  (repeat' split) <;> simp

theorem execReset_keeps {s t : State} (found : ResetLevels) (h : execReset found s = .next t) :
    t.pending = s.pending := by
  simp only [execReset, State.whenRunning, State.resetCommand, State.atReset] at h
  injection h with h
  subst h
  (repeat' split) <;> simp

theorem execAddressByte_keeps {s t : State} (b : Byte) (h : execAddressByte b s = .next t) :
    t.inReset = s.inReset ∧
    t.zones = s.zones ∧
    t.strategies = s.strategies ∧
    t.guards = s.guards ∧
    t.streams = s.streams ∧
    t.queue = s.queue ∧
    t.translating = s.translating ∧
    t.link = s.link ∧
    t.gate = s.gate ∧
    t.writePath = s.writePath ∧
    t.levels = s.levels ∧
    t.pickup = s.pickup ∧
    t.laser = s.laser ∧
    t.monitor = s.monitor ∧
    t.alert = s.alert ∧
    t.pending = s.pending := by
  simp only [execAddressByte, State.whenRunning] at h
  injection h with h
  subst h
  (repeat' split) <;> simp

theorem execWriteTransferEnd_keeps {s t : State} (h : execWriteTransferEnd s = .next t) :
    t.inReset = s.inReset ∧
    t.zones = s.zones ∧
    t.strategies = s.strategies ∧
    t.guards = s.guards ∧
    t.streams = s.streams ∧
    t.queue = s.queue ∧
    t.translating = s.translating ∧
    t.link = s.link ∧
    t.gate = s.gate ∧
    t.writePath = s.writePath ∧
    t.levels = s.levels ∧
    t.pickup = s.pickup ∧
    t.laser = s.laser ∧
    t.monitor = s.monitor ∧
    t.alert = s.alert ∧
    t.pending = s.pending := by
  simp only [execWriteTransferEnd, State.whenRunning] at h
  injection h with h
  subst h
  (repeat' split) <;> simp

theorem execCommandMessageByte_keeps {s t : State} (b : Byte) (h : execCommandMessageByte b s = .next t) :
    t.inReset = s.inReset ∧
    t.guards = s.guards ∧
    t.streams = s.streams ∧
    t.pending = s.pending := by
  simp only [execCommandMessageByte, State.whenRunning] at h
  injection h with h
  subst h
  (repeat' split) <;> simp

theorem execAllStop_keeps {s t : State} (h : execAllStop s = .next t) :
    t.inReset = s.inReset ∧
    t.guards = s.guards ∧
    t.streams = s.streams ∧
    t.pending = s.pending := by
  simp only [execAllStop, State.whenRunning] at h
  injection h with h
  subst h
  (repeat' split) <;> simp

theorem execBusTimeout_keeps {s t : State} (h : execBusTimeout s = .next t) :
    t.inReset = s.inReset ∧
    t.zones = s.zones ∧
    t.strategies = s.strategies ∧
    t.guards = s.guards ∧
    t.streams = s.streams ∧
    t.queue = s.queue ∧
    t.translating = s.translating ∧
    t.link = s.link ∧
    t.gate = s.gate ∧
    t.writePath = s.writePath ∧
    t.levels = s.levels ∧
    t.pickup = s.pickup ∧
    t.laser = s.laser ∧
    t.monitor = s.monitor ∧
    t.pending = s.pending := by
  simp only [execBusTimeout, State.whenRunning] at h
  injection h with h
  subst h
  (repeat' split) <;> simp

theorem execCommandCompletion_keeps {s t : State} (h : execCommandCompletion s = .next t) :
    t.inReset = s.inReset ∧
    t.zones = s.zones ∧
    t.strategies = s.strategies ∧
    t.guards = s.guards ∧
    t.streams = s.streams ∧
    t.queue = s.queue ∧
    t.translating = s.translating ∧
    t.link = s.link ∧
    t.gate = s.gate ∧
    t.writePath = s.writePath ∧
    t.levels = s.levels ∧
    t.pickup = s.pickup ∧
    t.laser = s.laser ∧
    t.monitor = s.monitor ∧
    t.alert = s.alert ∧
    t.pending = s.pending := by
  simp only [execCommandCompletion, State.whenRunning] at h
  injection h with h
  subst h
  (repeat' split) <;> simp

theorem execAnnounce_keeps {s t : State} (tag packed step : Byte) (start : BitVec 32) (run : Byte) (h : execAnnounce tag packed step start run s = .next t) :
    t.inReset = s.inReset ∧
    t.zones = s.zones ∧
    t.strategies = s.strategies ∧
    t.guards = s.guards ∧
    t.streams = s.streams ∧
    t.gate = s.gate ∧
    t.writePath = s.writePath ∧
    t.laser = s.laser ∧
    t.monitor = s.monitor ∧
    t.port = s.port ∧
    t.pending = s.pending := by
  simp only [execAnnounce, State.whenRunning, State.endFrame] at h
  injection h with h
  subst h
  cases decodeAnnounce tag packed step start run <;> simp only [Option.map_none, Option.map_some, State.take] <;>
    (repeat' split) <;> simp

theorem execAbort_keeps {s t : State} (scope : Byte) (h : execAbort scope s = .next t) :
    t.inReset = s.inReset ∧
    t.guards = s.guards ∧
    t.streams = s.streams ∧
    t.writePath = s.writePath ∧
    t.laser = s.laser ∧
    t.monitor = s.monitor ∧
    t.port = s.port ∧
    t.pending = s.pending := by
  simp only [execAbort, State.whenRunning] at h
  injection h with h
  subst h
  (repeat' split) <;> simp

theorem execQuality_keeps {s t : State} (layer : Byte) (block : BitVec 32) (beta : Byte) (h : execQuality layer block beta s = .next t) :
    t.inReset = s.inReset ∧
    t.guards = s.guards ∧
    t.streams = s.streams ∧
    t.writePath = s.writePath ∧
    t.laser = s.laser ∧
    t.monitor = s.monitor ∧
    t.port = s.port ∧
    t.pending = s.pending := by
  simp only [execQuality, State.whenRunning] at h
  injection h with h
  subst h
  (repeat' split) <;> simp

theorem execMalformedMessage_keeps {s t : State} (bytes : List Byte) (whole : Bool) (h : execMalformedMessage bytes whole s = .next t) :
    t.inReset = s.inReset ∧
    t.guards = s.guards ∧
    t.streams = s.streams ∧
    t.writePath = s.writePath ∧
    t.laser = s.laser ∧
    t.monitor = s.monitor ∧
    t.port = s.port ∧
    t.pending = s.pending := by
  simp only [execMalformedMessage, State.whenRunning] at h
  injection h with h
  subst h
  (repeat' split) <;> simp

theorem execReplySend_keeps {s t : State} (h : execReplySend s = .next t) :
    t.inReset = s.inReset ∧
    t.zones = s.zones ∧
    t.strategies = s.strategies ∧
    t.guards = s.guards ∧
    t.streams = s.streams ∧
    t.queue = s.queue ∧
    t.translating = s.translating ∧
    t.gate = s.gate ∧
    t.writePath = s.writePath ∧
    t.levels = s.levels ∧
    t.pickup = s.pickup ∧
    t.laser = s.laser ∧
    t.monitor = s.monitor ∧
    t.port = s.port ∧
    t.alert = s.alert ∧
    t.pending = s.pending := by
  simp only [execReplySend, State.whenRunning] at h
  injection h with h
  subst h
  (repeat' split) <;> simp

theorem execTranslationComplete_keeps {s t : State} (h : execTranslationComplete s = .next t) :
    t.inReset = s.inReset ∧
    t.guards = s.guards ∧
    t.streams = s.streams ∧
    t.writePath = s.writePath ∧
    t.laser = s.laser ∧
    t.monitor = s.monitor ∧
    t.port = s.port ∧
    t.pending = s.pending := by
  simp only [execTranslationComplete, State.whenRunning] at h
  injection h with h
  subst h
  (repeat' split) <;> simp

theorem execLevelComputationComplete_keeps {s t : State} (h : execLevelComputationComplete s = .next t) :
    t.inReset = s.inReset ∧
    t.zones = s.zones ∧
    t.strategies = s.strategies ∧
    t.guards = s.guards ∧
    t.streams = s.streams ∧
    t.queue = s.queue ∧
    t.translating = s.translating ∧
    t.link = s.link ∧
    t.gate = s.gate ∧
    t.writePath = s.writePath ∧
    t.pickup = s.pickup ∧
    t.laser = s.laser ∧
    t.monitor = s.monitor ∧
    t.port = s.port ∧
    t.alert = s.alert ∧
    t.pending = s.pending := by
  simp only [execLevelComputationComplete, State.whenRunning] at h
  injection h with h
  subst h
  (repeat' split) <;> simp

theorem execIdleComputationComplete_keeps {s t : State} (h : execIdleComputationComplete s = .next t) :
    t.inReset = s.inReset ∧
    t.zones = s.zones ∧
    t.strategies = s.strategies ∧
    t.guards = s.guards ∧
    t.streams = s.streams ∧
    t.queue = s.queue ∧
    t.translating = s.translating ∧
    t.link = s.link ∧
    t.gate = s.gate ∧
    t.writePath = s.writePath ∧
    t.pickup = s.pickup ∧
    t.monitor = s.monitor ∧
    t.port = s.port ∧
    t.pending = s.pending := by
  simp only [execIdleComputationComplete, State.whenRunning] at h
  injection h with h
  subst h
  (repeat' split) <;> simp

theorem execBgateRise_keeps {s t : State} (h : execBgateRise s = .next t) :
    t.inReset = s.inReset ∧
    t.strategies = s.strategies ∧
    t.guards = s.guards ∧
    t.translating = s.translating ∧
    t.pickup = s.pickup ∧
    t.port = s.port ∧
    t.pending = s.pending := by
  simp only [execBgateRise, State.whenRunning] at h
  injection h with h
  subst h
  (repeat' split) <;> simp

theorem execBgateFall_keeps {s t : State} (h : execBgateFall s = .next t) :
    t.inReset = s.inReset ∧
    t.guards = s.guards ∧
    t.streams = s.streams ∧
    t.port = s.port ∧
    t.pending = s.pending := by
  simp only [execBgateFall, State.whenRunning] at h
  injection h with h
  subst h
  (repeat' split) <;> simp

theorem execWdataTransition_keeps {s t : State} (periods : Nat) (h : execWdataTransition periods s = .next t) :
    t.inReset = s.inReset ∧
    t.zones = s.zones ∧
    t.strategies = s.strategies ∧
    t.guards = s.guards ∧
    t.streams = s.streams ∧
    t.queue = s.queue ∧
    t.translating = s.translating ∧
    t.link = s.link ∧
    t.gate = s.gate ∧
    t.levels = s.levels ∧
    t.pickup = s.pickup ∧
    t.laser = s.laser ∧
    t.monitor = s.monitor ∧
    t.port = s.port ∧
    t.alert = s.alert ∧
    t.pending = s.pending := by
  simp only [execWdataTransition, State.whenRunning] at h
  injection h with h
  subst h
  (repeat' split) <;> simp

theorem execMarkStart_keeps {s t : State} (fmon : MonitorCode) (h : execMarkStart fmon s = .next t) :
    t.inReset = s.inReset ∧
    t.zones = s.zones ∧
    t.strategies = s.strategies ∧
    t.guards = s.guards ∧
    t.streams = s.streams ∧
    t.queue = s.queue ∧
    t.translating = s.translating ∧
    t.link = s.link ∧
    t.gate = s.gate ∧
    t.levels = s.levels ∧
    t.pickup = s.pickup ∧
    t.port = s.port ∧
    t.alert = s.alert ∧
    t.pending = s.pending := by
  simp only [execMarkStart, State.whenRunning] at h
  injection h with h
  subst h
  (repeat' split) <;> simp

theorem execPatternStepEnd_keeps {s t : State} (fmon : MonitorCode) (h : execPatternStepEnd fmon s = .next t) :
    t.inReset = s.inReset ∧
    t.zones = s.zones ∧
    t.strategies = s.strategies ∧
    t.guards = s.guards ∧
    t.streams = s.streams ∧
    t.queue = s.queue ∧
    t.translating = s.translating ∧
    t.link = s.link ∧
    t.gate = s.gate ∧
    t.levels = s.levels ∧
    t.pickup = s.pickup ∧
    t.port = s.port ∧
    t.alert = s.alert ∧
    t.pending = s.pending := by
  simp only [execPatternStepEnd, State.whenRunning] at h
  injection h with h
  subst h
  (repeat' split) <;> simp

theorem execSettleEnd_keeps {s t : State} (h : execSettleEnd s = .next t) :
    t.inReset = s.inReset ∧
    t.zones = s.zones ∧
    t.strategies = s.strategies ∧
    t.guards = s.guards ∧
    t.streams = s.streams ∧
    t.queue = s.queue ∧
    t.translating = s.translating ∧
    t.link = s.link ∧
    t.gate = s.gate ∧
    t.writePath = s.writePath ∧
    t.levels = s.levels ∧
    t.laser = s.laser ∧
    t.monitor = s.monitor ∧
    t.port = s.port ∧
    t.alert = s.alert ∧
    t.pending = s.pending := by
  simp only [execSettleEnd, State.whenRunning] at h
  injection h with h
  subst h
  (repeat' split) <;> simp

theorem execWarmUpExpiry_keeps {s t : State} (h : execWarmUpExpiry s = .next t) :
    t.inReset = s.inReset ∧
    t.zones = s.zones ∧
    t.strategies = s.strategies ∧
    t.guards = s.guards ∧
    t.streams = s.streams ∧
    t.queue = s.queue ∧
    t.translating = s.translating ∧
    t.link = s.link ∧
    t.gate = s.gate ∧
    t.levels = s.levels ∧
    t.pickup = s.pickup ∧
    t.port = s.port ∧
    t.pending = s.pending := by
  simp only [execWarmUpExpiry, State.whenRunning] at h
  injection h with h
  subst h
  (repeat' split) <;> simp

theorem execLoffAsserted_keeps {s t : State} (h : execLoffAsserted s = .next t) :
    t.inReset = s.inReset ∧
    t.guards = s.guards ∧
    t.streams = s.streams ∧
    t.port = s.port ∧
    t.pending = s.pending := by
  simp only [execLoffAsserted, State.whenRunning] at h
  injection h with h
  subst h
  (repeat' split) <;> simp

theorem execLoffReleased_keeps {s t : State} (h : execLoffReleased s = .next t) :
    t.inReset = s.inReset ∧
    t.zones = s.zones ∧
    t.strategies = s.strategies ∧
    t.guards = s.guards ∧
    t.streams = s.streams ∧
    t.queue = s.queue ∧
    t.translating = s.translating ∧
    t.link = s.link ∧
    t.gate = s.gate ∧
    t.writePath = s.writePath ∧
    t.levels = s.levels ∧
    t.pickup = s.pickup ∧
    t.monitor = s.monitor ∧
    t.port = s.port ∧
    t.alert = s.alert ∧
    t.pending = s.pending := by
  simp only [execLoffReleased, State.whenRunning] at h
  injection h with h
  subst h
  (repeat' split) <;> simp

theorem execTemperatureSample_keeps {s t : State} (temp : Int) (h : execTemperatureSample temp s = .next t) :
    t.inReset = s.inReset ∧
    t.guards = s.guards ∧
    t.streams = s.streams ∧
    t.port = s.port ∧
    t.pending = s.pending := by
  simp only [execTemperatureSample, State.whenRunning] at h
  injection h with h
  subst h
  (repeat' split) <;> simp

theorem execGateLimitExpiry_keeps {s t : State} (h : execGateLimitExpiry s = .next t) :
    t.inReset = s.inReset ∧
    t.guards = s.guards ∧
    t.streams = s.streams ∧
    t.port = s.port ∧
    t.pending = s.pending := by
  simp only [execGateLimitExpiry, State.whenRunning] at h
  injection h with h
  subst h
  (repeat' split) <;> simp

theorem execPllLosesLock_keeps {s t : State} (h : execPllLosesLock s = .next t) :
    t.inReset = s.inReset ∧
    t.guards = s.guards ∧
    t.streams = s.streams ∧
    t.port = s.port ∧
    t.pending = s.pending := by
  simp only [execPllLosesLock, State.whenRunning] at h
  injection h with h
  subst h
  (repeat' split) <;> simp

theorem execPllRegainsLock_keeps {s t : State} (h : execPllRegainsLock s = .next t) :
    t.inReset = s.inReset ∧
    t.zones = s.zones ∧
    t.strategies = s.strategies ∧
    t.guards = s.guards ∧
    t.streams = s.streams ∧
    t.queue = s.queue ∧
    t.translating = s.translating ∧
    t.link = s.link ∧
    t.gate = s.gate ∧
    t.writePath = s.writePath ∧
    t.levels = s.levels ∧
    t.pickup = s.pickup ∧
    t.monitor = s.monitor ∧
    t.port = s.port ∧
    t.alert = s.alert ∧
    t.pending = s.pending := by
  simp only [execPllRegainsLock, State.whenRunning] at h
  injection h with h
  subst h
  (repeat' split) <;> simp

theorem execLossTimerExpiry_keeps {s t : State} (h : execLossTimerExpiry s = .next t) :
    t.inReset = s.inReset ∧
    t.guards = s.guards ∧
    t.streams = s.streams ∧
    t.port = s.port ∧
    t.pending = s.pending := by
  simp only [execLossTimerExpiry, State.whenRunning] at h
  injection h with h
  subst h
  (repeat' split) <;> simp

theorem execBlockSample_keeps {s t : State} (fmon : MonitorCode) (h : execBlockSample fmon s = .next t) :
    t.inReset = s.inReset ∧
    t.zones = s.zones ∧
    t.strategies = s.strategies ∧
    t.guards = s.guards ∧
    t.streams = s.streams ∧
    t.queue = s.queue ∧
    t.translating = s.translating ∧
    t.link = s.link ∧
    t.gate = s.gate ∧
    t.writePath = s.writePath ∧
    t.levels = s.levels ∧
    t.pickup = s.pickup ∧
    t.laser = s.laser ∧
    t.port = s.port ∧
    t.alert = s.alert ∧
    t.pending = s.pending := by
  simp only [execBlockSample, State.whenRunning] at h
  injection h with h
  subst h
  (repeat' split) <;> simp

theorem execIdleSampleTimerExpiry_keeps {s t : State} (fmon : MonitorCode) (h : execIdleSampleTimerExpiry fmon s = .next t) :
    t.inReset = s.inReset ∧
    t.zones = s.zones ∧
    t.strategies = s.strategies ∧
    t.guards = s.guards ∧
    t.streams = s.streams ∧
    t.queue = s.queue ∧
    t.translating = s.translating ∧
    t.link = s.link ∧
    t.gate = s.gate ∧
    t.writePath = s.writePath ∧
    t.levels = s.levels ∧
    t.pickup = s.pickup ∧
    t.laser = s.laser ∧
    t.port = s.port ∧
    t.alert = s.alert ∧
    t.pending = s.pending := by
  simp only [execIdleSampleTimerExpiry, State.whenRunning] at h
  injection h with h
  subst h
  (repeat' split) <;> simp

theorem execConversionComplete_keeps {s t : State} (h : execConversionComplete s = .next t) :
    t.inReset = s.inReset ∧
    t.guards = s.guards ∧
    t.streams = s.streams ∧
    t.port = s.port ∧
    t.pending = s.pending := by
  simp only [execConversionComplete, State.whenRunning] at h
  injection h with h
  subst h
  (repeat' split) <;> simp

theorem execAlertPulseEnd_keeps {s t : State} (h : execAlertPulseEnd s = .next t) :
    t.inReset = s.inReset ∧
    t.zones = s.zones ∧
    t.strategies = s.strategies ∧
    t.guards = s.guards ∧
    t.streams = s.streams ∧
    t.queue = s.queue ∧
    t.translating = s.translating ∧
    t.link = s.link ∧
    t.gate = s.gate ∧
    t.writePath = s.writePath ∧
    t.levels = s.levels ∧
    t.pickup = s.pickup ∧
    t.laser = s.laser ∧
    t.monitor = s.monitor ∧
    t.port = s.port ∧
    t.pending = s.pending := by
  simp only [execAlertPulseEnd, State.whenRunning] at h
  injection h with h
  subst h
  (repeat' split) <;> simp

end Sys2Proof.Laws
end

