-- ==== Sys2Proof/Laws/Spec.lean ====
section
/-!
SUPPORT. What the shared operations do: for each block an operation touches, the fields it keeps and the value it gives the
others.
-/

namespace Sys2Proof.Laws

open Sys2Proof Sys2Proof.Machine

/-! ### Alert unit -/

section
variable (a : Alert) (s : State) (f : RequestFlag) (c : Bool)

@[simp] theorem trigger_requests : a.trigger.requests = a.requests := by unfold Alert.trigger; split <;> rfl
@[simp] theorem trigger_permissions : a.trigger.permissions = a.permissions := by unfold Alert.trigger; split <;> rfl
@[simp] theorem trigger_mode : a.trigger.mode = a.mode := by
  unfold Alert.trigger; split <;> simp_all
@[simp] theorem alert_raise_requests : (a.raise f).requests = a.requests ||| f.mask := by
  simp only [Alert.raise]; split <;> simp
@[simp] theorem alert_raise_permissions : (a.raise f).permissions = a.permissions := by
  simp only [Alert.raise]; split <;> simp
@[simp] theorem alert_raise_mode : (a.raise f).mode = a.mode := by
  simp only [Alert.raise]; split <;> simp
@[simp] theorem raise_requests : (s.raise f).alert.requests = s.alert.requests ||| f.mask := by simp [State.raise]
@[simp] theorem raise_permissions : (s.raise f).alert.permissions = s.alert.permissions := by simp [State.raise]
@[simp] theorem raise_mode : (s.raise f).alert.mode = s.alert.mode := by simp [State.raise]
theorem raiseIf_requests :
    (s.raiseIf c f).alert.requests = if c then s.alert.requests ||| f.mask else s.alert.requests := by
  cases c <;> simp [State.raiseIf]
@[simp] theorem raiseIf_permissions : (s.raiseIf c f).alert.permissions = s.alert.permissions := by
  cases c <;> simp [State.raiseIf]
@[simp] theorem raiseIf_mode : (s.raiseIf c f).alert.mode = s.alert.mode := by
  cases c <;> simp [State.raiseIf]
end

/-! ### Tables -/

section
variable (s : State) (i j : ZoneSlot) (z : Zone)

theorem setZone_zone : (s.setZone i z).zone j = if i = j then z else s.zone j := by
  simp [State.setZone, State.zone, Vector.getElem_set, Fin.ext_iff]
@[simp] theorem setZone_zone_self : (s.setZone i z).zone i = z := by simp [setZone_zone]
theorem setZone_zone_ne (h : i ≠ j) : (s.setZone i z).zone j = s.zone j := by simp [setZone_zone, h]
end

theorem setStrategy_strategy (s : State) (i j : StrategySlot) (t : Strategy) :
    (s.setStrategy i t).strategy j = if i = j then t else s.strategy j := by
  simp [State.setStrategy, State.strategy, Vector.getElem_set, Fin.ext_iff]

theorem setStream_stream (s : State) (i j : StreamNo) (t : Stream) :
    (s.setStream i t).stream j = if i = j then t else s.stream j := by
  simp [State.setStream, State.stream, Vector.getElem_set, Fin.ext_iff]

theorem mapTable_get {α β : Type} {n : Nat} (v : Vector α n) (f : α → β) (i : Fin n) :
    (mapTable v f)[i] = f v[i] := by
  simp [mapTable]

/-! ### Level computer -/

@[simp] theorem zoneOf_some (s : State) (i : ZoneSlot) : s.zoneOf (some i) = s.zone i := rfl
@[simp] theorem zoneOf_none (s : State) : s.zoneOf none = Zone.freeContent := rfl

theorem zoneOf_congr {s t : State} (hz : s.zones = t.zones) (slot : Option ZoneSlot) : s.zoneOf slot = t.zoneOf slot := by
  cases slot <;> simp [State.zone, hz]

/-- A computation reads nothing of the state but the descriptors and the laser (R33). -/
theorem levelInputs_congr {s t : State} (hz : s.zones = t.zones) (hl : s.laser = t.laser) (g : Target) :
    s.levelInputs g = t.levelInputs g := by
  simp [State.levelInputs, zoneOf_congr hz, hl]

/-! ### Replies -/

section
variable (s : State) (r : Reply) (rs : List Reply)

@[simp] theorem produce_ldo : (s.produce r).link.ldo = s.link.ldo := by
  unfold State.produce; split <;> simp
/-- A reply produced touches nothing of the link but the store (R59). -/
theorem produce_link : (s.produce r).link = { s.link with replies := (s.produce r).link.replies } := by
  unfold State.produce; split <;> simp
theorem produce_replies :
    (s.produce r).link.replies =
      if s.link.replies.length < Config.replyStoreDepth then s.link.replies ++ [r] else s.link.replies := by
  unfold State.produce; split <;> simp
theorem produce_bound (h : s.link.replies.length ≤ Config.replyStoreDepth) :
    (s.produce r).link.replies.length ≤ Config.replyStoreDepth := by
  rw [produce_replies]; split
  · simp; omega
  · exact h
@[simp] theorem produce_permissions : (s.produce r).alert.permissions = s.alert.permissions := by
  unfold State.produce; split <;> simp

/-- With room for all of them, the replies of one event join the store in their order (R59), and no flag is raised. -/
theorem produceAll_room (h : s.link.replies.length + rs.length ≤ Config.replyStoreDepth) :
    s.produceAll rs = s.withLink { s.link with replies := s.link.replies ++ rs } := by
  unfold State.produceAll
  induction rs generalizing s with
  | nil => rw [List.append_nil]; rfl
  | cons r rs ih =>
    have h1 : s.link.replies.length < Config.replyStoreDepth := by simp at h; omega
    have h2 : s.produce r = s.withLink { s.link with replies := s.link.replies ++ [r] } := by
      simp [State.produce, h1]
    rw [List.foldl_cons, ih, h2]
    · simp
    · rw [h2]; simp at h ⊢; omega
end

/-! ### The link -/

/-- What a byte out on LDO can do (R59). -/
theorem nextByte_cases (l : Link) :
    (∃ b left, l.sending = b :: left ∧ l.nextByte = { l with sending := left, ldo := b }) ∨
    (∃ r rest, l.sending = [] ∧ l.replies = r :: rest ∧
      l.nextByte = { l with replies := rest, sending := r.bytes.tail, ldo := r.bytes.headD ldoIdle }) ∨
    (l.sending = [] ∧ l.replies = [] ∧ l.nextByte = { l with ldo := ldoIdle }) := by
  obtain ⟨replies, sending, ldo, stale⟩ := l
  cases sending <;> cases replies <;> simp [Link.nextByte]

/-- A reply is never an empty run of bytes, and never more than eight (R59, section 12.2). -/
theorem reply_bytes (r : Reply) : ∃ b left, r.bytes = b :: left ∧ left.length ≤ 7 := by
  cases r <;> simp [Reply.bytes, bytes4]

/-- What the end of a frame can do (R57, R58). -/
theorem endFrame_cases (s : State) (m : Option LinkMessage) :
    (s.link.staleFrame = true ∧ s.endFrame m = s.withLink { s.link with staleFrame := false }) ∨
    (s.link.staleFrame = false ∧ m = none ∧ s.endFrame m = s.raise .linkerr) ∨
    (∃ msg, s.link.staleFrame = false ∧ m = some msg ∧ s.endFrame m = s.take msg) := by
  cases h : s.link.staleFrame <;> cases m <;> simp [State.endFrame, State.malformed, h]

/-! ### Level computer and pickup -/

/-- After it has looked for its target the level computer holds a set or a computation for that target alone (R31). -/
@[simp] theorem retarget_key (s : State) :
    s.retarget.levels.prepared.key = (targetOf s.queue).map fun t => (t.tag, t.block) := by
  simp only [State.retarget]
  split
  · next h => exact h.symm
  · cases targetOf s.queue <;> simp [Prepared.key, State.levelInputs]

/-- After a look for a move no condition of R118 is left met. -/
theorem maybeMove_settled (s : State) (layer : LayerNo) (e : Entry) (hm : s.maybeMove.pickup.motion = .settled layer)
    (hi : s.laser.state = .idle) (hc : ∀ f ∈ s.queue, f.state ≠ .current)
    (hf : s.queue.find? (fun e => decide (e.state = .accepted)) = some e) : e.layer = layer := by
  unfold State.maybeMove at hm
  cases hp : s.pickup.motion with
  | moving a b c => simp [hp] at hm
  | settled l =>
    simp only [hp, hf] at hm
    split at hm
    · simp [State.startMove] at hm
    · next h =>
      have : s.queue.any (fun e => decide (e.state = .current)) = false := by simpa using hc
      simp only [hi, this, true_and, Bool.false_eq_true, not_false_eq_true, ne_eq, Decidable.not_not] at h
      rw [hp] at hm
      injection hm with hm
      rw [h, hm]

section
variable (s : State) (i : ZoneSlot)

@[simp] theorem retarget_idleSet : s.retarget.levels.idleSet = s.levels.idleSet := by
  simp only [State.retarget]; split <;> simp
@[simp] theorem retarget_idleComp : s.retarget.levels.idleComp = s.levels.idleComp := by
  simp only [State.retarget]; split <;> simp
@[simp] theorem retarget_idleAgain : s.retarget.levels.idleAgain = s.levels.idleAgain := by
  simp only [State.retarget]; split <;> simp
@[simp] theorem retarget_handedOff : s.retarget.levels.handedOff = s.levels.handedOff := by
  simp only [State.retarget]; split <;> simp
@[simp] theorem retarget_servedSinceOn : s.retarget.levels.servedSinceOn = s.levels.servedSinceOn := by
  simp only [State.retarget]; split <;> simp
@[simp] theorem handOn_idleSet : (s.handOn i).levels.idleSet = s.levels.idleSet := by
  unfold State.handOn; (repeat' split) <;> simp
@[simp] theorem handOn_idleComp : (s.handOn i).levels.idleComp = s.levels.idleComp := by
  unfold State.handOn; (repeat' split) <;> simp
@[simp] theorem handOn_idleAgain : (s.handOn i).levels.idleAgain = s.levels.idleAgain := by
  unfold State.handOn; (repeat' split) <;> simp
@[simp] theorem handOn_handedOff : (s.handOn i).levels.handedOff = s.levels.handedOff := by
  unfold State.handOn; (repeat' split) <;> simp
@[simp] theorem handOn_servedSinceOn : (s.handOn i).levels.servedSinceOn = s.levels.servedSinceOn := by
  unfold State.handOn; (repeat' split) <;> simp

/-- Away from Idle no move starts (R118). -/
theorem maybeMove_dark (h : s.laser.state ≠ .idle) : s.maybeMove = s := by
  unfold State.maybeMove; split <;> simp [h]
@[simp] theorem maybeMove_layers : s.maybeMove.pickup.layers = s.pickup.layers := by
  unfold State.maybeMove; (repeat' split) <;> simp [State.startMove]

@[simp] theorem queueChanged_idleSet : s.queueChanged.levels.idleSet = s.levels.idleSet := by simp [State.queueChanged]
@[simp] theorem queueChanged_idleComp : s.queueChanged.levels.idleComp = s.levels.idleComp := by
  simp [State.queueChanged]
@[simp] theorem queueChanged_idleAgain : s.queueChanged.levels.idleAgain = s.levels.idleAgain := by
  simp [State.queueChanged]
@[simp] theorem queueChanged_handedOff : s.queueChanged.levels.handedOff = s.levels.handedOff := by
  simp [State.queueChanged]
@[simp] theorem queueChanged_servedSinceOn : s.queueChanged.levels.servedSinceOn = s.levels.servedSinceOn := by
  simp [State.queueChanged]
@[simp] theorem queueChanged_layers : s.queueChanged.pickup.layers = s.pickup.layers := by simp [State.queueChanged]
theorem queueChanged_pickup (h : s.laser.state ≠ .idle) : s.queueChanged.pickup = s.pickup := by
  rw [State.queueChanged, maybeMove_dark] <;> simp [h]
@[simp] theorem queueChanged_translating :
    s.queueChanged.translating = (s.queue.find? fun e => decide (e.state = .waiting)).map Entry.tag := by
  simp [State.queueChanged, State.startTranslator]
end

/-! ### Entries leaving -/

section
variable (s : State) (p : Entry → Bool) (reason : RevokeReason)

@[simp] theorem removeEntries_queue : (s.removeEntries p).queue = s.queue.filter fun e => !p e := by
  simp only [State.removeEntries]; (repeat' split) <;> simp
@[simp] theorem removeEntries_high : (s.removeEntries p).gate.high = s.gate.high := by
  simp only [State.removeEntries]; (repeat' split) <;> simp
@[simp] theorem flush_queue : (s.flush reason).queue = [] := by simp [State.flush]
@[simp] theorem flush_high : (s.flush reason).gate.high = s.gate.high := by simp [State.flush]
@[simp] theorem flush_translating : (s.flush reason).translating = none := by simp [State.flush]
@[simp] theorem flush_idleSet : (s.flush reason).levels.idleSet = s.levels.idleSet := by simp [State.flush]
@[simp] theorem flush_idleComp : (s.flush reason).levels.idleComp = s.levels.idleComp := by simp [State.flush]
@[simp] theorem flush_idleAgain : (s.flush reason).levels.idleAgain = s.levels.idleAgain := by simp [State.flush]
@[simp] theorem flush_handedOff : (s.flush reason).levels.handedOff = s.levels.handedOff := by simp [State.flush]
@[simp] theorem flush_servedSinceOn : (s.flush reason).levels.servedSinceOn = s.levels.servedSinceOn := by
  simp [State.flush]
@[simp] theorem flush_layers : (s.flush reason).pickup.layers = s.pickup.layers := by simp [State.flush]
theorem flush_pickup (h : s.laser.state ≠ .idle) : (s.flush reason).pickup = s.pickup := by
  rw [State.flush, queueChanged_pickup] <;> simp [h]
end

/-! ### Laser output -/

theorem readDrive_le (r : Nat) (apc : Int) (imax : Nat) : readDrive r apc imax ≤ imax := by
  simp only [readDrive, clampInt]; omega

section
variable (s : State) (dest : LaserState)

/-- The read drive stays within Imax, at level code 0, and nothing else of the laser changes (R41, R43, R124). -/
theorem formReadDrive_laser : s.formReadDrive.laser =
    { s.laser with current := s.formReadDrive.laser.current, lsel := .read } := by
  unfold State.formReadDrive; split <;> simp [State.drive]
theorem formReadDrive_current : s.formReadDrive.laser.current ≤ s.laser.ceilings.imax := by
  unfold State.formReadDrive; split <;> simp [State.drive, readDrive_le]

@[simp] theorem formReadDrive_lsel : s.formReadDrive.laser.lsel = .read := by rw [formReadDrive_laser]
@[simp] theorem formReadDrive_state : s.formReadDrive.laser.state = s.laser.state := by rw [formReadDrive_laser]
@[simp] theorem formReadDrive_ceilings : s.formReadDrive.laser.ceilings = s.laser.ceilings := by rw [formReadDrive_laser]
@[simp] theorem formReadDrive_gateTimer : s.formReadDrive.laser.gateTimer = s.laser.gateTimer := by
  rw [formReadDrive_laser]
@[simp] theorem formReadDrive_clock : s.formReadDrive.laser.clock = s.laser.clock := by rw [formReadDrive_laser]

/-- Idle as it is entered (R41, R124, R147). -/
theorem enterIdle_laser : s.enterIdle.laser =
    { s.laser with state := .idle, gateTimer := none, current := s.enterIdle.laser.current, lsel := .read } := by
  rw [State.enterIdle, formReadDrive_laser]; simp
theorem enterIdle_current : s.enterIdle.laser.current ≤ s.laser.ceilings.imax := by
  rw [State.enterIdle]; exact formReadDrive_current _
@[simp] theorem enterIdle_state : s.enterIdle.laser.state = .idle := by rw [enterIdle_laser]
@[simp] theorem enterIdle_lsel : s.enterIdle.laser.lsel = .read := by rw [enterIdle_laser]
@[simp] theorem enterIdle_ceilings : s.enterIdle.laser.ceilings = s.laser.ceilings := by rw [enterIdle_laser]
@[simp] theorem enterIdle_gateTimer : s.enterIdle.laser.gateTimer = none := by rw [enterIdle_laser]
@[simp] theorem enterIdle_clock : s.enterIdle.laser.clock = s.laser.clock := by rw [enterIdle_laser]
@[simp] theorem enterIdle_writePath : s.enterIdle.writePath = none := by simp [State.enterIdle]

/-- Off or Fault as it is entered from an on-state (R124). -/
@[simp] theorem darken_laser : (s.darken dest).laser =
    { s.laser with state := dest, current := 0, lsel := .read, warmUp := none, gateTimer := none } := by
  simp [State.darken]
@[simp] theorem darken_writePath : (s.darken dest).writePath = none := by simp [State.darken]
@[simp] theorem darken_levels : (s.darken dest).levels =
    { s.levels with idleSet := none, idleComp := none, idleAgain := false } := by
  simp [State.darken]
end

end Sys2Proof.Laws
end

