-- ==== Sys2Proof/Laws/Replies.lean ====
section
/-!
SUPPORT. What the operations that produce replies and set requests do, in the terms of the statements: AlertRaised for the alert
unit, Stored for the reply store, both composed over an event's parts.
-/

namespace Sys2Proof.Laws

open Sys2Proof Sys2Proof.Machine

/-! ### Request flags and the pulse (R168, R173) -/

theorem mask_and (f g : RequestFlag) : g.mask &&& f.mask = if f = g then f.mask else 0#16 := by
  cases f <;> cases g <;> decide

theorem mask_ne_zero (f : RequestFlag) : f.mask ≠ 0#16 := by cases f <;> decide

theorem mask_unused (f : RequestFlag) : f.mask &&& unusedFlags = 0#16 := by cases f <;> decide

theorem or_and_eq_zero (x y m : BitVec 16) : (x ||| y) &&& m = 0#16 ↔ x &&& m = 0#16 ∧ y &&& m = 0#16 := by
  rw [BitVec.and_comm, BitVec.and_or_distrib_left, BitVec.or_eq_zero_iff, BitVec.and_comm m x, BitVec.and_comm m y]

theorem raise_isSet (a : Alert) (f g : RequestFlag) : (a.raise g).isSet f = (a.isSet f || decide (f = g)) := by
  have h := or_and_eq_zero a.requests g.mask f.mask
  rw [mask_and] at h
  have hm := mask_ne_zero f
  unfold Alert.isSet
  rw [alert_raise_requests, Bool.eq_iff_iff]
  by_cases hf : f = g <;> simp_all

theorem raise_pulse (a : Alert) (g : RequestFlag) :
    (a.raise g).pulse = if a.mode = .pulse ∧ a.isGranted g = true ∧ a.isSet g = false then some 2 else a.pulse := by
  unfold Alert.raise Alert.trigger
  cases hm : a.mode <;> cases hg : a.isGranted g <;> cases hs : a.isSet g <;> simp [Config.pulseMicros]

theorem alertRaised_refl (a : Alert) : AlertRaised (fun _ => false) a a := ⟨by simp, rfl, ⟨rfl, rfl⟩, by simp, by simp⟩

theorem alertRaised_congr {p q : RequestFlag → Bool} {a b : Alert} (h : AlertRaised p a b) (e : ∀ f, p f = q f) :
    AlertRaised q a b := (funext e : p = q) ▸ h

theorem alertRaised_raise (a : Alert) (g : RequestFlag) : AlertRaised (fun f => decide (f = g)) a (a.raise g) := by
  refine ⟨fun f => raise_isSet a f g, ?_, ⟨by simp, by simp⟩, ?_, ?_⟩
  · rw [alert_raise_requests, BitVec.and_comm, BitVec.and_or_distrib_left, BitVec.and_comm unusedFlags g.mask, mask_unused,
      BitVec.or_zero, BitVec.and_comm]
  · rintro hm ⟨f, granted, clear, hf⟩
    obtain rfl := of_decide_eq_true hf
    rw [raise_pulse, if_pos ⟨hm, granted, clear⟩]
  · rintro h
    rw [raise_pulse, if_neg]
    rintro ⟨hm, granted, clear⟩
    rcases h with h | h
    · simp [h] at hm
    · simpa using h g granted clear

/-- One event's parts raise what either raises; the pulse ends 2 µs after the event whichever part triggers it. -/
theorem alertRaised_trans {p q : RequestFlag → Bool} {a b c : Alert} (h1 : AlertRaised p a b) (h2 : AlertRaised q b c) :
    AlertRaised (fun f => p f || q f) a c := by
  have hg : ∀ f, b.isGranted f = a.isGranted f := fun f => by unfold Alert.isGranted; rw [h1.settings.1]
  refine ⟨fun f => by rw [h2.flags, h1.flags, Bool.or_assoc], h2.unused.trans h1.unused,
    ⟨h2.settings.1.trans h1.settings.1, h2.settings.2.trans h1.settings.2⟩, ?_, ?_⟩
  · rintro hm ⟨f, granted, clear, hf⟩
    by_cases hq : ∃ f, b.isGranted f = true ∧ b.isSet f = false ∧ q f = true
    · exact h2.pulse (h1.settings.2.trans hm) hq
    · have quiet : ∀ f, b.isGranted f = true → b.isSet f = false → q f = false := fun f x y => by
        by_contra hc; exact hq ⟨f, x, y, by simpa using hc⟩
      rw [h2.quiet (Or.inr quiet)]
      refine h1.pulse hm ⟨f, granted, clear, ?_⟩
      by_contra hp
      have hp : p f = false := by simpa using hp
      have := quiet f (by rw [hg]; exact granted) (by rw [h1.flags, clear, hp]; rfl)
      simp [hp, this] at hf
  · rintro (h | h)
    · rw [h2.quiet (Or.inl (h1.settings.2.trans h)), h1.quiet (Or.inl h)]
    · have both : ∀ f, a.isGranted f = true → a.isSet f = false → p f = false ∧ q f = false := fun f x y => by
        simpa using h f x y
      rw [h2.quiet (Or.inr fun f x y => ?_), h1.quiet (Or.inr fun f x y => (both f x y).1)]
      rw [hg] at x
      rw [h1.flags] at y
      exact (both f x (Bool.or_eq_false_iff.1 y).1).2

/-! ### The reply store (R59) -/

theorem stored_nil {s t : State} (h : t.link = s.link) : Stored [] s t := by simp [Stored, h]

theorem stored_trans {x y : List Reply} {s t u : State} (h1 : Stored x s t) (h2 : Stored y t u) : Stored (x ++ y) s u := by
  unfold Stored at *
  rw [h2, h1]
  simp only [List.append_assoc, List.take_append]
  congr 4
  simp only [List.length_append, List.length_take]
  omega

@[simp] theorem drops_nil (s : State) : s.drops [] = false := by simp [State.drops]

theorem drops_append {x : List Reply} (y : List Reply) {s t : State} (h : Stored x s t) :
    s.drops (x ++ y) = (s.drops x || t.drops y) := by
  have : t.link.replies.length =
      s.link.replies.length + min (Config.replyStoreDepth - s.link.replies.length) x.length := by rw [h]; simp
  unfold State.drops
  rw [this, Bool.eq_iff_iff]
  simp only [List.length_append, decide_eq_true_eq, Bool.or_eq_true]
  omega

/-- All that producing a reply does to the link and the alert unit. -/
theorem produce_told (s : State) (r : Reply) :
    Stored [r] s (s.produce r) ∧
      AlertRaised (fun f => decide (f = .linkerr) && s.drops [r]) s.alert (s.produce r).alert := by
  unfold State.produce
  split
  · next h =>
    have : s.drops [r] = false := by simp [State.drops]; omega
    refine ⟨?_, alertRaised_congr (alertRaised_refl _) (by simp [this])⟩
    unfold Stored
    rw [List.take_of_length_le (by simp; omega)]; rfl
  · next h =>
    have : s.drops [r] = true := by simp [State.drops]; omega
    refine ⟨?_, alertRaised_congr (alertRaised_raise _ _) (by simp [this])⟩
    unfold Stored
    rw [show Config.replyStoreDepth - s.link.replies.length = 0 by omega]; simp [State.raise]

/-- The same of several replies. -/
theorem produceAll_told (s : State) (rs : List Reply) :
    Stored rs s (s.produceAll rs) ∧
      AlertRaised (fun f => decide (f = .linkerr) && s.drops rs) s.alert (s.produceAll rs).alert := by
  unfold State.produceAll
  induction rs generalizing s with
  | nil => exact ⟨stored_nil rfl, alertRaised_congr (alertRaised_refl _) (by simp)⟩
  | cons r rs ih =>
    obtain ⟨first, firstAlert⟩ := produce_told s r
    obtain ⟨rest, restAlert⟩ := ih (s.produce r)
    refine ⟨stored_trans first rest, alertRaised_congr (alertRaised_trans firstAlert restAlert) fun f => ?_⟩
    rw [show r :: rs = [r] ++ rs from rfl, drops_append rs first, Bool.and_or_distrib_left]

/-- REVOKEs produced together set the REVOKE request once, when there is any. -/
theorem produceRevokes_told (s : State) (rs : List Reply) :
    Stored rs s (s.produceRevokes rs) ∧
      AlertRaised (fun f => decide (f = .linkerr) && s.drops rs || decide (f = .revoke) && !rs.isEmpty) s.alert
        (s.produceRevokes rs).alert := by
  obtain ⟨store, alert⟩ := produceAll_told s rs
  unfold State.produceRevokes State.raiseIf
  cases h : rs.isEmpty
  · exact ⟨store, alertRaised_congr (alertRaised_trans alert (alertRaised_raise _ .revoke)) (by simp)⟩
  · exact ⟨store, alertRaised_congr alert (by simp)⟩

end Sys2Proof.Laws
end

