-- ==== Sys2Proof/WellFormed.lean ====
section
/-!
DEFINITION. Which commands the outside can present: the ranges of the operands that events bring
(R52, R58, R133). An executor command carries no operand, so it is always well formed; what its message holds
is checked by the command's own rule.
-/

namespace Sys2Proof

/-- The sensor gives whole degrees -40..+125 (R133). -/
def tempInRange (t : Int) : Bool := decide (Config.tempMin ≤ t ∧ t ≤ Config.tempMax)

/-- A block number field with neither of its two most significant bits set (R58). -/
def blockInSpace (b : BitVec 32) : Bool := decide (b.toNat ≤ Config.maxBlock)

/-- The operands lie in the ranges that the spec gives the event. -/
def Instr.wf : Instr → Bool
  | .powerOn p => tempInRange p.temp
  | .rstnRelease p => tempInRange p.temp
  | .reset r => tempInRange r.temp
  | .temperatureSample t => tempInRange t
  | .announce _ packed _ start _ => decide (packed.extractLsb' 2 2 ≠ 3#2) && blockInSpace start
  | .abort scope => decide (scope.toNat < 4 ∨ scope = 0xFF#8)
  | .quality _ block _ => blockInSpace block
  | .wdataTransition periods => decide (1 ≤ periods)
  | .rstnLow => true
  | .addressByte _ => true
  | .writeTransferEnd => true
  | .allStop => true
  | .busTimeout => true
  | .commandCompletion => true
  | .loadZone => true
  | .setPowers => true
  | .setTrimAbsolute => true
  | .setTrimShort => true
  | .setAutotrim => true
  | .markAbsent => true
  | .markPresent => true
  | .closeZone => true
  | .reopenZone => true
  | .releaseZone => true
  | .readZone => true
  | .findZone => true
  | .sweep => true
  | .loadStrategy => true
  | .releaseStrategy => true
  | .readStrategy => true
  | .openStream => true
  | .closeStream => true
  | .readStream => true
  | .addGuard => true
  | .removeGuard => true
  | .listGuards => true
  | .loadLayer => true
  | .readPickup => true
  | .loadLaserModel => true
  | .loadCeilings => true
  | .laserOn => true
  | .laserOff => true
  | .clearFault => true
  | .readLaser => true
  | .ackEvents => true
  | .setPermissions => true
  | .setAlertMode => true
  | .readEvents => true
  | .inquire => true
  | .unmount => true
  | .malformedMessage _ _ => true
  | .replySend => true
  | .translationComplete => true
  | .levelComputationComplete => true
  | .idleComputationComplete => true
  | .bgateRise => true
  | .bgateFall => true
  | .markStart _ => true
  | .patternStepEnd _ => true
  | .settleEnd => true
  | .warmUpExpiry => true
  | .loffAsserted => true
  | .loffReleased => true
  | .gateLimitExpiry => true
  | .pllLosesLock => true
  | .pllRegainsLock => true
  | .lossTimerExpiry => true
  | .blockSample _ => true
  | .idleSampleTimerExpiry _ => true
  | .conversionComplete => true
  | .alertPulseEnd => true
  | .commandMessageByte _ => true

end Sys2Proof
end

