-- ==== Sys2Proof/Tests/Slice0.lean ====
section
/-!
SUPPORT. Tests: the ill-formed terms that WellFormed refuses, the spec's worked cases (each names the section its numbers come from),
and for each statement of Certificates/Slice0 states and operands that meet its hypotheses, clause by clause.
-/

namespace Sys2Proof.Tests

open Sys2Proof Sys2Proof.Machine

/-! ### WellFormed: one ill-formed term for each check -/

theorem test_wf_power_on : (Instr.powerOn ⟨0, false, false, false, 126, false⟩).wf = false := by decide
theorem test_wf_rstn_release : (Instr.rstnRelease ⟨0, false, false, false, -41, false⟩).wf = false := by decide
theorem test_wf_reset : (Instr.reset ⟨-41, false⟩).wf = false := by decide
theorem test_wf_temperature : (Instr.temperatureSample 126).wf = false := by decide
theorem test_wf_announce_intent : (Instr.announce 0 0x0C#8 0 0 1).wf = false := by decide
theorem test_wf_announce_block : (Instr.announce 0 0 0 0x40000000#32 1).wf = false := by decide
theorem test_wf_abort : (Instr.abort 4).wf = false ∧ (Instr.abort 0xFF#8).wf = true := by decide
theorem test_wf_quality : (Instr.quality 0 0x40000000#32 0).wf = false := by decide
theorem test_wf_wdata : (Instr.wdataTransition 0).wf = false := by decide

/-! ### States that the tests run on -/

/-- Whether a command answers a next state that passes a check. -/
def after (c : Instr) (s : State) (check : State → Bool) : Bool :=
  match exec c s with
  | .next t => check t
  | .fault _ => false
  | .refused _ => false

/-- The executor holds this command. -/
def running (s : State) (l : Level) (code : Byte) (ps : List Byte) : State :=
  s.withPort { s.port with executor := some ⟨l, code, ps, none⟩ }

/-- The result the executor holds. -/
def resultOf (s : State) : Option Result := s.port.executor.bind Executing.result

/-- The laser model and ceilings of the worked case of 02_level_computation.md, the fields it leaves out filled in. -/
def nominalModel : LaserModel := ⟨300, 41, 1000, 12, 820, 20, 85⟩
def nominalCeilings : Ceilings := ⟨1600, 1800, 40, 70, 50, 4, 5⟩

/-- Strategy 3 of the worked example of 03_write_strategies.md. -/
def strategy3 : StrategyRecord := ⟨⟨4, 12, 8, 0, 8⟩, ⟨4, 14, 8, 4, 8⟩, ⟨3, 10, 7, 6, 10⟩, ⟨2, 10, 7, 6, 12⟩⟩

/-- Slot 20 of the worked case of 02_level_computation.md. -/
def zone20 : Zone :=
  { state := .loaded, layer := 0, first := 1000000, last := 1099999, kind := .rewrite, level := 1,
    powers := ⟨28, 400, 460, 180, 200, 8⟩, strategy := some 3, trim := 20, autoTrim := true, target := 0, deadband := 4,
    written := false, trimLimit := false, pins := 1 }

/-- Entry 7 of the same case. -/
def entry7 : Entry :=
  { tag := 7, stream := 0, intent := .write, layer := 0, start := 1050000, requested := 16, accepted := 16, step := none,
    primary := some 20, secondary := none, next := 1050000, served := 0, skipped := 0, state := .accepted, deferred := [] }

/-- What the computation for entry 7's first block reads. -/
def inputs7 : LevelInputs :=
  { tag := 7, block := 1050000, intent := .write, layer := 0, slot := some 20, step := none, first := 1000000, last := 1099999,
    powers := ⟨28, 400, 460, 180, 200, 8⟩, trim := 20, model := nominalModel, ceilings := nominalCeilings, temp := 45 }

/-- After reset, with the records loaded: layer 0, strategy 3 and slot 20 of the worked case, stream 0 in Record. -/
def loaded : State :=
  ((((State.reset.setZone 20 zone20).setStrategy 3 ⟨true, 1, strategy3⟩).setStream 0 ⟨.record, 1, 0, 0, none⟩).withPickup
    { State.reset.pickup with layers := State.reset.pickup.layers.set 0 ⟨true, 100, 0, 50⟩ }).withLaser
    { State.reset.laser with
      model := nominalModel, modelLoaded := true, ceilings := nominalCeilings, ceilingsLoaded := true, temp := 45,
      clock := .locked, pllLock := true }

/-- The idle set of the worked case. -/
def idle7 : IdleSet := idleSetOf ⟨nominalModel, nominalCeilings, 45⟩

/-- The laser in Idle before its first block, with entry 7 Accepted and its set prepared. -/
def ready7 : State :=
  (((loaded.withLaser { loaded.laser with state := .idle, current := 360 }).withLevels
    { loaded.levels with prepared := .ready (levelsOf inputs7), idleSet := some idle7 }).withQueue [entry7]).withMonitor
    { loaded.monitor with idleTimer := some 100 }

/-! ### Zone ranges and commands (01_the_zone_table.md) -/

/-- LOAD ZONE's parameters with these fields, powers 0 and no strategy. -/
def zoneParams (g f2 f1 f0 l2 l1 l0 : Byte) : List Byte := [5, 2, g, f2, f1, f0, l2, l1, l0] ++ List.replicate 14 0 ++ [0xFF#8]

/-- The rows of R2's table. -/
theorem test_zone_range_g1 :
    (zoneLoadOf (zoneParams 1 0x00#8 0x3D#8 0x09#8 0x00#8 0x43#8 0x23#8)).map (fun d => (d.first, d.last)) =
      some (1000000, 1100031) := by decide
theorem test_zone_range_short :
    (zoneLoadOf (zoneParams 1 0 0 0 0 0 0)).isNone ∧ (zoneLoadOf (zoneParams 0 0 0x01#8 0xF4#8 0 0x02#8 0xF2#8)).isNone ∧
      (zoneLoadOf (zoneParams 1 0xFF#8 0xFF#8 0xFF#8 0xFF#8 0xFF#8 0xFF#8)).isNone := by decide
theorem test_zone_range_256 :
    (zoneLoadOf (zoneParams 1 0 0 0 0 0 3)).map (fun d => (d.first, d.last)) = some (0, 255) ∧
      (zoneLoadOf (zoneParams 0 0 0x01#8 0xF4#8 0 0x02#8 0xF3#8)).map (fun d => (d.first, d.last)) = some (500, 755) := by decide

/-- R12: a trim of +120 with a short form of +20 gives +127; an absolute form of -500 gives -128. -/
theorem test_set_trim_short :
    after .setTrimShort (running (loaded.setZone 20 { zone20 with trim := 120 }) 0 codeSetTrimShort [20, 20])
      (fun t => (t.zone 20).trim == 127 && decide (resultOf t = some ⟨.done, [127#8]⟩)) = true := by decide
theorem test_set_trim_absolute :
    after .setTrimAbsolute (running loaded 0 codeSetTrimAbsolute [20, 0xFE#8, 0x0C#8])
      (fun t => (t.zone 20).trim == -128 && decide (resultOf t = some ⟨.done, [0x80#8]⟩)) = true := by decide

/-- R16, R70: the Absent slot's only entry has no block left before the cut, so it leaves with remaining run 0 and its pin goes. -/
theorem test_mark_absent :
    after .markAbsent (running ready7 0 codeMarkAbsent [20])
      (fun t => decide ((t.zone 20).state = .absent ∧ (t.zone 20).pins = 0 ∧ t.queue = [] ∧
        t.link.replies = [.revoke 7 0 .absent] ∧ t.levels.prepared = .absent)) = true := by decide

/-- R18: a user zone, closed by the edit bridge, keeps a Read entry's translation. -/
theorem test_close_zone_read :
    after .closeZone (running (ready7.withQueue [{ entry7 with intent := .read }]) 1 codeCloseZone [20])
      (fun t => decide ((t.zone 20).state = .closed ∧ (t.zone 20).pins = 1 ∧ t.queue.length = 1 ∧
        t.link.replies = [])) = true := by decide

/-- The block in service of entry 7. -/
def record7 : BlockRecord := ⟨true, 7, 0, 0, 1050000, .write, some 20, .served, false⟩

/-- Entry 7 with its first block in write service. -/
def writing7 : State :=
  ((((((ready7.withQueue [{ entry7 with next := 1050001, served := 1, state := .current }]).withGate
    ⟨true, some record7⟩).withLaser
    { ready7.laser with
      state := .writing, gateTimer := some 500, lsel := .bias, current := 412 }).withWritePath (some ⟨strategy3, 476, 412, 362, false, [], []⟩)).withMonitor
    { ready7.monitor with idleTimer := none, blockSamples := [⟨.writing, true, 4⟩] }).withLevels
    { ready7.levels with
      handedOff := some (levelsOf inputs7), servedSinceOn := true,
      prepared := .computing { inputs7 with block := 1050001 } })

/-- R20: with its block in service the released slot is Retiring with one pin, and Free at the fall. -/
theorem test_release_zone_retiring :
    after .releaseZone (running writing7 0 codeReleaseZone [20])
      (fun t => decide ((t.zone 20).state = .retiring ∧ resultOf t = some ⟨.done, [4, 1]⟩ ∧ t.laser.state = .writing)) =
        true := by decide
theorem test_release_zone_freed :
    after .releaseZone (running writing7 0 codeReleaseZone [20])
      (fun t => after .bgateFall t fun u => decide (u.zone 20 = Zone.freeContent ∧ (u.strategy 3).refs = 0 ∧
        u.alert.isSet .freed = true ∧ u.queue = [])) = true := by decide

/-! ### Levels (02_level_computation.md, the worked cases) -/

/-- Currents 476, 412, 367, 362 and no mark. -/
theorem test_levels_nominal :
    let l := levelsOf inputs7
    l.read.current = 367 ∧ l.write.map (fun w => (w.peak.current, w.bias.current, w.bottom.current)) = some (476, 412, 362) ∧
      l.write.map (fun w => (w.peak.power, w.bias.power, w.bottom.power)) = some (438, 194, 8) ∧
      l.powerClamped = false ∧ l.currentClamped = false := by decide
theorem test_levels_midpoint : interpolate 97 100 0 256 128 = 99 ∧ interpolate 100 97 0 256 128 = 98 := by decide
theorem test_levels_calibrate : applyStep 438 (some 15) = 541 ∧ applyStep 438 (some (-16)) = 329 := by decide
theorem test_levels_trim_past_range :
    applyTrim 1900 127 = 2136 ∧ writeLevel 2136 2000 1800 360 941 = ⟨2000, true, 891, false⟩ := by decide
theorem test_levels_hot :
    let m : LaserModel := ⟨400, 60, 800, 30, 820, 20, 85⟩
    thresholdCurrent m 70 = 664 ∧ slopeEfficiency m 70 = 536 ∧ writeLevel 2000 2000 1500 664 536 = ⟨2000, false, 1500, true⟩ := by
  decide
theorem test_levels_across_temperatures :
    [-40, 25, 45, 85, 125].map (fun t => (thresholdCurrent nominalModel t, slopeEfficiency nominalModel t)) =
      [(150, 1190), (300, 1000), (360, 941), (480, 824), (600, 707)] := by decide
theorem test_read_drive : currentFor 0 941 2 = 1 ∧ readDrive 1 (-64) 1800 = 0 ∧ readDrive 367 3 1800 = 370 := by decide

/-- A trim change against a gate rise: the stand-in set keeps peak 476 and a completion gives 477. -/
theorem test_trim_change :
    after .setTrimShort (running ready7 0 codeSetTrimShort [20, 4])
      (fun t => decide (t.levels.standIn = some (levelsOf inputs7)) &&
        after .levelComputationComplete t fun u => match u.levels.prepared with
          | .ready l => decide (l.write.map (fun w => (w.peak.current, w.bias.current)) = some (477, 412) ∧
              u.levels.standIn = none)
          | _ => false) = true := by decide
theorem test_trim_change_rise_first :
    after .setTrimShort (running ready7 0 codeSetTrimShort [20, 4])
      (fun t => after .bgateRise t fun u => decide (u.writePath.map WritePath.peak = some 476) &&
        match u.levels.prepared with
        | .computing i => decide (i.block = 1050001 ∧ i.trim = 24)
        | _ => false) = true := by decide

/-! ### Patterns (03_write_strategies.md, the worked example) -/

theorem test_pattern_2T : patternSteps strategy3 2 = [⟨.bottom, 4⟩, ⟨.peak, 12⟩, ⟨.bottom, 8⟩] := by decide
theorem test_pattern_3T : patternSteps strategy3 3 = [⟨.bottom, 4⟩, ⟨.peak, 14⟩, ⟨.peak, 4⟩, ⟨.bottom, 8⟩] := by decide
theorem test_pattern_4T : patternSteps strategy3 4 =
    [⟨.bottom, 3⟩, ⟨.peak, 10⟩, ⟨.peak, 7⟩, ⟨.bottom, 9⟩, ⟨.peak, 6⟩, ⟨.bottom, 10⟩] := by decide
theorem test_pattern_6T : patternSteps strategy3 6 =
    [⟨.bottom, 2⟩, ⟨.peak, 10⟩, ⟨.peak, 7⟩, ⟨.bottom, 9⟩, ⟨.peak, 7⟩, ⟨.bottom, 9⟩, ⟨.peak, 7⟩, ⟨.bottom, 9⟩, ⟨.peak, 6⟩,
      ⟨.bottom, 12⟩] := by decide

/-- R54: a mark of 1T is shaped as 2T. -/
theorem test_mark_1T :
    after (.wdataTransition 14) writing7 (fun t => after (.wdataTransition 1) t fun u => after (.markStart 900) u fun v =>
      decide (v.writePath.map WritePath.steps = some [⟨.bottom, 4⟩, ⟨.peak, 12⟩, ⟨.bottom, 8⟩] ∧ v.laser.lsel = .bottom ∧
        v.laser.current = 362)) = true := by decide

/-! ### Frames (section 12.2), each byte written out from the tables -/

/-- Type 0x11, tag 11, stream 2 layer 1 intent Calibrate (10 01 10 00), step -3 (11101), block 599,900, run 200. -/
theorem test_frame_announce :
    decodeFrame [0x11#8, 11, 0x98#8, 0x1D#8, 0x00#8, 0x09#8, 0x27#8, 0x5C#8, 200] true =
      some (.announce ⟨11, 2, 1, .calibrate, -3, 599900, 200⟩) := by decide
theorem test_frame_abort :
    decodeFrame [0x12#8, 3] true = some (.abort (some 3)) ∧ decodeFrame [0x12#8, 0xFF#8] true = some (.abort none) := by decide
theorem test_frame_quality :
    decodeFrame [0x13#8, 0x02#8, 0x00#8, 0x0F#8, 0x42#8, 0x40#8, 0xF6#8] true = some (.quality 2 1000000 (-10)) := by decide
theorem test_frame_malformed :
    decodeFrame [0x12#8, 4] true = none ∧ decodeFrame [] true = none ∧ decodeFrame [0x12#8, 3] false = none := by decide
theorem test_reply_bytes :
    (Reply.accept 11 200 true).bytes = [0x21#8, 11, 200, 1] ∧ (Reply.refuse 11 .duplicateTag).bytes = [0x22#8, 11, 2] ∧
      (Reply.skip none 0 .noEntry).bytes = [0x23#8, 0, 0, 0, 0, 0, 0, 1] ∧
      (Reply.skip (some 7) 1050000 .unlocked).bytes = [0x23#8, 1, 7, 0x00#8, 0x10#8, 0x05#8, 0x90#8, 5] ∧
      (Reply.done 10 32 0).bytes = [0x24#8, 10, 32, 0] ∧ (Reply.revoke 11 89 .guarded).bytes = [0x25#8, 11, 89, 4] := by decide

/-! ### Translations (04, the worked example) -/

/-- Two adjoining Rewrite zones, a guard range, stream 0 in Record and stream 1 in Playback. -/
def adjoining : State :=
  (((((loaded.withLaser { loaded.laser with state := .idle }).setZone 4
      { zone20 with first := 500000, last := 599999, pins := 0 }).setZone 5
      { zone20 with first := 600000, last := 699999, pins := 0 }).withGuards [⟨0, 650000, 650099, 1⟩]).setStream 0
    ⟨.record, 1, 0, 0, none⟩).setStream 1 ⟨.playback, 1, 0, 0, none⟩

/-- The answer to an announcement: the reply its admission and translation leave. -/
def answered (c : Instr) (r : Reply) : Bool :=
  after c adjoining fun t => after .translationComplete t fun u => decide (u.link.replies = [r])

theorem test_translation_plain : answered (.announce 10 0x40#8 0 510000#32 32) (.accept 10 32 false) = true := by decide
theorem test_translation_split : answered (.announce 11 0x04#8 0 599900#32 200) (.accept 11 200 true) = true := by decide
theorem test_translation_guard_cut : answered (.announce 12 0x04#8 0 649950#32 128) (.accept 12 50 false) = true := by decide
theorem test_translation_refused : answered (.announce 13 0x44#8 0 520000#32 8) (.refuse 13 .streamMode) = true := by decide
theorem test_announce_duplicate :
    after (.announce 7 0x04#8 0 700000#32 16) ready7
      (fun t => decide (t.link.replies = [.refuse 7 .duplicateTag] ∧ t.alert.isSet .refuse = true)) = true := by decide

/-! ### Output monitor (09, the tables of R144 and R149) -/

theorem test_measured_powers : [32, 35, 512, 522].map (measuredPower · 820) = [26, 28, 410, 418] := by decide
theorem test_allowances : [28, 438, 19, 0].map (allowance 5) = [1, 21, 0, 0] := by decide
theorem test_sample_bounds :
    sampleGood 27 28 5 = true ∧ sampleGood 26 28 5 = false ∧ sampleGood 459 438 5 = true ∧ sampleGood 460 438 5 = false := by
  decide

/-- R151: a mismatched read sample below its target counts and steps the offset up. -/
theorem test_conversion_steps :
    after .conversionComplete (ready7.withMonitor { ready7.monitor with conversion := some ⟨.idle, 32, 28, 820, 5⟩ })
      (fun t => decide (t.monitor.mismatch = 1 ∧ t.monitor.apc = 1 ∧ t.monitor.conversion = none)) = true := by decide

/-! ### Block service, interlock, port and alerts -/

theorem test_rise_serves :
    after .bgateRise ready7 (fun t => decide (t.laser.state = .writing ∧ t.laser.current = 412 ∧ t.laser.lsel = .bias ∧
      t.laser.gateTimer = some 500 ∧ (t.zone 20).written = true ∧ (t.stream 0).served = 1)) = true := by decide
theorem test_rise_skips_unlocked :
    after .bgateRise (ready7.withLaser { ready7.laser with clock := .unlocked })
      (fun t => decide (t.link.replies = [.skip (some 7) 1050000 .unlocked] ∧ t.laser.state = .idle ∧
        (t.stream 0).skipped = 1)) = true := by decide

/-- The APC offset of +3 gives the read drive 370 at the fall (02_level_computation.md). -/
theorem test_fall_read_drive :
    after .bgateFall (writing7.withMonitor { writing7.monitor with apc := 3 })
      (fun t => decide (t.laser.state = .idle ∧ t.laser.current = 370 ∧ t.writePath = none ∧ t.gate = ⟨false, none⟩)) =
        true := by decide

/-- R138: the loss of lock unlocks at the timer's end and stops write output. -/
theorem test_unlock_stops_writing :
    after .pllLosesLock writing7 (fun t => decide (t.laser.lossTimer = some 4 ∧ t.laser.state = .writing) &&
      after .lossTimerExpiry t fun u => decide (u.laser.state = .idle ∧ u.laser.clock = .unlocked ∧
        u.link.replies = [.revoke 7 0 .clockUnlock] ∧ u.queue = [])) = true := by decide

/-- R45: at a clock unlock in the last block of a run the set prepared for the entry behind it goes, and its levels are computed
afresh. -/
theorem test_unlock_computes_afresh :
    let behind : Entry := { entry7 with tag := 8, start := 1060000, next := 1060000 }
    let s := ((writing7.withQueue [{ entry7 with accepted := 1, next := 1050001, state := .current }, behind]).withLaser
      { writing7.laser with lossTimer := some 1 }).withLevels
        { writing7.levels with prepared := .ready { levelsOf inputs7 with tag := 8, block := 1060000 } }
    after .lossTimerExpiry s (fun t => decide (t.queue = [behind] ∧ t.levels.prepared =
      .computing { inputs7 with tag := 8, block := 1060000 } ∧ t.levels.handedOff = s.levels.handedOff)) = true := by decide

/-- R30, R85: the start block of an Accepted entry that a rise took while it was Waiting stays the target when MARK ABSENT removes
the primary translation (R6); the next rise finds no set for the entry's next block, in the secondary zone, which is then the target
after it. -/
theorem test_target_outlives_translation :
    let e : Entry := { entry7 with
      start := 599999, next := 600000, skipped := 1, primary := some 4, secondary := some (5, 600000) }
    let set : LevelSet := { levelsOf inputs7 with block := 599999, slot := some 4 }
    let s := (adjoining.withQueue [e]).withLevels { adjoining.levels with prepared := .ready set }
    after .markAbsent (running s 0 codeMarkAbsent [4#8]) (fun t =>
      decide (t.queue = [{ e with primary := none }] ∧ t.levels.prepared = .ready set) &&
        after .bgateRise t fun u => decide (u.link.replies = [.skip (some 7) 600000 .notReady] ∧
          u.levels.prepared.key = some (7, 600001))) = true := by decide

/-- R132, R133: a sample at Tlim faults the laser. -/
theorem test_over_temperature :
    after (.temperatureSample 85) ready7 (fun t => decide (t.laser.state = .fault ∧ t.laser.current = 0 ∧
      t.laser.faultRecord = ⟨.overTemp, some .idle, none, false⟩ ∧ t.link.replies = [.revoke 7 0 .fault])) = true := by decide

/-- R142: the resets clear the zones, keep the straps and free the laser. -/
theorem test_reset_low :
    after .rstnLow (writing7.withPort { writing7.port with k := 1 })
      (fun t => decide (t.zone 20 = Zone.freeContent ∧ t.laser.current = 0 ∧ t.port.k = 1 ∧ t.inReset = true)) = true := by decide

/-- The part with straps k = 1 and an old result in slot 1 (10_control_port.md, the worked bus example). -/
def strapped : State :=
  State.reset.withPort { State.reset.port with k := 1, slots := #v[none, some ⟨.denied, []⟩, none] }

/-- What slot 1 holds after a write to the edit bridge's address 0x39 of these bytes. -/
def slot1After (bytes : List Byte) : Option (Option Result) :=
  match stepTimes (bytes.length + 2)
    (strapped.withPending (.addressByte 0x72#8 :: bytes.map .commandMessageByte ++ [.writeTransferEnd])) with
  | .next t => some t.port.slots[1]
  | .fault _ => none
  | .refused _ => none

theorem test_port_short : slot1After [0x17#8] = some (some ⟨.short, []⟩) := by decide
theorem test_port_unknown : slot1After [0xEE#8, 1, 2] = some (some ⟨.unknown, []⟩) := by decide
theorem test_port_probe : slot1After [] = some (some ⟨.denied, []⟩) := by decide

/-- LASER OFF from the edit bridge: Denied after execution. -/
theorem test_port_denied :
    after .laserOff (running strapped 1 codeLaserOff []) (fun t => after .commandCompletion t fun u =>
      decide (u.port.slots[1] = some ⟨.denied, []⟩ ∧ u.port.executor = none)) = true := by decide

theorem test_all_stop :
    after .allStop writing7 (fun t => decide (t.laser.state = .off ∧ t.laser.current = 0 ∧ t.queue = [] ∧
      t.link.replies = [.revoke 7 0 .laserOff] ∧ t.port.ack = true)) = true := by decide

/-- INQUIRE page 0 (R175). -/
theorem test_inquire :
    after .inquire (running State.reset 2 codeInquire [0])
      (fun t => decide (resultOf t = some ⟨.done, [0x01#8, 0x0E#8, 0x24#8]⟩)) = true := by decide

/-- R170, R172: a granted set flag makes ALERT active in Level mode. -/
theorem test_alert_level :
    after .setPermissions (running (State.reset.raise .linkerr) 0 codeSetPermissions [0x08#8, 0x00#8])
      (fun t => t.alert.active) = true := by decide

theorem test_step_idle : step State.reset = .next State.reset.tick := rfl

/-! ### Witnesses: states and operands that meet the hypotheses of each statement

One theorem a statement, named after it, one conjunct or group of conjuncts a clause. -/

theorem runs (s : State) (h : s.inReset = false) (l : Level) (code : Byte) (ps : List Byte) :
    (running s l code ps).executing l code ps := ⟨h, rfl⟩

/-- Descriptors are disjoint when those in use are among a few slots that are. -/
theorem disjoint_of (s : State) (slots : List ZoneSlot) (h : ∀ i, (s.zone i).inUse = true → i ∈ slots)
    (p : ∀ i ∈ slots, ∀ j ∈ slots, i ≠ j →
      rangesOverlap (s.zone i).first (s.zone i).last (s.zone j).first (s.zone j).last = false) : s.ZonesDisjoint :=
  fun i j hij hi hj _ => p i (h i hi) j (h j hj) hij

theorem loaded_disjoint : loaded.ZonesDisjoint := disjoint_of _ [20] (by decide +kernel) (by decide +kernel)
theorem ready7_ordered : ready7.QueueOrdered := ⟨by decide, by decide, by decide, by decide⟩
theorem writing7_ordered : writing7.QueueOrdered := ⟨by decide, by decide, by decide, by decide⟩

theorem writing7_emission : writing7.Emission := by
  refine ⟨⟨fun _ => ⟨rfl, rfl, rfl, rfl, record7, rfl, rfl, by decide⟩, by decide, by decide⟩, by decide, by decide, by decide,
    by decide, by decide, ?_, ?_, ?_, ?_, ?_⟩
  · intro i h; injection h with h; subst h; rfl
  · intro l h; cases h
  · intro l h; cases h
  · intro _ i h; cases h
  · intro w h; injection h with h; subst h; decide

/-- The part with RSTN low. -/
def held : State := State.reset.withInReset true

/-- A move from layer 0 to layer 1, one microsecond from its settle end. -/
def moving : State := loaded.withPickup { loaded.pickup with motion := .moving 0 1 1 }

/-- A transfer in progress that level 1 writes. -/
def writingMessage (m : PartialMessage) : State := strapped.withPort { strapped.port with transfer := .write 1 m }

theorem witness_CommandsAndTicksComplete :
    held.pending = [] ∧ held.inReset = true ∧ moving.pending = [] ∧ moving.inReset = false ∧ loaded.pickup.motion = .settled 0 ∧
      moving.pickup.motion = .moving 0 1 1 ∧ moving.port.transfer = .idle ∧
      (writingMessage .empty).port.transfer ≠ .idle ∧ (writingMessage .empty).port.stretched = false := by decide

theorem witness_HeldWhileResetPinLow :
    held.inReset = true ∧ (∀ p, Instr.bgateRise ≠ .powerOn p) ∧ (∀ p, Instr.bgateRise ≠ .rstnRelease p) ∧
      Instr.bgateRise ≠ .rstnLow := by simp [held, State.withInReset]

theorem witness_PrivilegeCheckFirst :
    commandOf .laserOff = some (codeLaserOff, 0) ∧ (running loaded 1 codeLaserOff []).executing 1 codeLaserOff [] ∧
      (0 : Level) < 1 ∧ commandOf .closeZone = some (codeCloseZone, 1) ∧
      (running loaded 2 codeCloseZone [20]).executing 2 codeCloseZone [20] ∧ (1 : Level) < 2 ∧ (1 : Level) ≤ 1 ∧
      (∀ found, Instr.closeZone ≠ .reset found) ∧
      ∀ l ps, (running loaded 0 codeSweep [0]).port.executor ≠ some ⟨l, codeCloseZone, ps, none⟩ :=
  ⟨rfl, runs _ rfl _ _ _, by decide, rfl, runs _ rfl _ _ _, by decide, by decide, by simp,
    by intro l ps; simp [running, State.withPort, codeSweep, codeCloseZone]⟩

/-- The clauses DeniedAbove of the statements about commands: a level above the greatest one that a command is accepted from. -/
theorem witness_DeniedAbove (code : Byte) (ps : List Byte) :
    (0 : Level) < 1 ∧ (running loaded 1 code ps).executing 1 code ps ∧ (1 : Level) < 2 ∧
      (running loaded 2 code ps).executing 2 code ps := ⟨by decide, runs _ rfl _ _ _, by decide, runs _ rfl _ _ _⟩

theorem witness_ResetPins :
    let coldest : Pins := ⟨3, true, true, true, -40, true⟩
    let hottest : Pins := ⟨0, false, false, false, 125, false⟩
    (-40 ≤ coldest.temp) ∧ coldest.temp ≤ 125 ∧ -40 ≤ hottest.temp ∧ hottest.temp ≤ 125 ∧ held.inReset = true ∧
      loaded.inReset = false := by decide

theorem witness_ResetCommand :
    (running writing7 0 codeReset []).executing 0 codeReset [] ∧ (-40 ≤ (⟨-40, true⟩ : ResetLevels).temp) ∧
      (⟨125, false⟩ : ResetLevels).temp ≤ 125 := ⟨runs _ rfl _ _ _, by decide⟩

/-- With k = 1 the first and last address of each level, the general call, and the addresses beside them; and a transfer open. -/
theorem witness_AddressByteAnswered :
    ((writingMessage .empty).inReset = false ∧ (writingMessage .empty).port.stretched = false ∧
      (writingMessage .empty).port.transfer ≠ .idle) ∧
    strapped.inReset = false ∧ strapped.port.stretched = false ∧ strapped.port.transfer = .idle ∧
      (0x70#8).toNat / 2 = 0x30 + 8 * strapped.port.k.toNat ∧ (0x73#8).toNat / 2 = 0x31 + 8 * strapped.port.k.toNat ∧
      0x34 + 8 * strapped.port.k.toNat ≤ (0x78#8).toNat / 2 ∧ (0x7F#8).toNat / 2 ≤ 0x37 + 8 * strapped.port.k.toNat ∧
      (∀ b ∈ [0x6F#8, 0x74#8, 0x77#8, 0x80#8, 0x01#8], b ≠ 0x00#8 ∧ b.toNat / 2 ≠ 0x30 + 8 * strapped.port.k.toNat ∧
        b.toNat / 2 ≠ 0x31 + 8 * strapped.port.k.toNat ∧
        ¬ (0x34 + 8 * strapped.port.k.toNat ≤ b.toNat / 2 ∧ b.toNat / 2 ≤ 0x37 + 8 * strapped.port.k.toNat)) := by decide

theorem witness_WriteTransferDecided :
    (writingMessage .empty).inReset = false ∧ (writingMessage .empty).port.stretched = false ∧
      (writingMessage .empty).port.transfer = .write 1 .empty ∧ (codeReadLaser, 0) ∈ messageTable ∧
      0x0F#8 ∉ messageTable.map Prod.fst ∧ (writingMessage .unknown).port.transfer = .write 1 .unknown ∧
      (writingMessage (.known codeCloseZone [])).port.transfer = .write 1 (.known codeCloseZone []) ∧
      (codeCloseZone, 1) ∈ messageTable ∧ ([] : List Byte).length < 1 ∧ 1 ≤ [(20 : Byte)].length ∧
      (writingMessage (.known codeCloseZone [20])).port.executor = none ∧
      (running (writingMessage (.known codeCloseZone [20])) 0 codeSweep [0]).port.executor =
        some ⟨0, codeSweep, [0], none⟩ := by decide

/-- Command completions with nothing held, with two commands held, and under a stretch. -/
theorem witness_CompletionFillsSlot :
    let done (s : State) : State := s.withPort { s.port with executor := some ⟨0, codeSweep, [0], some ⟨.done, [0]⟩⟩ }
    let waiting : State := done (strapped.withPort { strapped.port with
      transfer := .read 0, stretched := true, held := [⟨1, codeReadLaser, []⟩, ⟨2, codeReadPickup, []⟩] })
    (done strapped).inReset = false ∧ (done strapped).port.held = [] ∧ waiting.inReset = false ∧
      waiting.port.held = [⟨1, codeReadLaser, []⟩, ⟨2, codeReadPickup, []⟩] ∧ (1 : Level) ≠ 0 ∧
      strapped.port.slots[0] = none ∧ strapped.port.slots[1] = some ⟨.denied, []⟩ := by decide

theorem witness_AllStopActs :
    let called (s : State) (taken : Bool) : State := s.withPort { s.port with transfer := .generalCall taken }
    (called writing7 true).inReset = false ∧ (called writing7 true).port.stretched = false ∧
      (called writing7 true).port.transfer = .generalCall true ∧ (called writing7 false).port.transfer = .generalCall false ∧
      writing7.port.transfer = .idle ∧ writing7.port.stretched = false ∧ writing7.laser.state.on = true ∧
      (called loaded false).laser.state.on = false := by decide

theorem witness_BusTimeoutAbandons :
    (writingMessage .empty).inReset = false ∧ (writingMessage .empty).port.transfer ≠ .idle ∧
      (writingMessage .empty).port.stretched = false ∧ strapped.port.transfer = .idle := by decide

/-- CLOSE ZONE of slot 20 written to the edit bridge's address. -/
theorem witness_MessageReachesExecutor :
    let s := loaded.withPending
      (.addressByte 0x62#8 :: .commandMessageByte codeCloseZone :: [(20 : Byte)].map .commandMessageByte ++ [.writeTransferEnd])
    s.inReset = false ∧ s.port.stretched = false ∧ s.port.transfer = .idle ∧ s.port.executor = none ∧ s.port.held = [] ∧
      addressed s.port.k 0x62#8 = some (.write 1) ∧ (codeCloseZone, [(20 : Byte)].length) ∈ messageTable := by decide

/-- LOAD ZONE: 256 blocks on layer 2 into slot 5 without a strategy, and 256 blocks of type Rewrite with strategy 3. -/
def leadLoad : List Byte := zoneParams 1 0 0 0 0 0 3
def rewriteLoad : List Byte :=
  [5, 0, 0, 0, 0x01#8, 0xF4#8, 0, 0x02#8, 0xF3#8, 4, 1] ++ (List.replicate 6 [(0x07#8 : Byte), 0xD0#8]).flatten ++ [3]

theorem witness_LoadZone_passes :
    (running loaded 0 codeLoadZone leadLoad).executing 0 codeLoadZone leadLoad ∧
      zoneLoadOf leadLoad = some ⟨5, 2, 0, 255, .lead, 0, ⟨0, 0, 0, 0, 0, 0⟩, none⟩ ∧
      zoneLoadOf rewriteLoad = some ⟨5, 0, 500, 755, .rewrite, 1, ⟨2000, 2000, 2000, 2000, 2000, 2000⟩, some 3⟩ ∧
      (loaded.zone 5).state = .free ∧ (loaded.strategy 3).loaded = true ∧
      (∀ i, (loaded.zone i).inUse = true → (loaded.zone i).layer = 0 →
        ¬ (500 ≤ (loaded.zone i).last ∧ (loaded.zone i).first ≤ 755)) :=
  ⟨runs _ rfl _ _ _, by decide⟩

/-- The refusals: 255 blocks; slot 20 taken; a range that ends on the zone's first block; a strategy not loaded. -/
theorem witness_LoadZone_refused :
    let overlapping : List Byte := [5, 0, 1, 0, 0x00#8, 0x00#8, 0, 0x3D#8, 0x09#8] ++ List.replicate 14 0 ++ [0xFF#8]
    let onto : List Byte := rewriteLoad.set 0 20
    let unnamed : List Byte := rewriteLoad.set 23 2
    zoneLoadOf (rewriteLoad.set 8 0xF2#8) = none ∧ u24At (rewriteLoad.set 8 0xF2#8) 6 < u24At rewriteLoad 3 + 255 ∧
      (zoneLoadOf onto).map ZoneLoad.slot = some 20 ∧ (loaded.zone 20).state ≠ .free ∧
      (zoneLoadOf overlapping).map (fun d => (d.first, d.last)) = some (0, 1000063) ∧ (loaded.zone 20).first ≤ 1000063 ∧
      (zoneLoadOf unnamed).map ZoneLoad.strategy = some (some 2) ∧ (loaded.strategy 2).loaded = false := by decide

theorem witness_SetPowersReplaces :
    let ps (slot : Byte) : List Byte := slot :: (List.replicate 6 [(0x07#8 : Byte), 0xD0#8]).flatten
    (running ready7 0 codeSetPowers (ps 20)).executing 0 codeSetPowers (ps 20) ∧ 127 < u8At (ps 128) 0 ∧
      (∃ p ∈ [1, 3, 5, 7, 9, 11], 2000 < u16At ((ps 20).set 12 0xD1#8) p) ∧
      (∀ p ∈ [1, 3, 5, 7, 9, 11], u16At (ps 20) p ≤ 2000) ∧ (20 : ZoneSlot).val = u8At (ps 20) 0 ∧
      (127 : ZoneSlot).val = u8At (ps 127) 0 ∧ (ready7.zone 127).state = .free ∧ (ready7.zone 20).state ≠ .free ∧
      (ready7.zone 20).state ≠ .retiring :=
  ⟨runs _ rfl _ _ _, by decide⟩

theorem witness_SetTrimSaturates :
    (running loaded 0 codeSetTrimAbsolute [20, 0xFE#8, 0x0C#8]).executing 0 codeSetTrimAbsolute [20, 0xFE#8, 0x0C#8] ∧
      s16At [20, 0xFE#8, 0x0C#8] 1 < -128 ∧ 127 < s16At [20, 0x00#8, 0x80#8] 1 ∧ s16At [20, 0x00#8, 0x7F#8] 1 = 127 ∧
      127 < u8At [128#8, 0, 0] 0 ∧ (20 : ZoneSlot).val = u8At [20, 0] 0 ∧ (loaded.zone 0).state = .free ∧
      (loaded.zone 20).state ≠ .free ∧ (loaded.zone 20).state ≠ .retiring :=
  ⟨runs _ rfl _ _ _, by decide⟩

theorem witness_SetAutotrimStores :
    let ps : List Byte := [20, 1, 0xFF#8, 0x9B#8, 21]
    (running loaded 0 codeSetAutotrim ps).executing 0 codeSetAutotrim ps ∧ s16At ps 2 < -100 ∧ 20 < u8At ps 4 ∧
      127 < u8At [128#8, 1, 0, 0, 0] 0 ∧ (20 : ZoneSlot).val = u8At ps 0 ∧ (loaded.zone 0).state = .free ∧
      (loaded.zone 20).state ≠ .free ∧ (loaded.zone 20).state ≠ .retiring :=
  ⟨runs _ rfl _ _ _, by decide⟩

/-- Slot 20 in another state or of another type. -/
def with20 (f : Zone → Zone) : State := loaded.setZone 20 (f zone20)

theorem witness_PresentAndReopen :
    (running loaded 0 codeMarkPresent [20]).executing 0 codeMarkPresent [20] ∧
      (running loaded 0 codeReopenZone [20]).executing 0 codeReopenZone [20] ∧ 127 < u8At [128#8] 0 ∧
      (20 : ZoneSlot).val = u8At [20] 0 ∧ (loaded.zone 20).state ≠ .absent ∧
      ((with20 fun z => { z with state := .absent }).zone 20).state = .absent ∧ (loaded.zone 20).state ≠ .closed ∧
      ((with20 fun z => { z with state := .closed }).zone 20).kind ≠ .once ∧
      ((with20 fun z => { z with state := .closed, kind := .once }).zone 20).kind = .once :=
  ⟨runs _ rfl _ _ _, runs _ rfl _ _ _, by decide⟩

theorem witness_ZoneTriggersRefused :
    (running loaded 0 codeMarkAbsent [20]).executing 0 codeMarkAbsent [20] ∧
      (running loaded 1 codeCloseZone [20]).executing 1 codeCloseZone [20] ∧
      (running loaded 0 codeReleaseZone [20]).executing 0 codeReleaseZone [20] ∧ 127 < u8At [128#8] 0 ∧
      (0 : ZoneSlot).val = u8At [0] 0 ∧ (loaded.zone 0).state ≠ .loaded ∧ (loaded.zone 0).state = .free ∧
      ((with20 fun z => { z with kind := .spare }).zone 20).kind = .spare ∧ (loaded.zone 20).state = .loaded ∧
      (loaded.zone 20).kind = .rewrite ∧ ((with20 fun z => { z with level := 0 }).zone 20).level < (1 : Level).val :=
  ⟨runs _ rfl _ _ _, runs _ rfl _ _ _, runs _ rfl _ _ _, by decide⟩

theorem witness_MarkAbsentAndCloseZoneCut :
    (running ready7 0 codeMarkAbsent [20]).QueueOrdered ∧ (running ready7 0 codeMarkAbsent [20]).executing 0 codeMarkAbsent [20] ∧
      (running ready7 1 codeCloseZone [20]).QueueOrdered ∧ (running ready7 1 codeCloseZone [20]).executing 1 codeCloseZone [20] ∧
      (20 : ZoneSlot).val = u8At [20] 0 ∧ (ready7.zone 20).state = .loaded ∧ (ready7.zone 20).kind = .rewrite ∧
      (1 : Level).val ≤ (ready7.zone 20).level :=
  ⟨⟨by decide, by decide, by decide, by decide⟩, runs _ rfl _ _ _, ⟨by decide, by decide, by decide, by decide⟩,
    runs _ rfl _ _ _, by decide⟩

theorem witness_ReleaseZoneFrees :
    (running writing7 0 codeReleaseZone [20]).QueueOrdered ∧
      (running writing7 0 codeReleaseZone [20]).executing 0 codeReleaseZone [20] ∧ (20 : ZoneSlot).val = u8At [20] 0 ∧
      (writing7.zone 20).inUse = true ∧ ((with20 fun z => { z with pins := 0 }).zone 20).pins = 0 :=
  ⟨⟨by decide, by decide, by decide, by decide⟩, runs _ rfl _ _ _, by decide⟩

theorem witness_SweepCollects :
    (running loaded 0 codeSweep [3]).executing 0 codeSweep [3] ∧ 3 < u8At [4#8] 0 ∧ (3 : LayerNo).val = u8At [3] 0 ∧
      (∀ i, (loaded.zone i).state = .free → (loaded.zone i).written = false) :=
  ⟨runs _ rfl _ _ _, by decide, by decide, by decide +kernel⟩

theorem witness_ReadCommandsReport :
    (running loaded 2 codeReadZone [127]).executing 2 codeReadZone [127] ∧ (127 : ZoneSlot).val = u8At [127] 0 ∧
      127 < u8At [128#8] 0 ∧ (running loaded 1 codeReadStrategy [15]).executing 1 codeReadStrategy [15] ∧
      (15 : StrategySlot).val = u8At [15] 0 ∧ 15 < u8At [16] 0 ∧
      (running loaded 0 codeReadStream [3]).executing 0 codeReadStream [3] ∧ (3 : StreamNo).val = u8At [3] 0 ∧ 3 < u8At [4] 0 ∧
      (running loaded 2 codeListGuards []).executing 2 codeListGuards [] ∧
      (running loaded 2 codeReadPickup []).executing 2 codeReadPickup [] ∧
      (running loaded 2 codeReadLaser []).executing 2 codeReadLaser [] ∧
      (running loaded 2 codeReadEvents []).executing 2 codeReadEvents [] ∧
      (running loaded 2 codeInquire [1]).executing 2 codeInquire [1] :=
  by and_intros <;> first | exact runs _ rfl _ _ _ | decide

/-- The zone's first and last block, the block beside it, and the least block outside the block space. -/
theorem witness_FindZoneLooksUp :
    let at0 (b3 b2 b1 b0 : Byte) : List Byte := [0, b3, b2, b1, b0]
    loaded.ZonesDisjoint ∧
      (running loaded 2 codeFindZone (at0 0 0x0F#8 0x42#8 0x40#8)).executing 2 codeFindZone (at0 0 0x0F#8 0x42#8 0x40#8) ∧
      3 < u8At [4#8, 0, 0, 0, 0] 0 ∧ 1073741823 < u32At (at0 0x40#8 0 0 0) 1 ∧
      (0 : LayerNo).val = u8At (at0 0 0 0 0) 0 ∧ (loaded.zone 20).inUse = true ∧
      u32At (at0 0 0x0F#8 0x42#8 0x40#8) 1 = (loaded.zone 20).first ∧ u32At (at0 0 0x10#8 0xC8#8 0xDF#8) 1 = (loaded.zone 20).last ∧
      (∀ i, (loaded.zone i).inUse = true → (loaded.zone i).layer = 0 →
        (loaded.zone i).first ≤ u32At (at0 0 0x10#8 0xC8#8 0xE0#8) 1 →
        (loaded.zone i).last < u32At (at0 0 0x10#8 0xC8#8 0xE0#8) 1) :=
  ⟨loaded_disjoint, runs _ rfl _ _ _, by decide⟩

/-- LOAD STRATEGY's widths of the worked example, and a width of 1 where 2 is the least. -/
def strategyLoad : List Byte := 2 :: strategy3.bytes

theorem witness_StrategySlotsLoadAndFree :
    let badWidths (ps : List Byte) : Prop := (∃ c ∈ [1, 6, 11, 16], 15 < u8At ps c ∨ u8At ps (c + 1) < 2 ∨ 32 < u8At ps (c + 1) ∨
      u8At ps (c + 2) < 2 ∨ 14 < u8At ps (c + 2) ∨ 16 < u8At ps (c + 3) ∨ 32 < u8At ps (c + 4)) ∨
      32 < u8At ps 1 + u8At ps 2 ∨ 32 < u8At ps 6 + u8At ps 7
    (running loaded 0 codeLoadStrategy strategyLoad).executing 0 codeLoadStrategy strategyLoad ∧
      15 < u8At (strategyLoad.set 0 16) 0 ∧ badWidths (strategyLoad.set 2 1) ∧ (2 : StrategySlot).val = u8At strategyLoad 0 ∧
      ¬ badWidths strategyLoad ∧ (loaded.strategy 3).loaded = true ∧ (loaded.strategy 2).loaded = false ∧
      (running loaded 0 codeReleaseStrategy [3]).executing 0 codeReleaseStrategy [3] ∧ 15 < u8At [16#8] 0 ∧
      (3 : StrategySlot).val = u8At [3] 0 ∧ 0 < (loaded.strategy 3).refs ∧
      ((loaded.setStrategy 3 ⟨true, 0, strategy3⟩).strategy 3).refs = 0 :=
  ⟨runs _ rfl _ _ _, by decide, by decide, by decide, by decide, by decide, by decide, runs _ rfl _ _ _, by decide⟩

theorem witness_OpenStreamOpens :
    (running loaded 1 codeOpenStream [3, 1]).executing 1 codeOpenStream [3, 1] ∧ (1 : Level) ≤ 1 ∧ 3 < u8At [4#8, 1] 0 ∧
      (u8At [3, 3] 1 ≠ 1 ∧ u8At [3, 3] 1 ≠ 2) ∧ (3 : StreamNo).val = u8At [3, 2] 0 ∧ u8At [3, 2] 1 = 2 ∧
      (loaded.stream 0).mode ≠ .closed ∧ (loaded.stream 3).mode = .closed :=
  ⟨runs _ rfl _ _ _, by decide⟩

theorem witness_CloseStreamAndAbortRevoke :
    (running ready7 1 codeCloseStream [0]).QueueOrdered ∧
      (running ready7 1 codeCloseStream [0]).executing 1 codeCloseStream [0] ∧ 3 < u8At [4#8] 0 ∧
      (0 : StreamNo).val = u8At [0] 0 ∧ (ready7.stream 3).mode = .closed ∧ (ready7.stream 0).mode ≠ .closed ∧
      ((ready7.setStream 0 ⟨.record, 0, 0, 0, none⟩).stream 0).owner < (1 : Level).val ∧ (1 : Level).val ≤ (ready7.stream 0).owner ∧
      ready7.QueueOrdered ∧ ready7.inReset = false ∧ ready7.link.staleFrame = false ∧ (3#8).toNat < 4 ∧ 4 ≤ (4#8).toNat ∧ (4#8 : Byte) ≠ 0xFF#8 :=
  ⟨⟨by decide, by decide, by decide, by decide⟩, runs _ rfl _ _ _, by decide, by decide, by decide, by decide, by decide,
    by decide, ready7_ordered, by decide⟩

/-- A guard range on layer 0 from blocks 0 to 99, and a list of sixteen single blocks. -/
def guardParams : List Byte := [0, 0, 0, 0, 0, 0, 0, 0, 99]
def sixteen : List Guard := (List.range 16).map fun n => ⟨1, n, n, 1⟩

theorem witness_GuardListChanges_add :
    (running loaded 1 codeAddGuard guardParams).QueueOrdered ∧
      (running loaded 1 codeAddGuard guardParams).executing 1 codeAddGuard guardParams ∧
      u32At (guardParams.set 4 100) 5 < u32At (guardParams.set 4 100) 1 ∧ 1073741823 < u32At (guardParams.set 5 0x40#8) 5 ∧
      (0 : LayerNo).val = u8At guardParams 0 ∧ u32At guardParams 1 ≤ u32At guardParams 5 ∧ u32At guardParams 5 ≤ 1073741823 ∧
      16 ≤ sixteen.length ∧ (loaded.withGuards sixteen.tail).guards.length < 16 ∧
      (∃ g ∈ [(⟨0, 99, 120, 1⟩ : Guard)], g.layer = 0 ∧ u32At guardParams 1 ≤ g.last ∧ g.first ≤ u32At guardParams 5) ∧
      (∃ i, ((with20 fun z => { z with level := 0, first := 99 }).zone i).inUse = true ∧
        ((with20 fun z => { z with level := 0, first := 99 }).zone i).level = 0 ∧
        ((with20 fun z => { z with level := 0, first := 99 }).zone i).layer = 0 ∧
        u32At guardParams 1 ≤ ((with20 fun z => { z with level := 0, first := 99 }).zone i).last ∧
        ((with20 fun z => { z with level := 0, first := 99 }).zone i).first ≤ u32At guardParams 5) ∧
      (¬ ∃ i, (loaded.zone i).inUse = true ∧ (loaded.zone i).level = 0 ∧ (loaded.zone i).layer = 0 ∧
        u32At guardParams 1 ≤ (loaded.zone i).last ∧ (loaded.zone i).first ≤ u32At guardParams 5) :=
  ⟨⟨by decide, by decide, by decide, by decide⟩, runs _ rfl _ _ _, by decide, by decide, by decide, by decide, by decide,
    by decide, by decide, by decide, ⟨20, by decide⟩, by decide +kernel⟩

theorem witness_GuardListChanges_remove :
    let s := running (loaded.withGuards [⟨0, 5, 9, 0⟩, ⟨1, 0, 9, 1⟩]) 1 codeRemoveGuard [1, 0, 0, 0, 0]
    s.executing 1 codeRemoveGuard [1, 0, 0, 0, 0] ∧ 3 < u8At [4#8, 0, 0, 0, 0] 0 ∧ 1073741823 < u32At [1, 0x40#8, 0, 0, 0] 1 ∧
      u8At [1, 0, 0, 0, 0] 0 ≤ 3 ∧ (∀ g ∈ s.guards, ¬ (g.layer.val = u8At [1, 0, 0, 0, 1] 0 ∧ g.first = u32At [1, 0, 0, 0, 1] 1)) ∧
      s.guards = [⟨0, 5, 9, 0⟩] ++ ⟨1, 0, 9, 1⟩ :: [] ∧
      (∀ h ∈ [(⟨0, 5, 9, 0⟩ : Guard)], ¬ (h.layer.val = u8At [1, 0, 0, 0, 0] 0 ∧ h.first = u32At [1, 0, 0, 0, 0] 1)) ∧
      (⟨0, 5, 9, 0⟩ : Guard).setBy < (1 : Level).val ∧ (1 : Level).val ≤ (⟨1, 0, 9, 1⟩ : Guard).setBy :=
  ⟨⟨rfl, rfl⟩, by decide⟩

/-- The least and greatest values of LOAD LAYER's fields, and the values beside them. -/
def layerParams (layer : Byte) : List Byte := [layer, 0x0F#8, 0xFF#8, 0xFE#8, 0x00#8, 0x00#8, 0x32#8]

theorem witness_PickupLoadsAndSettles :
    (running loaded 0 codeLoadLayer (layerParams 1)).executing 0 codeLoadLayer (layerParams 1) ∧ 3 < u8At (layerParams 4) 0 ∧
      4095 < u16At ((layerParams 1).set 1 0x10#8) 1 ∧ s16At ((layerParams 1).set 3 0xFD#8) 3 < -512 ∧
      511 < s16At ((layerParams 1).set 3 0x02#8) 3 ∧ u16At ((layerParams 1).set 6 0x31#8) 5 < 50 ∧
      5000 < u16At ((layerParams 1).set 5 0x14#8) 5 ∧ (1 : LayerNo).val = u8At (layerParams 1) 0 ∧
      u16At (layerParams 1) 1 = 4095 ∧ s16At (layerParams 1) 3 = -512 ∧ u16At (layerParams 1) 5 = 50 ∧
      moving.pickup.motion = .moving 0 1 1 ∧ (2 : LayerNo) ≠ 1 ∧ ready7.pickup.motion = .settled 0 ∧ ready7.laser.state ≠ .off ∧
      loaded.pickup.motion = .settled 0 ∧ loaded.laser.state = .off :=
  ⟨runs _ rfl _ _ _, by decide⟩

/-- A settle end on layer 1 with an Accepted entry of layer 0, and with the laser Off. -/
theorem witness_PickupLoadsAndSettles_end :
    let s := ready7.withPickup { moving.pickup with motion := .moving 0 1 0 }
    s.inReset = false ∧ s.pickup.motion = .moving 0 1 0 ∧
      s.queue.find? (fun e => decide (e.state = .accepted)) = some entry7 ∧ entry7.layer ≠ 1 ∧ s.laser.state = .idle ∧
      (∀ f ∈ s.queue, f.state ≠ .current) ∧ moving.inReset = false ∧ moving.laser.state ≠ .idle := by decide

/-- LOAD LASER MODEL with every field at its least, and LOAD CEILINGS with every field at its greatest. -/
def modelParams : List Byte := [0, 0, 0, 0, 100, 0, 0, 1, 1, 40]
def ceilingParams : List Byte := [0x07#8, 0xD0#8, 0x07#8, 0xFF#8, 0x07#8, 0xD0#8, 125, 200, 8, 25]

theorem witness_LaserRecordsLoad :
    let badModel (ps : List Byte) : Prop := 1000 < u16At ps 0 ∨ u16At ps 3 < 100 ∨ 3000 < u16At ps 3 ∨ 127 < u8At ps 5 ∨
      u16At ps 6 < 1 ∨ 4095 < u16At ps 6 ∨ u8At ps 8 < 1 ∨ 100 < u8At ps 8 ∨ u8At ps 9 < 40 ∨ 125 < u8At ps 9
    let badCeilings (ps : List Byte) : Prop := 2000 < u16At ps 0 ∨ 2047 < u16At ps 2 ∨ 2000 < u16At ps 4 ∨ u8At ps 6 < 30 ∨
      125 < u8At ps 6 ∨ u8At ps 7 < 5 ∨ 200 < u8At ps 7 ∨ u8At ps 8 ∉ [1, 2, 4, 8] ∨ u8At ps 9 < 2 ∨ 25 < u8At ps 9
    (running loaded 0 codeLoadLaserModel modelParams).executing 0 codeLoadLaserModel modelParams ∧ ¬ badModel modelParams ∧
      badModel (modelParams.set 9 39) ∧ badModel (modelParams.set 4 99) ∧ ready7.laser.state ≠ .off ∧ loaded.laser.state = .off ∧
      (running loaded 0 codeLoadCeilings ceilingParams).executing 0 codeLoadCeilings ceilingParams ∧
      ¬ badCeilings ceilingParams ∧ badCeilings (ceilingParams.set 8 3) ∧ badCeilings (ceilingParams.set 1 0xD1#8) :=
  ⟨runs _ rfl _ _ _, by decide, by decide, by decide, by decide, by decide, runs _ rfl _ _ _, by decide⟩

theorem witness_LaserOnStarts :
    (running loaded 0 codeLaserOn []).executing 0 codeLaserOn [] ∧
      (loaded.withLaser { loaded.laser with loff := true }).laser.loff = true ∧ ready7.laser.loff = false ∧
      ready7.laser.state ≠ .off ∧ State.reset.laser.modelLoaded = false ∧ State.reset.laser.state = .off ∧
      loaded.laser.loff = false ∧ loaded.laser.state = .off ∧ loaded.laser.modelLoaded = true ∧ 0 < loaded.laser.ceilings.imax ∧
      loaded.laser.overLimit = false ∧ (loaded.withLaser { loaded.laser with overLimit := true }).laser.overLimit = true :=
  ⟨runs _ rfl _ _ _, by decide⟩

/-- The laser in Fault. -/
def faulted : State :=
  loaded.withLaser { loaded.laser with state := .fault, faultRecord := ⟨.overTemp, some .idle, none, false⟩ }

theorem witness_LaserOffAndLoff :
    (running faulted 0 codeLaserOff []).executing 0 codeLaserOff [] ∧ faulted.laser.state = .fault ∧ loaded.laser.state = .off ∧
      writing7.laser.state.on = true ∧ writing7.inReset = false ∧ faulted.inReset = false :=
  ⟨runs _ rfl _ _ _, by decide⟩

theorem witness_ClearFaultLeavesFault :
    (running faulted 0 codeClearFault []).executing 0 codeClearFault [] ∧ loaded.laser.state ≠ .fault ∧
      (faulted.withLaser { faulted.laser with overLimit := true }).laser.overLimit = true ∧ faulted.laser.state = .fault ∧
      faulted.laser.overLimit = false :=
  ⟨runs _ rfl _ _ _, by decide⟩

/-- In Standby, one microsecond of warm-up left, the idle set present. -/
def warming : State :=
  (loaded.withLaser { loaded.laser with state := .standby, warmUp := some 1, current := 315 }).withLevels
    { loaded.levels with idleSet := some idle7 }

theorem witness_LaserTimersExpire :
    warming.inReset = false ∧ warming.laser.state = .standby ∧ warming.laser.warmUp.isSome = true ∧
      warming.levels.idleSet = some idle7 ∧ warming.levels.servedSinceOn = false ∧ ready7.laser.state ≠ .standby ∧
      writing7.laser.state = .writing ∧ writing7.laser.gateTimer.isSome = true ∧ ready7.laser.state ≠ .writing := by decide

/-- The greatest sample, the sample at Tlim, the sample one below it, and the least sample that arms the warning. -/
theorem witness_TemperatureSampled :
    ready7.inReset = false ∧ (-40 : Int) ≤ 125 ∧ (125 : Int) ≤ 125 ∧
      (ready7.laser.modelLoaded && decide ((ready7.laser.model.tlim : Int) ≤ 85)) = true ∧ ready7.laser.state.on = true ∧
      (faulted.laser.modelLoaded && decide ((faulted.laser.model.tlim : Int) ≤ 85)) = true ∧ faulted.laser.overLimit = false ∧
      (ready7.laser.modelLoaded && decide ((ready7.laser.model.tlim : Int) ≤ 84)) = false ∧ warming.laser.state = .standby ∧
      (ready7.laser.state = .idle ∧ ready7.levels.servedSinceOn = false) ∧ ready7.levels.idleComp = none ∧
      (warming.withLevels { warming.levels with idleComp := some ⟨nominalModel, nominalCeilings, 45⟩ }).levels.idleComp.isSome =
        true ∧ writing7.laser.state.on = true ∧ loaded.laser.state = .off ∧
      (-40 : Int) < (loaded.laser.ceilings.twarn : Int) - 2 := by decide

theorem witness_ClockLockFollowsPll :
    loaded.inReset = false ∧ loaded.laser.clock = .locked ∧ loaded.laser.lossTimer = none ∧
      0 < (if loaded.laser.ceilingsLoaded then loaded.laser.ceilings.clockTol else 0) ∧
      (loaded.withLaser { loaded.laser with ceilingsLoaded := false }).laser.ceilingsLoaded = false ∧
      State.reset.laser.clock = .unlocked ∧
      (writing7.withLaser { writing7.laser with lossTimer := some 1 }).laser.lossTimer.isSome = true := by decide

theorem witness_AlertCommands :
    (running loaded 0 codeAckEvents [0x1F#8, 0xFF#8]).executing 0 codeAckEvents [0x1F#8, 0xFF#8] ∧
      (byteAt [0x1F#8, 0xFF#8] 0 ++ byteAt [0x1F#8, 0xFF#8] 1) &&& 0xE000#16 = 0#16 ∧
      (byteAt [0x20#8, 0x00#8] 0 ++ byteAt [0x20#8, 0x00#8] 1) &&& 0xE000#16 ≠ 0#16 ∧
      (running loaded 0 codeSetPermissions [0x1F#8, 0xFF#8]).executing 0 codeSetPermissions [0x1F#8, 0xFF#8] ∧
      (running loaded 0 codeSetAlertMode [1]).executing 0 codeSetAlertMode [1] ∧ 1 < u8At [2] 0 ∧ u8At [1] 0 = 1 ∧
      loaded.inReset = false ∧ ({ loaded.alert with pulse := some 0 } : Alert).pulse = some 0 :=
  ⟨runs _ rfl _ _ _, by decide, by decide, runs _ rfl _ _ _, runs _ rfl _ _ _, by decide⟩

theorem witness_AlertLineFollows :
    State.reset.alert.mode = .level ∧ State.reset.alert.permissions &&& unusedFlags = 0#16 ∧
      ({ State.reset.alert with mode := .pulse } : Alert).mode = .pulse := by decide

theorem witness_UnmountFrees : (running writing7 0 codeUnmount []).executing 0 codeUnmount [] := runs _ rfl _ _ _

/-- Seven, and eight, entries of other tags. -/
def entries (n : Nat) : List Entry := (List.range n).map fun k => { entry7 with tag := byte1 (k + 100) }

theorem witness_AnnounceAdmitted :
    ready7.inReset = false ∧ ready7.link.staleFrame = false ∧ (0x0C#8).extractLsb' 2 2 = 3#2 ∧ 1073741823 < (0x40000000#32).toNat ∧
      (0x04#8).extractLsb' 2 2 = 1#2 ∧ (0x08#8).extractLsb' 2 2 = 2#2 ∧ (0x3FFFFFFF#32).toNat ≤ 1073741823 ∧
      8 ≤ (ready7.withQueue (entries 8)).queue.length ∧ (ready7.withQueue (entries 7)).queue.length < 8 ∧
      (∃ e ∈ (ready7.withQueue (entries 7)).queue, e.tag = 106#8) ∧ (¬ ∃ e ∈ (ready7.withQueue (entries 7)).queue, e.tag = 7#8) ∧
      ¬ (warming.laser.state = .idle ∨ warming.laser.state = .reading ∨ warming.laser.state = .writing) ∧
      ready7.laser.state = .idle ∧ (255#8 : Byte) ≠ 0#8 := by decide

/-- Slot 20's first and last block; a trim at each limit and beside it; beta at and beside the deadband's edges. -/
theorem witness_QualitySteps :
    (loaded.inReset = false ∧ loaded.link.staleFrame = false) ∧ loaded.ZonesDisjoint ∧ 1073741823 < (0x40000000#32).toNat ∧
      ((loaded.zone 20).inUse = true ∧ (loaded.zone 20).layer = ((0xF8#8).extractLsb' 0 2).toFin ∧
        (loaded.zone 20).first ≤ (1000000#32).toNat ∧ (1099999#32).toNat ≤ (loaded.zone 20).last) ∧
      (∀ i, ¬ ((loaded.zone i).inUse = true ∧ (loaded.zone i).layer = ((0#8).extractLsb' 0 2).toFin ∧
        (loaded.zone i).first ≤ (1100000#32).toNat ∧ (1100000#32).toNat ≤ (loaded.zone i).last)) ∧
      ((zone20.target - zone20.deadband ≤ (-4 : Int)) ∧ (-4 : Int) ≤ zone20.target + zone20.deadband) ∧
      (-5 : Int) < zone20.target - zone20.deadband ∧ zone20.target + zone20.deadband < (5 : Int) ∧ zone20.state ≠ .absent ∧
      zone20.kind ≠ .lead ∧ zone20.autoTrim = true ∧ ({ zone20 with trim := 126 } : Zone).trim + 1 ≤ 127 ∧
      127 < ({ zone20 with trim := 127 } : Zone).trim + 1 ∧ ({ zone20 with trim := -128 } : Zone).trim + (-1) < -128 :=
  ⟨by decide, loaded_disjoint, by decide, by decide, by decide +kernel, by decide⟩

/-- After a reset that came within a frame. -/
def stale : State := State.reset.withLink { State.reset.link with staleFrame := true }

/-- R57: that frame is discarded with no request, and the next one is taken. -/
theorem test_stale_frame :
    after (.malformedMessage [] true) stale (fun t => decide (t.link = State.reset.link ∧ t.alert = State.reset.alert) &&
      after (.malformedMessage [] true) t fun u => u.alert.isSet .linkerr) = true := by decide

/-- R59: a REFUSE goes out byte by byte, and a reset cuts it off after its first byte. -/
theorem test_reply_cut_off :
    after .replySend (State.reset.produce (.refuse 9 .badRun)) (fun t =>
      decide (t.link = ⟨[], [9, 4], 0x22#8, false⟩) && after .rstnLow t fun u => decide (u.link = ⟨[], [], 0x00#8, false⟩)) =
        true := by decide

theorem witness_MalformedDiscardedAndRepliesSent :
    stale.inReset = false ∧ stale.link.staleFrame = true ∧ State.reset.inReset = false ∧ State.reset.link.staleFrame = false ∧
      ([] : List Byte).head? ≠ some 0x11#8 ∧ [0x11#8, 1, 0x0C#8, 0, 0, 0, 0, 0, 1].head? = some 0x11#8 ∧
      ([0x11#8, 1, 0x0C#8, 0, 0, 0, 0, 0, 1].getD 2 0#8).extractLsb' 2 2 = 3#2 ∧
      64 ≤ ([0x11#8, 1, 0, 0, 0x40#8, 0, 0, 0, 1].getD 4 0#8).toNat ∧ 4 ≤ ([0x12#8, 4].getD 1 0#8).toNat ∧
      [0x12#8, 4].getD 1 0#8 ≠ 0xFF#8 ∧ [0x13#8].length ≠ 7 ∧ State.reset.link.replies = [] ∧ State.reset.link.sending = [] ∧
      (State.reset.produce (.done 7 1 0)).link.replies = [.done 7 1 0] ∧
      ({ State.reset.link with sending := [7, 1] } : Link).sending = 7 :: [1] := by decide

/-- One Waiting entry, its translation in flight. -/
def waits (s : State) (e : Entry) : State := (s.withQueue [e]).withTranslating (some e.tag)

/-- The Waiting entry of an announcement of intent Write on layer 0, stream 0. -/
def waiting (start run : Nat) : Entry :=
  { entry7 with
    tag := 11, start := start, next := start, requested := run, accepted := 0, primary := none, state := .waiting }

theorem adjoining_disjoint : adjoining.ZonesDisjoint := disjoint_of _ [4, 5, 20] (by decide +kernel) (by decide +kernel)

theorem witness_TranslationDecides :
    let s := waits adjoining (waiting 599900 200)
    s.inReset = false ∧ s.QueueOrdered ∧ s.ZonesDisjoint ∧
      s.queue.find? (fun f => decide (f.state = .waiting)) = some (waiting 599900 200) :=
  ⟨by decide, ⟨by decide, by decide, by decide, by decide⟩, adjoining_disjoint, by decide⟩

/-- The eight checks, each with the seven others that come before it not holding: a Closed stream, a Playback stream, an absent
layer record, the block beside the zones, an Absent zone, a Closed zone, a system zone, the first guarded block; and a block
that passes them all. -/
theorem witness_TranslationDecides_checks :
    let covers (s : State) (b : Nat) (i : ZoneSlot) : Prop := (s.zone i).inUse = true ∧ (s.zone i).layer = 0 ∧
      (s.zone i).first ≤ b ∧ b ≤ (s.zone i).last
    let fourth (f : Zone → Zone) : State := adjoining.setZone 4 (f (adjoining.zone 4))
    (adjoining.stream 2).mode = .closed ∧ (adjoining.stream 1).mode = .playback ∧ (adjoining.stream 0).mode = .record ∧
      (adjoining.layerRecord 1).loaded = false ∧ (adjoining.layerRecord 0).loaded = true ∧
      (∀ i, ¬ covers adjoining 700000 i) ∧ covers adjoining 599999 4 ∧
      ((fourth fun z => { z with state := .absent }).zone 4).state = .absent ∧
      ((fourth fun z => { z with state := .closed }).zone 4).state = .closed ∧
      ((fourth fun z => { z with level := 0 }).zone 4).level < (adjoining.stream 0).owner ∧
      (∃ g ∈ adjoining.guards, g.layer = 0 ∧ g.first ≤ 650000 ∧ 650000 ≤ g.last) ∧ (adjoining.zone 4).state = .loaded ∧
      (adjoining.zone 4).kind = .rewrite ∧ (adjoining.stream 0).owner ≤ (adjoining.zone 4).level ∧
      (¬ ∃ g ∈ adjoining.guards, g.layer = 0 ∧ g.first ≤ 599900 ∧ 599900 ≤ g.last) := by
  refine ⟨by decide, by decide, by decide, by decide, by decide, by decide +kernel, ?_⟩
  decide

/-- The last clause of the statement at its edge and past it: an entry of two blocks that rises skipped while it was Waiting, two of
them and five; and a run cut at the end of the block space. -/
theorem witness_TranslationDecides_ends :
    let skipped (n : Nat) : State := waits adjoining { waiting 510000 2 with next := 510000 + n, skipped := n }
    let atEnd : State := (waits adjoining (waiting 1073741820 32)).setZone 4
      { adjoining.zone 4 with first := 1000000000, last := 1073741823 }
    (∀ n ∈ [2, 5], (skipped n).QueueOrdered ∧ (skipped n).ZonesDisjoint ∧
      (skipped n).inService { waiting 510000 2 with next := 510000 + n, skipped := n } = false ∧
      after .translationComplete (skipped n) (fun t => decide (t.queue = [] ∧
        t.link.replies = [.accept 11 2 false, .done 11 0 n])) = true) ∧
    after .translationComplete atEnd (fun t => decide (t.link.replies = [.accept 11 4 false])) = true := by
  refine ⟨?_, by decide⟩
  simp only [List.forall_mem_cons, List.not_mem_nil, false_implies, implies_true, and_true]
  exact ⟨⟨by constructor <;> decide, adjoining_disjoint, by decide, by decide⟩,
    ⟨by constructor <;> decide, adjoining_disjoint, by decide, by decide⟩⟩

/-- A write block in service with the next one being computed; and, for the clause about the pickup, entry 7 waiting in Idle for a
rise with the pickup on its layer, and a move to it under way. -/
theorem witness_FollowersKept :
    writing7.QueueOrdered ∧ writing7.Emission ∧ writing7.Followed ∧ step writing7 = .next writing7.tick ∧ ready7.Followed ∧
      (ready7.withPickup { moving.pickup with motion := .moving 1 0 1 }).Followed ∧
      (∃ e rest, writing7.queue = e :: rest ∧ e.state = .current ∧ e.next < e.start + e.accepted) ∧
      (∃ e rest, ready7.queue = e :: rest ∧ e.state = .accepted ∧ ready7.QueueOrdered) := by
  refine ⟨writing7_ordered, writing7_emission, ⟨by decide, ?_, ?_⟩, rfl, ⟨by decide, ?_, ?_⟩, ⟨by decide, ?_, ?_⟩,
    ⟨_, _, rfl, by decide⟩, ⟨_, _, rfl, by decide, ready7_ordered⟩⟩
  · intro l h; cases h
  · intro layer e _ h; cases h
  · intro l h; cases h
  · intro layer e h _ _ h'; cases h; cases h'; rfl
  · intro l h; cases h
  · intro layer e h; cases h

/-- The target's other clauses: a Current entry with its run used up before an Accepted one, before a Waiting one and alone, and a
Waiting entry at the head. -/
theorem witness_FollowersKept_target :
    let last : Entry := { entry7 with accepted := 1, next := 1050001, state := .current }
    let idle (q : List Entry) : State := (waits ready7 (waiting 1060000 16)).withQueue q
    last.state = .current ∧ last.start + last.accepted ≤ last.next ∧ (waiting 1060000 16).state = .waiting ∧
      (idle [last, waiting 1060000 16]).QueueOrdered ∧ (idle [waiting 1060000 16]).QueueOrdered ∧
      (ready7.withQueue [last]).QueueOrdered ∧
      (ready7.withQueue [last, { entry7 with tag := 8 }]).QueueOrdered ∧ State.reset.queue = [] :=
  ⟨by decide, by decide, by decide, by constructor <;> decide, by constructor <;> decide, by constructor <;> decide,
    by constructor <;> decide, by decide⟩

theorem witness_FramesDecode :
    (LinkMessage.announce ⟨255, 3, 3, .calibrate, -16, 1073741823, 255⟩).wf = true ∧
      (LinkMessage.announce ⟨0, 0, 0, .read, 15, 0, 0⟩).wf = true ∧ (LinkMessage.abort none).wf = true ∧
      (LinkMessage.quality 3 1073741823 (-128)).wf = true ∧ (LinkMessage.quality 0 0 127).wf = true := by decide

/-- The worked case at the zone's first and last block, trim and step at their limits, coldest and hottest. -/
theorem witness_LevelsFollowFormulas :
    ∀ i ∈ [{ inputs7 with block := 1000000, trim := -128, temp := -40, intent := .calibrate, step := some (-16) },
           { inputs7 with block := 1099999, trim := 127, temp := 125, intent := .calibrate, step := some 15 }],
      i.model.inRange = true ∧ i.first + 255 ≤ i.last ∧ i.first ≤ i.block ∧ i.block ≤ i.last ∧ -128 ≤ i.trim ∧ i.trim ≤ 127 ∧
        (∀ c, i.step = some c → i.intent = .calibrate ∧ -16 ≤ c ∧ c ≤ 15) ∧ -40 ≤ i.temp ∧ i.temp ≤ 125 := by
  simp [inputs7, nominalModel, LaserModel.inRange]

theorem witness_LevelComputationsComplete :
    writing7.inReset = false ∧ writing7.levels.prepared = .computing { inputs7 with block := 1050001 } ∧
      ready7.levels.idleComp = none ∧
      (warming.withLevels { warming.levels with idleComp := some ⟨nominalModel, nominalCeilings, 45⟩ }).levels.idleComp =
        some ⟨nominalModel, nominalCeilings, 45⟩ ∧ warming.laser.state = .standby ∧ ready7.laser.state = .idle ∧
      ready7.levels.servedSinceOn = false ∧ writing7.levels.servedSinceOn = true := by decide

/-- A Write block served from the prepared set, and a Read block served from the stand-in set. -/
theorem witness_RiseServesBlock :
    let reads : Entry := { entry7 with intent := .read }
    let set : LevelSet := { levelsOf inputs7 with intent := .read, write := none }
    let s := (ready7.withQueue [reads]).withLevels
      { ready7.levels with prepared := .computing { inputs7 with intent := .read }, standIn := some set }
    ready7.inReset = false ∧ ready7.gate.high = false ∧ ready7.QueueOrdered ∧ ready7.queue = entry7 :: [] ∧
      entry7.state ≠ .waiting ∧ ready7.pickup.motion = .settled entry7.layer ∧
      ((levelsOf inputs7).tag = entry7.tag ∧ (levelsOf inputs7).block = entry7.next) ∧
      ready7.levels.prepared = .ready (levelsOf inputs7) ∧ entry7.intent ≠ .read ∧ ready7.laser.clock = .locked ∧
      (levelsOf inputs7).write.isSome = true ∧ entry7.primary = some 20 ∧ (ready7.zone 20).strategy = some 3 ∧
      s.QueueOrdered ∧ s.queue = reads :: [] ∧ s.levels.standIn = some set ∧ (∀ p, s.levels.prepared ≠ .ready p) ∧
      set.write = none :=
  ⟨by decide, by decide, ready7_ordered, by decide, by decide, by decide, ⟨by decide, by decide⟩, by decide, by decide, by decide,
    by decide, by decide, by decide, by constructor <;> decide, by decide, by decide, by simp [State.withLevels], by decide⟩

/-- A rise with the gate High, with the queue empty, and with each of the four skip conditions the first that holds. -/
theorem witness_RiseSkips :
    let one := waits ready7 (waiting 1050000 16)
    let unready := ready7.withLevels { ready7.levels with prepared := .computing inputs7 }
    writing7.gate.high = true ∧ loaded.gate.high = false ∧ loaded.queue = [] ∧
      one.QueueOrdered ∧ one.queue = waiting 1050000 16 :: [] ∧ (waiting 1050000 16).state = .waiting ∧
      ready7.QueueOrdered ∧ ready7.queue = entry7 :: [] ∧ entry7.state ≠ .waiting ∧
      (ready7.withPickup moving.pickup).pickup.motion ≠ .settled entry7.layer ∧
      ready7.pickup.motion = .settled entry7.layer ∧ (∀ l, unready.levels.prepared ≠ .ready l) ∧
      unready.levels.standIn = none ∧ entry7.intent ≠ .read ∧
      (ready7.withLaser { ready7.laser with clock := .unlocked }).laser.clock = .unlocked :=
  ⟨by decide, by decide, by decide, ⟨by decide, by decide, by decide, by decide⟩, by decide, by decide,
    ready7_ordered, by decide, by decide, by decide, by decide, by simp [State.withLevels], by decide⟩

/-- With 32 replies stored a rise with the queue empty drops its SKIP and sets LINKERR beside SKIP; with 31 it stores it (R59). -/
theorem test_skip_of_full_store :
    let holding (n : Nat) : State := loaded.withLink { loaded.link with replies := List.replicate n (.done 1 1 0) }
    after .bgateRise (holding 32) (fun t => t.gate.high && decide (t.link.replies = (holding 32).link.replies) &&
        t.alert.isSet .linkerr && t.alert.isSet .skip) = true ∧
      after .bgateRise (holding 31) (fun t => decide (t.link.replies = (holding 31).link.replies ++ [.skip none 0 .noEntry]) &&
        !t.alert.isSet .linkerr && t.alert.isSet .skip) = true := by decide

/-- Entry 7's slot released while pinned: its flush by LOFF frees the slot and sets FREED (R21); FREED granted in Pulse mode pulses
from clear, and starts no pulse when it was set already (R173). -/
theorem test_flush_frees_and_pulses :
    let retiring := ready7.setZone 20 { zone20 with state := .retiring }
    let pulsing (set : BitVec 16) : State := retiring.withAlert
      { retiring.alert with requests := set, permissions := RequestFlag.freed.mask, mode := .pulse }
    after .loffAsserted (pulsing 0#16) (fun t => decide ((t.zone 20).state = .free) && t.alert.isSet .freed &&
        t.alert.isSet .revoke && decide (t.alert.pulse = some 2)) = true ∧
      after .loffAsserted (pulsing RequestFlag.freed.mask) (fun t => t.alert.isSet .freed &&
        decide (t.alert.pulse = none)) = true := by decide

/-- Falls with the gate Low, with no record, of a block in write service with blocks left, of the last block, of a block whose
entry has its ended mark set, and of a skipped block. -/
theorem witness_FallEnds :
    let last := writing7.withQueue [{ entry7 with accepted := 1, next := 1050001, state := .current }]
    ready7.inReset = false ∧ ready7.gate.high = false ∧ (ready7.withGate ⟨true, none⟩).gate.record = none ∧
      writing7.gate.high = true ∧ writing7.gate.record = some record7 ∧ writing7.QueueOrdered ∧
      writing7.laser.state = .writing ∧ writing7.levels.servedSinceOn = true ∧
      writing7.levels.handedOff = some (levelsOf inputs7) ∧ record7.ended = false ∧
      (∃ e ∈ writing7.queue, record7.isOf e = true ∧ e.next < e.start + e.accepted) ∧ last.QueueOrdered ∧
      (∃ e ∈ last.queue, record7.isOf e = true ∧ e.state ≠ .waiting ∧ e.start + e.accepted ≤ e.next) ∧
      ({ record7 with ended := true } : BlockRecord).ended = true ∧ ready7.laser.state ≠ .reading ∧
      (∀ e ∈ ready7.queue, ({ record7 with hasEntry := false } : BlockRecord).isOf e = false) :=
  ⟨by decide, by decide, by decide, by decide, by decide, writing7_ordered, by decide, by decide, by decide, by decide,
    ⟨_, List.mem_singleton_self _, by decide⟩, ⟨by decide, by decide, by decide, by decide⟩,
    ⟨_, List.mem_singleton_self _, by decide⟩, by decide⟩

/-- The write path with no mark, a mark open and not classified, one classified, and a step being driven; 1T, 2T, 9T and 10T. -/
theorem witness_WritePathFollows :
    let path : WritePath := ⟨strategy3, 476, 412, 362, false, [], []⟩
    let opened : WritePath := { path with inMark := true, marks := [some 3, none] }
    writing7.inReset = false ∧ ready7.writePath = none ∧ writing7.writePath = some path ∧ path.inMark = false ∧
      opened.inMark = true ∧ opened.marks = [some 3] ++ [none] ∧
      ({ path with inMark := true, marks := [some 9] } : WritePath).marks.getLast? ≠ some none ∧ path.marks = [] ∧
      opened.marks = some 3 :: [none] ∧ 2 ≤ 3 ∧ (1 < 2) ∧ (9 < 10) ∧ path.steps = [] ∧
      ({ path with steps := [⟨.peak, 12⟩] } : WritePath).steps = ⟨.peak, 12⟩ :: [] := by decide

theorem witness_SamplesStart :
    let path : WritePath := ⟨strategy3, 476, 412, 362, false, [], [⟨.peak, 12⟩]⟩
    let peak := writing7.withWritePath (some path)
    ready7.inReset = false ∧ ready7.monitor.blockSamples = [] ∧ writing7.monitor.blockSamples = ⟨.writing, true, 4⟩ :: [] ∧
      (writing7.withLaser { writing7.laser with state := .idle }).laser.state ≠ .writing ∧ writing7.laser.state = .writing ∧
      writing7.levels.handedOff = some (levelsOf inputs7) ∧ (levelsOf inputs7).write.isSome = true ∧
      peak.writePath = some path ∧ (path.steps.head?.map PatternStep.level) = some LevelCode.peak ∧
      peak.monitor.peakHold = none ∧ writing7.writePath.map WritePath.steps = some [] ∧
      (writing7.withMonitor { writing7.monitor with peakHold := some 535 }).monitor.peakHold = some 535 ∧
      ready7.laser.state = .idle ∧ ready7.monitor.idleTimer.isSome = true ∧ ready7.levels.servedSinceOn = false ∧
      ready7.levels.idleSet = some idle7 ∧ (loaded.laser.state ≠ .idle) := by decide

/-- R146: a sample that is dropped still gives its code to the hold while a peak step is driven. -/
theorem test_dropped_sample_held :
    after (.blockSample 700)
      ((writing7.withWritePath (some ⟨strategy3, 476, 412, 362, false, [], [⟨.peak, 12⟩]⟩)).withMonitor
        { writing7.monitor with blockSamples := [⟨.reading, false, 0⟩, ⟨.writing, true, 1⟩], peakHold := some 535 })
      (fun t => decide (t.monitor.peakHold = some 700 ∧ t.monitor.conversion = none)) = true := by decide

/-- A mark sample in each of the laser's states; a good one and a mismatched one, the count at 6, 7 and 8. -/
theorem witness_ConversionCompletes :
    let c : Conversion := ⟨.idle, 32, 28, 820, 5⟩
    let good : Conversion := ⟨.idle, 35, 28, 820, 5⟩
    let counted (n : Nat) : Monitor := { ready7.monitor with conversion := some c, mismatch := n }
    ready7.inReset = false ∧ ready7.monitor.conversion = none ∧ (counted 7).conversion = some c ∧ loaded.laser.state = .off ∧
      faulted.laser.state = .fault ∧ (counted 6).mismatch ≠ 7 ∧ (counted 8).mismatch ≠ 7 ∧ (counted 7).mismatch = 7 ∧
      roundHalfUp ((c.code : ℚ) * c.gain / 1024) = 26 ∧ roundHalfUp ((good.code : ℚ) * good.gain / 1024) = 28 ∧
      ⌊(c.tolerance : ℚ) * c.target / 100⌋ = 1 ∧ ready7.laser.state = .idle ∧ ready7.monitor.apc + 1 ≠ ready7.monitor.apc ∧
      ready7.levels.servedSinceOn = false ∧ ready7.levels.idleSet.map IdleSet.readCurrent = some idle7.readCurrent ∧
      writing7.laser.state = .writing := by
  refine ⟨by decide, by decide, by decide, by decide, by decide, by decide, by decide, by decide, ?_, ?_, ?_, by decide⟩ <;> norm_num [roundHalfUp, Int.floor_eq_iff]

/-! ### Witnesses of the invariants: a step from the state with a write block in service -/

theorem writing7_step : step writing7 = .next writing7.tick := rfl

theorem witness_EmissionKept : writing7.Emission ∧ step writing7 = .next writing7.tick := ⟨writing7_emission, rfl⟩

theorem witness_ZonesDisjointKept : loaded.ZonesDisjoint ∧ step loaded = .next loaded.tick := ⟨loaded_disjoint, rfl⟩

theorem witness_RefsCountKept : writing7.RefsCount ∧ step writing7 = .next writing7.tick := by
  refine ⟨?_, rfl⟩
  unfold State.RefsCount State.namedBy
  decide +kernel

theorem witness_PinsCountKept : writing7.QueueOrdered ∧ writing7.PinsCount ∧ step writing7 = .next writing7.tick :=
  ⟨writing7_ordered, by constructor <;> decide +kernel, rfl⟩

theorem witness_QueueOrderKept : writing7.QueueOrdered ∧ step writing7 = .next writing7.tick := ⟨writing7_ordered, rfl⟩

theorem witness_RangesKept : writing7.WithinRanges ∧ step writing7 = .next writing7.tick :=
  ⟨by constructor <;> decide +kernel, rfl⟩

end Sys2Proof.Tests
end

/-!
PROOFS. What every executor command shares: its row by the outcome of its rule, the fields of a message, and the tables.
-/

namespace Sys2Proof.Laws

open Sys2Proof Sys2Proof.Machine

/-! ### A command's row, from what its rule answers (R160, R161)

`arm` says which rule a row runs, with its code and the greatest level it is accepted from. -/

section
variable {c : Instr} {code : Byte} {g l : Level} {f : Level → List Byte → State → Answered} {s : State} {ps : List Byte}

theorem deniedAbove_of_arm (arm : ∀ s, exec c s = s.execute code g f) : s.DeniedAbove g c code ps :=
  fun _ hl he => (arm s).trans (execute_denied he hl)

theorem exec_of_refuseWith (arm : ∀ s, exec c s = s.execute code g f) (he : s.executing l code ps) (hl : l ≤ g)
    {r : ResultCode} (hf : f l ps s = refuseWith s r) : exec c s = .next (s.withResult ⟨r, []⟩) := by
  rw [arm, execute_answers he hl (by rw [hf]; rfl), hf]
  rfl

theorem exec_of_done (arm : ∀ s, exec c s = s.execute code g f) (he : s.executing l code ps) (hl : l ≤ g)
    {t : State} {data : List Byte} (hf : f l ps s = done t data) (hp : t.port = s.port) :
    exec c s = .next (t.withResult ⟨.done, data⟩) := by
  rw [arm, execute_answers he hl (by rw [hf]; exact hp), hf]
  rfl

end

/-! ### Fields of a message (R178) -/

section
variable {n k : Nat} {i : Fin n}

theorem below_eq_some_iff : below n k = some i ↔ i.val = k := by
  unfold below
  split
  · simp [Fin.ext_iff, eq_comm]
  · next h => simp only [reduceCtorEq, false_iff]; omega

theorem below_eq_none_iff : below n k = none ↔ n ≤ k := by
  unfold below
  split
  · next h => simp only [reduceCtorEq, false_iff]; omega
  · next h => simp only [true_iff]; omega

end

section
variable {ps : List Byte} {n : Nat}

theorem zoneSlotOf_eq_some_iff {i : ZoneSlot} : zoneSlotOf ps = some i ↔ i.val = u8At ps 0 := below_eq_some_iff

theorem zoneSlotOf_eq_none_iff : zoneSlotOf ps = none ↔ 127 < u8At ps 0 := below_eq_none_iff

theorem clampInt_eq_ite {lo hi : Int} (h : lo ≤ hi) (x : Int) :
    clampInt lo hi x = if x < lo then lo else if hi < x then hi else x := by
  unfold clampInt
  split_ifs <;> omega

theorem powersAt_inRange_iff (i : Nat) :
    (powersAt ps i).inRange = true ↔ ∀ p ∈ [i, i + 2, i + 4, i + 6, i + 8, i + 10], u16At ps p ≤ 2000 := by
  rw [Powers.inRange, decide_eq_true_iff]
  simp [powersAt]

end

/-! ### Tables: what a write to one leaves of the other, and the checks on descriptors -/

section
variable (s : State) (i : ZoneSlot) (z : Zone) (k : StrategySlot)

@[simp] theorem setZone_strategy : (s.setZone i z).strategy k = s.strategy k := rfl

@[simp] theorem addRef_zone (named : Option StrategySlot) : (s.addRef named).zone i = s.zone i := by
  simp [State.zone]

theorem addRef_strategy (named : Option StrategySlot) : (s.addRef named).strategy k =
    if named = some k then { s.strategy k with refs := (s.strategy k).refs + 1 } else s.strategy k := by
  cases named with
  | none => rfl
  | some j =>
    simp only [State.addRef, setStrategy_strategy, Option.some.injEq]
    split
    · next h => rw [h]
    · rfl

theorem addRef_eq_withStrategies (named : Option StrategySlot) :
    s.addRef named = s.withStrategies (s.addRef named).strategies := by
  cases named <;> rfl

theorem mapTable_zone (f : Zone → Zone) : (s.withZones (mapTable s.zones f)).zone i = f (s.zone i) :=
  mapTable_get s.zones f i

end

section
variable {z : Zone} {s : State} {layer : LayerNo} {first last b : Nat} {i : ZoneSlot}

theorem inUse_iff : z.inUse = true ↔ z.state ≠ .free ∧ z.state ≠ .retiring := by
  unfold Zone.inUse
  cases z.state <;> simp

theorem zoneOverlap_iff : s.zoneOverlap layer first last = true ↔
    ∃ i, (s.zone i).inUse = true ∧ (s.zone i).layer = layer ∧ first ≤ (s.zone i).last ∧ (s.zone i).first ≤ last := by
  simp [State.zoneOverlap, zoneSlots, rangesOverlap, and_assoc]

theorem not_zoneOverlap (h : ∀ i, (s.zone i).inUse = true → (s.zone i).layer = layer →
    ¬ (first ≤ (s.zone i).last ∧ (s.zone i).first ≤ last)) : ¬ s.zoneOverlap layer first last = true := by
  rw [zoneOverlap_iff]
  rintro ⟨i, inUse, onLayer, meets⟩
  exact h i inUse onLayer meets

theorem covers_iff : z.covers layer b = true ↔ z.inUse = true ∧ z.layer = layer ∧ z.first ≤ b ∧ b ≤ z.last := by
  simp [Zone.covers, Zone.holds, and_assoc]

theorem lookUp_eq_none_iff : s.lookUp layer b = none ↔ ∀ i, (s.zone i).covers layer b = false := by
  simp [State.lookUp, zoneSlots]

theorem covers_of_lookUp (h : s.lookUp layer b = some i) : (s.zone i).covers layer b = true := by
  simpa using List.find?_some h

/-- Two descriptors that cover one block are one slot, since descriptors in use do not overlap (R4). -/
theorem covers_unique {j : ZoneSlot} (hs : s.ZonesDisjoint) (hi : (s.zone i).covers layer b = true)
    (hj : (s.zone j).covers layer b = true) : i = j := by
  obtain ⟨useI, layerI, firstI, lastI⟩ := covers_iff.1 hi
  obtain ⟨useJ, layerJ, firstJ, lastJ⟩ := covers_iff.1 hj
  by_contra hne
  have apart := hs i j hne useI useJ (layerI.trans layerJ.symm)
  simp only [rangesOverlap, decide_eq_false_iff_not] at apart
  omega

theorem lookUp_of_covers (hs : s.ZonesDisjoint) (hi : (s.zone i).covers layer b = true) : s.lookUp layer b = some i := by
  cases h : s.lookUp layer b with
  | none => simp [lookUp_eq_none_iff.1 h i] at hi
  | some j => rw [covers_unique hs hi (covers_of_lookUp h)]

end

end Sys2Proof.Laws

/-!
PROOFS. The zone table's commands that load, store, reopen and look up descriptors (01_the_zone_table.md): LOAD ZONE's message, then
one equation per outcome of each rule.
-/

namespace Sys2Proof.ZoneTable

open Sys2Proof Sys2Proof.Machine Sys2Proof.Laws

theorem exec_loadZone (s : State) : exec .loadZone s = s.execute codeLoadZone 0 loadZone := rfl
theorem exec_setAutotrim (s : State) : exec .setAutotrim s = s.execute codeSetAutotrim 0 setAutotrim := rfl
theorem exec_markPresent (s : State) : exec .markPresent s = s.execute codeMarkPresent 0 markPresent := rfl
theorem exec_reopenZone (s : State) : exec .reopenZone s = s.execute codeReopenZone 0 reopenZone := rfl
theorem exec_findZone (s : State) : exec .findZone s = s.execute codeFindZone 2 findZone := rfl
theorem exec_sweep (s : State) : exec .sweep s = s.execute codeSweep 0 sweep := rfl

/-! ### LOAD ZONE's message (R2, R9 check 1) -/

/-- First and last block as the granularity flag derives them (R2). -/
def loadFirst (ps : List Byte) : Nat := if (byteAt ps 2).getLsbD 0 then u24At ps 3 * 64 else u24At ps 3
def loadLast (ps : List Byte) : Nat := if (byteAt ps 2).getLsbD 0 then u24At ps 6 * 64 + 63 else u24At ps 6

/-- Some field of the message fails R9's first check, in the terms of the statement. -/
def LoadOutOfRange (ps : List Byte) : Prop :=
  127 < u8At ps 0 ∨ 3 < u8At ps 1 ∨ 4 < u8At ps 9 ∨ 1 < u8At ps 10 ∨
    (15 < u8At ps 23 ∧ u8At ps 23 ≠ 255) ∨ (∃ p ∈ [11, 13, 15, 17, 19, 21], 2000 < u16At ps p) ∨
    (u8At ps 9 = 0 ∧ u8At ps 23 ≠ 255) ∨ loadLast ps < loadFirst ps + 255

/-- The load holds the fields the message carries. -/
structure Carries (ps : List Byte) (d : ZoneLoad) : Prop where
  slot : d.slot.val = u8At ps 0
  layer : d.layer.val = u8At ps 1
  first : d.first = loadFirst ps
  last : d.last = loadLast ps
  kind : d.kind.byte = byteAt ps 9
  level : d.level = u8At ps 10
  powers : d.powers = ⟨u16At ps 11, u16At ps 13, u16At ps 15, u16At ps 17, u16At ps 19, u16At ps 21⟩
  strategy : d.strategy.map Fin.val = if u8At ps 23 = 255 then none else some (u8At ps 23)

section
variable {ps : List Byte} {n : Nat}

theorem eq_byte_of_zoneKindOf {kind : ZoneKind} (h : ZoneKind.ofCode n = some kind) : n = kind.byte.toNat := by
  unfold ZoneKind.ofCode at h
  split at h <;> cases h <;> rfl

theorem zoneKindOf_eq_none_iff : ZoneKind.ofCode n = none ↔ 4 < n :=
  match n with
  | 0 | 1 | 2 | 3 | 4 => by simp [ZoneKind.ofCode]
  | n + 5 => by simp [ZoneKind.ofCode]

/-- A strategy field that names no slot of the table and is not 0xFF fails the range check (R9). -/
theorem strategyField_eq_none_iff : strategyField n = none ↔ 15 < n ∧ n ≠ 255 := by
  unfold strategyField
  split
  · next h => simp [h]
  · next h => simp [below_eq_none_iff, Nat.succ_le_iff, h]

theorem strategyField_eq_some_iff {k : Option StrategySlot} :
    strategyField n = some k ↔ (n ≤ 15 ∨ n = 255) ∧ k.map Fin.val = if n = 255 then none else some n := by
  unfold strategyField
  split
  · next h => simp [h, eq_comm]
  · next h =>
    cases k with
    | none => simp
    | some k => simp [below_eq_some_iff]; omega

theorem derivedRange_eq : derivedRange ((byteAt ps 2).getLsbD 0) (u24At ps 3) (u24At ps 6) = (loadFirst ps, loadLast ps) := by
  unfold derivedRange loadFirst loadLast
  split <;> rfl

/-- The checks that are left once the four coded fields have a meaning. -/
def LoadChecks (ps : List Byte) (kind : ZoneKind) (strategy : Option StrategySlot) : Prop :=
  u8At ps 10 ≤ 1 ∧ (powersAt ps 11).inRange = true ∧ ¬(kind = .lead ∧ strategy.isSome = true) ∧
    loadFirst ps + 255 ≤ loadLast ps

theorem zoneLoadOf_eq_none_of_field (h : below 128 (u8At ps 0) = none ∨ below 4 (u8At ps 1) = none ∨
    ZoneKind.ofCode (u8At ps 9) = none ∨ strategyField (u8At ps 23) = none) : zoneLoadOf ps = none := by
  unfold zoneLoadOf
  split
  · simp_all
  · rfl

theorem not_loadOutOfRange_fields (h : ¬ LoadOutOfRange ps) :
    (∃ slot, below 128 (u8At ps 0) = some slot) ∧ (∃ layer, below 4 (u8At ps 1) = some layer) ∧
      (∃ kind, ZoneKind.ofCode (u8At ps 9) = some kind) ∧ ∃ strategy, strategyField (u8At ps 23) = some strategy := by
  simp only [LoadOutOfRange, not_or] at h
  obtain ⟨slot, layer, kind, -, strategy, -⟩ := h
  simp only [← Option.ne_none_iff_exists', ne_eq, below_eq_none_iff, zoneKindOf_eq_none_iff, strategyField_eq_none_iff]
  exact ⟨slot, layer, kind, strategy⟩

section
variable {slot : ZoneSlot} {layer : LayerNo} {kind : ZoneKind} {strategy : Option StrategySlot}
  (hslot : below 128 (u8At ps 0) = some slot) (hlayer : below 4 (u8At ps 1) = some layer)
  (hkind : ZoneKind.ofCode (u8At ps 9) = some kind) (hstrategy : strategyField (u8At ps 23) = some strategy)
include hslot hlayer hkind hstrategy

theorem zoneLoadOf_of_checks (h : LoadChecks ps kind strategy) : zoneLoadOf ps =
    some ⟨slot, layer, loadFirst ps, loadLast ps, kind, u8At ps 10, powersAt ps 11, strategy⟩ := by
  simp only [zoneLoadOf, hslot, hlayer, hkind, hstrategy, derivedRange_eq]
  exact if_pos h

theorem zoneLoadOf_of_not_checks (h : ¬ LoadChecks ps kind strategy) : zoneLoadOf ps = none := by
  simp only [zoneLoadOf, hslot, hlayer, hkind, hstrategy, derivedRange_eq]
  exact if_neg h

theorem loadOutOfRange_iff_not_checks : LoadOutOfRange ps ↔ ¬ LoadChecks ps kind strategy := by
  have slotOk : u8At ps 0 ≤ 127 := by rw [← below_eq_some_iff.1 hslot]; omega
  have layerOk : u8At ps 1 ≤ 3 := by rw [← below_eq_some_iff.1 hlayer]; omega
  have kindOk : u8At ps 9 ≤ 4 := by
    by_contra h
    simp [zoneKindOf_eq_none_iff.2 (Nat.lt_of_not_le h)] at hkind
  have lead : kind = .lead ↔ u8At ps 9 = 0 := by
    rw [eq_byte_of_zoneKindOf hkind]; cases kind <;> decide
  obtain ⟨strategyOk, carried⟩ := strategyField_eq_some_iff.1 hstrategy
  have named : strategy.isSome = true ↔ u8At ps 23 ≠ 255 := by
    rw [← Option.isSome_map (f := Fin.val), carried]; split <;> simp_all
  have powers : (∃ p ∈ [11, 13, 15, 17, 19, 21], 2000 < u16At ps p) ↔ ¬ (powersAt ps 11).inRange = true := by
    rw [powersAt_inRange_iff]; push Not; rfl
  simp only [LoadOutOfRange, LoadChecks, powers, lead, named]
  clear powers
  cases (powersAt ps 11).inRange
  · simp
  · simp only [not_true_eq_false, true_and, false_or]
    omega

end

/-- The range check of the decoder is the rule's (R9, check 1). -/
theorem zoneLoadOf_eq_none (h : LoadOutOfRange ps) : zoneLoadOf ps = none := by
  by_cases hfield : below 128 (u8At ps 0) = none ∨ below 4 (u8At ps 1) = none ∨
      ZoneKind.ofCode (u8At ps 9) = none ∨ strategyField (u8At ps 23) = none
  · exact zoneLoadOf_eq_none_of_field hfield
  · simp only [not_or, ← ne_eq, Option.ne_none_iff_exists'] at hfield
    obtain ⟨⟨slot, hslot⟩, ⟨layer, hlayer⟩, ⟨kind, hkind⟩, ⟨strategy, hstrategy⟩⟩ := hfield
    exact zoneLoadOf_of_not_checks hslot hlayer hkind hstrategy
      ((loadOutOfRange_iff_not_checks hslot hlayer hkind hstrategy).1 h)

/-- A message that passes the range check is loaded with the fields it carries. -/
theorem exists_zoneLoadOf (h : ¬ LoadOutOfRange ps) : ∃ d, zoneLoadOf ps = some d ∧ Carries ps d := by
  obtain ⟨⟨slot, hslot⟩, ⟨layer, hlayer⟩, ⟨kind, hkind⟩, ⟨strategy, hstrategy⟩⟩ := not_loadOutOfRange_fields h
  rw [loadOutOfRange_iff_not_checks hslot hlayer hkind hstrategy, not_not] at h
  refine ⟨_, zoneLoadOf_of_checks hslot hlayer hkind hstrategy h, ?_⟩
  exact {
    slot := below_eq_some_iff.1 hslot
    layer := below_eq_some_iff.1 hlayer
    first := rfl
    last := rfl
    kind := BitVec.eq_of_toNat_eq (eq_byte_of_zoneKindOf hkind).symm
    level := rfl
    powers := rfl
    strategy := (strategyField_eq_some_iff.1 hstrategy).2 }

end

/-- The slots SWEEP lists on a layer, in ascending order (R26). -/
def sweptSlots (s : State) (layer : LayerNo) : List ZoneSlot := zoneSlots.filter fun i => (s.zone i).swept layer

section
variable {s : State} {layer : LayerNo} {i : ZoneSlot}

theorem mem_sweptSlots_iff : i ∈ sweptSlots s layer ↔ (s.zone i).layer = layer ∧ (s.zone i).written = true := by
  simp [sweptSlots, zoneSlots, Zone.swept, and_comm]

theorem sweptSlots_ascending : (sweptSlots s layer).Pairwise (fun a b : ZoneSlot => a < b) :=
  (List.pairwise_lt_finRange 128).filter _

end

/-- What MARK PRESENT and REOPEN ZONE leave: one field of one descriptor is written (R17, R19). -/
theorem setZoneState_only_state (s : State) (i : ZoneSlot) (st : ZoneState) :
    s.setZoneState i st = s.withZones (s.setZoneState i st).zones ∧
      (s.setZoneState i st).zone i = { s.zone i with state := st } ∧
      ∀ j, j ≠ i → (s.setZoneState i st).zone j = s.zone j :=
  ⟨rfl, setZone_zone_self .., fun _ hj => setZone_zone_ne _ _ _ _ hj.symm⟩

/-! ### What each rule answers -/

section
variable {l : Level} {ps : List Byte} {s : State}

section
variable {d : ZoneLoad}

theorem loadZone_range (h : zoneLoadOf ps = none) : loadZone l ps s = refuseWith s .range := by
  simp [loadZone, h]

theorem loadZone_occupied (hd : zoneLoadOf ps = some d) (h : (s.zone d.slot).state ≠ .free) :
    loadZone l ps s = refuseWith s .occupied := by
  simp [loadZone, hd, h]

theorem loadZone_overlap (hd : zoneLoadOf ps = some d) (free : (s.zone d.slot).state = .free)
    (h : s.zoneOverlap d.layer d.first d.last = true) : loadZone l ps s = refuseWith s .overlap := by
  simp [loadZone, hd, free, h]

theorem loadZone_wrongState (hd : zoneLoadOf ps = some d) (free : (s.zone d.slot).state = .free)
    (apart : ¬ s.zoneOverlap d.layer d.first d.last = true) (h : s.strategyServes d = false) :
    loadZone l ps s = refuseWith s .wrongState := by
  simp [loadZone, hd, free, apart, h]

theorem loadZone_done (hd : zoneLoadOf ps = some d) (free : (s.zone d.slot).state = .free)
    (apart : ¬ s.zoneOverlap d.layer d.first d.last = true) (h : s.strategyServes d = true) :
    loadZone l ps s = done ((s.addRef d.strategy).setZone d.slot d.zone) := by
  simp [loadZone, hd, free, apart, h]

/-- R9, check 4, in the terms of the statement. -/
theorem strategyServes_iff : s.strategyServes d = true ↔
    (∀ k, d.strategy = some k → (s.strategy k).loaded = true) ∧ (d.strategy = none → d.kind = .lead) := by
  unfold State.strategyServes
  cases d.strategy <;> simp

end

theorem setAutotrim_range (h : 127 < u8At ps 0) : setAutotrim l ps s = refuseWith s .range := by
  simp [setAutotrim, zoneSlotOf_eq_none_iff.2 h]

theorem markPresent_range (h : 127 < u8At ps 0) : markPresent l ps s = refuseWith s .range := by
  simp [markPresent, zoneSlotOf_eq_none_iff.2 h]

theorem reopenZone_range (h : 127 < u8At ps 0) : reopenZone l ps s = refuseWith s .range := by
  simp [reopenZone, zoneSlotOf_eq_none_iff.2 h]

section
variable {i : ZoneSlot}

theorem setAutotrim_wrongState (hi : i.val = u8At ps 0) (h : ¬ (s.zone i).inUse = true) :
    setAutotrim l ps s = refuseWith s .wrongState := by
  simp [setAutotrim, zoneSlotOf_eq_some_iff.2 hi, h]

theorem setAutotrim_done (hi : i.val = u8At ps 0) (h : (s.zone i).inUse = true) :
    setAutotrim l ps s =
      done (s.setZone i { s.zone i with
          autoTrim := (byteAt ps 1).getLsbD 0, target := clampInt (-100) 100 (s16At ps 2), deadband := min 20 (u8At ps 4),
          trimLimit := false })
        [flagByte ((byteAt ps 1).getLsbD 0), sbyte1 (clampInt (-100) 100 (s16At ps 2)), byte1 (min 20 (u8At ps 4))] := by
  simp [setAutotrim, zoneSlotOf_eq_some_iff.2 hi, h]

theorem markPresent_wrongState (hi : i.val = u8At ps 0) (h : (s.zone i).state ≠ .absent) :
    markPresent l ps s = refuseWith s .wrongState := by
  simp [markPresent, zoneSlotOf_eq_some_iff.2 hi, h]

theorem markPresent_done (hi : i.val = u8At ps 0) (h : (s.zone i).state = .absent) :
    markPresent l ps s = done (s.setZoneState i .loaded) := by
  simp [markPresent, zoneSlotOf_eq_some_iff.2 hi, h]

theorem reopenZone_wrongState (hi : i.val = u8At ps 0) (h : (s.zone i).state ≠ .closed ∨ (s.zone i).kind = .once) :
    reopenZone l ps s = refuseWith s .wrongState := by
  simp only [reopenZone, zoneSlotOf_eq_some_iff.2 hi]
  rcases h with h | h
  · rw [if_pos h]
  · rw [if_pos h, ite_self]

theorem reopenZone_done (hi : i.val = u8At ps 0) (closed : (s.zone i).state = .closed) (h : (s.zone i).kind ≠ .once) :
    reopenZone l ps s = done (s.setZoneState i .loaded) := by
  simp [reopenZone, zoneSlotOf_eq_some_iff.2 hi, closed, h]

end

theorem findZone_range (h : 3 < u8At ps 0 ∨ 1073741823 < u32At ps 1) : findZone l ps s = refuseWith s .range := by
  unfold findZone
  split
  · rfl
  · next layer hlayer =>
    have := below_eq_some_iff.1 hlayer
    exact if_pos (show 1073741823 < u32At ps 1 by omega)

section
variable {layer : LayerNo}

theorem findZone_done {i : ZoneSlot} (hl : layer.val = u8At ps 0) (hb : u32At ps 1 ≤ 1073741823)
    (h : s.lookUp layer (u32At ps 1) = some i) :
    findZone l ps s = done s [byte1 i.val, (s.zone i).state.byte] := by
  simp [findZone, below_eq_some_iff.2 hl, Nat.not_lt.2 hb, h]

theorem findZone_nothing (hl : layer.val = u8At ps 0) (hb : u32At ps 1 ≤ 1073741823)
    (h : s.lookUp layer (u32At ps 1) = none) : findZone l ps s = refuseWith s .nothing := by
  simp [findZone, below_eq_some_iff.2 hl, Nat.not_lt.2 hb, h]

theorem sweep_range (h : 3 < u8At ps 0) : sweep l ps s = refuseWith s .range := by
  simp [sweep, below_eq_none_iff.2 h]

theorem sweep_done (hl : layer.val = u8At ps 0) :
    sweep l ps s =
      done (s.withZones (mapTable s.zones fun z => if z.swept layer then { z with written := false } else z))
        (byte1 (sweptSlots s layer).length :: (sweptSlots s layer).map fun i => byte1 i.val) := by
  simp [sweep, below_eq_some_iff.2 hl, sweptSlots]

end

end

end Sys2Proof.ZoneTable

/-!
PROOFS. The statements settled: O14, O17, O18, O22 and O24.
-/

namespace Sys2Proof.Settled

open Sys2Proof Sys2Proof.Machine Sys2Proof.Laws Sys2Proof.ZoneTable

/-- Settles O14: the range check is the decoder's, then one equation per check of R9, and R10's fields. -/
theorem loadZone : Obligations.LoadZone := by
  unfold Obligations.LoadZone
  refine ⟨fun s ps => deniedAbove_of_arm exec_loadZone, ?_, ?_⟩
  · intro s ps d he hd free apart named lead
    refine ⟨_, exec_of_done exec_loadZone he le_rfl
      (loadZone_done hd free (not_zoneOverlap apart) (strategyServes_iff.2 ⟨named, lead⟩)) (by simp), ?_, ?_, ?_, ?_⟩
    · rw [addRef_eq_withStrategies]; rfl
    · rw [setZone_zone_self]; rfl
    · intro j hj
      rw [setZone_zone_ne _ _ _ _ hj.symm, addRef_zone]
    · intro k
      rw [setZone_strategy, addRef_strategy]
  · intro s ps he first last badRange
    refine ⟨fun bad => exec_of_refuseWith exec_loadZone he le_rfl (loadZone_range (zoneLoadOf_eq_none bad)), fun ok => ?_⟩
    obtain ⟨d, hd, carried⟩ := exists_zoneLoadOf ok
    refine ⟨d, hd, carried.slot, carried.layer, carried.first, carried.last, carried.kind, carried.level, carried.powers,
      carried.strategy, fun occupied => ?_, fun free meets => ?_, fun free apart unserved => ?_⟩
    · exact exec_of_refuseWith exec_loadZone he le_rfl (loadZone_occupied hd occupied)
    · exact exec_of_refuseWith exec_loadZone he le_rfl (loadZone_overlap hd free (zoneOverlap_iff.2 meets))
    · refine exec_of_refuseWith exec_loadZone he le_rfl (loadZone_wrongState hd free (not_zoneOverlap apart) ?_)
      rw [← Bool.not_eq_true, strategyServes_iff]
      rintro ⟨named, lead⟩
      rcases unserved with ⟨unnamed, notLead⟩ | ⟨k, names, notLoaded⟩
      · exact notLead (lead unnamed)
      · simp [named k names] at notLoaded

/-- Settles O17, by the slot's state; the saturations are `clampInt` and `min`. -/
theorem setAutotrimStores : Obligations.SetAutotrimStores := by
  unfold Obligations.SetAutotrimStores
  refine fun s ps => ⟨deniedAbove_of_arm exec_setAutotrim, fun he => ?_⟩
  intro target deadband on
  have htarget : clampInt (-100) 100 (s16At ps 2) = target := clampInt_eq_ite (by decide) _
  have hdeadband : min 20 (u8At ps 4) = deadband := by
    rw [min_def]; simp only [deadband]; split_ifs <;> omega
  refine ⟨fun h => exec_of_refuseWith exec_setAutotrim he le_rfl (setAutotrim_range h), fun i hi => ⟨fun idle => ?_, ?_⟩⟩
  · refine exec_of_refuseWith exec_setAutotrim he le_rfl (setAutotrim_wrongState hi ?_)
    rw [inUse_iff]
    tauto
  · intro notFree notRetiring
    rw [← htarget, ← hdeadband]
    exact ⟨_, exec_of_done exec_setAutotrim he le_rfl (setAutotrim_done hi (inUse_iff.2 ⟨notFree, notRetiring⟩)) (by simp),
      rfl, setZone_zone_self .., fun j hj => setZone_zone_ne _ _ _ _ hj.symm⟩

/-- Settles O18: both commands move the slot to Loaded by `setZoneState`, which keeps the other fields. -/
theorem presentAndReopen : Obligations.PresentAndReopen := by
  unfold Obligations.PresentAndReopen
  refine fun s ps i => ⟨deniedAbove_of_arm exec_markPresent, deniedAbove_of_arm exec_reopenZone, fun he => ?_, fun he => ?_⟩
  · refine ⟨fun h => ?_, fun hi h => ?_, fun hi h => ⟨_, ?_, setZoneState_only_state s i .loaded⟩⟩
    · exact exec_of_refuseWith exec_markPresent he le_rfl (markPresent_range h)
    · exact exec_of_refuseWith exec_markPresent he le_rfl (markPresent_wrongState hi h)
    · exact exec_of_done exec_markPresent he le_rfl (markPresent_done hi h) rfl
  · refine ⟨fun h => ?_, fun hi h => ?_, fun hi closed h => ⟨_, ?_, setZoneState_only_state s i .loaded⟩⟩
    · exact exec_of_refuseWith exec_reopenZone he le_rfl (reopenZone_range h)
    · exact exec_of_refuseWith exec_reopenZone he le_rfl (reopenZone_wrongState hi h)
    · exact exec_of_done exec_reopenZone he le_rfl (reopenZone_done hi closed h) rfl

/-- Settles O22, with `sweptSlots` for the list. -/
theorem sweepCollects : Obligations.SweepCollects := by
  unfold Obligations.SweepCollects
  refine fun s ps => ⟨deniedAbove_of_arm exec_sweep, fun he => ⟨fun h => ?_, fun layer hl => ?_⟩⟩
  · exact exec_of_refuseWith exec_sweep he le_rfl (sweep_range h)
  · refine ⟨_, sweptSlots s layer, exec_of_done exec_sweep he le_rfl (sweep_done hl) rfl, rfl, sweptSlots_ascending,
      fun i => mem_sweptSlots_iff, fun clear i hi free => ?_, fun i => ?_⟩
    · have written := (mem_sweptSlots_iff.1 hi).2
      simp [clear i free] at written
    · rw [mapTable_zone]
      simp only [mem_sweptSlots_iff, Zone.swept, Bool.and_eq_true, decide_eq_true_eq, and_comm]

/-- Settles O24: with disjoint descriptors the look-up finds the covering slot, whichever it is. -/
theorem findZoneLooksUp : Obligations.FindZoneLooksUp := by
  unfold Obligations.FindZoneLooksUp
  refine fun s l ps layer disjoint he => ⟨fun h => ?_, fun hl hb => ⟨fun i inUse onLayer first last => ?_, fun uncovered => ?_⟩⟩
  · exact exec_of_refuseWith exec_findZone he (Fin.le_last l) (findZone_range h)
  · have found := lookUp_of_covers disjoint (covers_iff.2 ⟨inUse, onLayer, first, last⟩)
    exact exec_of_done exec_findZone he (Fin.le_last l) (findZone_done hl hb found) rfl
  · refine exec_of_refuseWith exec_findZone he (Fin.le_last l) (findZone_nothing hl hb (lookUp_eq_none_iff.2 fun i => ?_))
    rw [← Bool.not_eq_true, covers_iff]
    rintro ⟨inUse, onLayer, first, last⟩
    exact absurd last (Nat.not_le.2 (uncovered i inUse onLayer first))

end Sys2Proof.Settled

/-!
PROOFS. The level computation (02_level_computation.md): each stage's integer code against its formula in rational arithmetic.
-/

namespace Sys2Proof.LevelComputation

open Sys2Proof Sys2Proof.Machine Sys2Proof.Laws

/-! ### Rounding and saturation -/

theorem roundHalfUp_div (a : Int) {d : Nat} (hd : 0 < d) : roundHalfUp ((a : ℚ) / d) = (2 * a + d) / (2 * d) := by
  have common : (a : ℚ) / d + 1 / 2 = ((2 * a + d : Int) : ℚ) / ((2 * d : Nat) : ℚ) := by
    push_cast
    field_simp
  rw [roundHalfUp, common, Rat.floor_intCast_div_natCast]
  push_cast
  rfl

theorem roundHalfAway_of_nonneg {x : ℚ} (hx : 0 ≤ x) : roundHalfAway x = roundHalfUp x := if_pos hx

theorem roundHalfAway_neg {x : ℚ} (hx : 0 ≤ x) : roundHalfAway (-x) = -roundHalfUp x := by
  rcases hx.eq_or_lt with rfl | pos
  · norm_num [roundHalfAway, roundHalfUp]
  · rw [roundHalfAway, if_neg (by linarith), neg_neg, roundHalfUp]

theorem le_clampInt (lo hi x : Int) : lo ≤ clampInt lo hi x := le_max_left ..

/-- A quantity under a ceiling, as the rules write it: the ceiling when the quantity is above it. -/
theorem cast_min_eq_ite (p ceiling : Nat) :
    ((min p ceiling : Nat) : Int) = if (ceiling : Int) < p then (ceiling : Int) else p := by
  rw [Nat.cast_min, min_comm, min_def_lt]

/-! ### Peak and bias power before the ceiling (R35 to R37) -/

section
variable {d n span : Nat}

theorem interpolationMagnitude_eq (hspan : 0 < span) :
    (interpolationMagnitude d n span : Int) = roundHalfUp ((d : ℚ) * n / span) := by
  have rounded := roundHalfUp_div (d * n) hspan
  push_cast at rounded
  rw [rounded, interpolationMagnitude, ← mul_assoc]
  push_cast
  rfl

/-- Between the bounds of the zone the term is no longer than the difference it scales, so P1 stays between Pi and Po. -/
theorem interpolationMagnitude_le (hn : n ≤ span) (hspan : 0 < span) : interpolationMagnitude d n span ≤ d := by
  have scaled : d * n ≤ d * span := Nat.mul_le_mul_left d hn
  exact Nat.le_of_lt_succ ((Nat.div_lt_iff_lt_mul (by omega)).2 (by nlinarith))

end

/-- R35: the term's sign is that of Po - Pi, and the magnitude of a negative one rounds away from zero. -/
theorem interpolate_eq (inner outer : Nat) {first last block : Nat} (hspan : first < last) (hfirst : first ≤ block)
    (hlast : block ≤ last) : (interpolate inner outer first last block : Int) =
      inner + roundHalfAway (((outer : ℚ) - inner) * ((block : ℚ) - first) / ((last : ℚ) - first)) := by
  have positive : 0 < last - first := Nat.sub_pos_of_lt hspan
  rw [← Nat.cast_sub hfirst, ← Nat.cast_sub hspan.le, interpolate]
  split
  · next rising =>
    rw [← Nat.cast_sub rising, roundHalfAway_of_nonneg (by positivity), ← interpolationMagnitude_eq positive]
    push_cast
    rfl
  · next falling =>
    have within := interpolationMagnitude_le (d := inner - outer) (Nat.sub_le_sub_right hlast first) positive
    rw [← neg_sub (inner : ℚ), ← Nat.cast_sub (Nat.le_of_not_le falling), neg_mul, neg_div,
      roundHalfAway_neg (by positivity), ← interpolationMagnitude_eq positive]
    omega

/-- R36: a trim of at least -128 keeps the factor positive, so the code's natural number loses nothing. -/
theorem applyTrim_eq (p1 : Nat) {trim : Int} (h : -128 ≤ trim) :
    (applyTrim p1 trim : Int) = roundHalfUp ((p1 : ℚ) * (1024 + trim) / 1024) := by
  have rounded := roundHalfUp_div (p1 * (1024 + trim)) (d := 1024) (by decide)
  have product : 0 ≤ (p1 : Int) * (1024 + trim) := mul_nonneg (by omega) (by omega)
  push_cast at rounded
  rw [rounded, applyTrim, mul_assoc]
  omega

/-- R37: a step of at least -16 keeps the factor positive. -/
theorem applyStep_some_eq (p2 : Nat) {c : Int} (h : -16 ≤ c) :
    (applyStep p2 (some c) : Int) = roundHalfUp ((p2 : ℚ) * (64 + c) / 64) := by
  have rounded := roundHalfUp_div (p2 * (64 + c)) (d := 64) (by decide)
  have product : 0 ≤ (p2 : Int) * (64 + c) := mul_nonneg (by omega) (by omega)
  push_cast at rounded
  rw [rounded, applyStep, mul_assoc]
  omega

/-! ### Threshold, slope and current (R39, R40) -/

/-- R39, the threshold, whose factor is at least 2048. -/
theorem thresholdCurrent_eq (m : LaserModel) (temp : Int) : (thresholdCurrent m temp : Int) =
    roundHalfUp ((m.ith25 : ℚ) * (clampInt 2048 8192 (4096 + m.kth * (temp - 25)) : Int) / 4096) := by
  unfold thresholdCurrent
  have factor := le_clampInt 2048 8192 (4096 + m.kth * (temp - 25))
  generalize clampInt 2048 8192 (4096 + m.kth * (temp - 25)) = f at factor ⊢
  have rounded := roundHalfUp_div (m.ith25 * f) (d := 4096) (by decide)
  have product : 0 ≤ (m.ith25 : Int) * f := mul_nonneg (by omega) (by omega)
  push_cast at rounded
  rw [rounded]
  simp only [mul_assoc]
  omega

/-- R39, the slope efficiency, rounded down. -/
theorem slopeEfficiency_eq (m : LaserModel) (temp : Int) : (slopeEfficiency m temp : Int) =
    max 50 ⌊(m.eta25 : ℚ) * (clampInt 2048 6144 (4096 - m.keta * (temp - 25)) : Int) / 4096⌋ := by
  unfold slopeEfficiency
  have factor := le_clampInt 2048 6144 (4096 - m.keta * (temp - 25))
  generalize clampInt 2048 6144 (4096 - m.keta * (temp - 25)) = f at factor ⊢
  have floored := Rat.floor_intCast_div_natCast (m.eta25 * f) 4096
  have product : 0 ≤ (m.eta25 : Int) * f := mul_nonneg (by omega) (by omega)
  push_cast at floored
  rw [floored]
  simp only
  omega

theorem slopeEfficiency_pos (m : LaserModel) (temp : Int) : 0 < slopeEfficiency m temp :=
  lt_of_lt_of_le (by decide) (le_max_left ..)

/-- R40: the code's 500 P over 2 eta is the rule's 250 P over eta with the half already added. -/
theorem currentFor_eq (ith p : Nat) {eta : Nat} (h : 0 < eta) :
    (currentFor ith eta p : Int) = ith + roundHalfUp (250 * (p : ℚ) / eta) := by
  have rounded := roundHalfUp_div (250 * p) h
  push_cast at rounded
  rw [rounded, currentFor, ← mul_assoc]
  push_cast
  rfl

/-- R42: seven eighths of the threshold, rounded down. -/
theorem cast_seven_eighths (ith : Nat) : ((ith * 7 / 8 : Nat) : Int) = ⌊((ith : Int) : ℚ) * 7 / 8⌋ := by
  have floored := Rat.floor_natCast_div_natCast (ith * 7) 8
  push_cast at floored ⊢
  exact floored.symm

/-! ### The set of a computation (R33) -/

/-- The drive level that `levelsOf` gives a peak, bias or bottom power. -/
def writeLevelAt (i : LevelInputs) (p : Nat) : DriveLevel :=
  writeLevel p i.ceilings.pmax i.ceilings.imax (thresholdCurrent i.model i.temp) (slopeEfficiency i.model i.temp)

theorem levelsOf_write_of_read {i : LevelInputs} (h : i.intent = .read) : (levelsOf i).write = none := by
  simp only [levelsOf, h]

theorem levelsOf_write_of_ne_read {i : LevelInputs} (h : i.intent ≠ .read) : (levelsOf i).write = some
    { peak := writeLevelAt i (shapedPower i i.powers.pwi i.powers.pwo)
      bias := writeLevelAt i (shapedPower i i.powers.pei i.powers.peo)
      bottom := writeLevelAt i i.powers.pb } := by
  cases intent : i.intent with
  | read => exact absurd intent h
  | write => simp only [levelsOf, intent, writeLevelAt]
  | calibrate => simp only [levelsOf, intent, writeLevelAt]

end Sys2Proof.LevelComputation

/-!
PROOFS. The statement settled: O46.
-/

namespace Sys2Proof.Settled

open Sys2Proof Sys2Proof.Machine Sys2Proof.Laws Sys2Proof.LevelComputation

/-- Settles O46: each named quantity of the statement is the model's own, and the levels are then read off. -/
theorem levelsFollowFormulas : Obligations.LevelsFollowFormulas := by
  unfold Obligations.LevelsFollowFormulas
  intro i _ hlength hfirst hlast htrim _ hstep _ _ held threshold slope ith eta p1 p2 p3 power current isRead isWrite l
  have hheld {low high : Int} (h : low ≤ high) (x : Int) : held low high x = clampInt low high x := (clampInt_eq_ite h x).symm
  have hith : ith = thresholdCurrent i.model i.temp := by
    rw [thresholdCurrent_eq, ← hheld (by decide)]
  have heta : eta = slopeEfficiency i.model i.temp := by
    rw [slopeEfficiency_eq, ← hheld (by decide), max_comm, max_def_lt]
  have hp1 (inner outer : Nat) : p1 inner outer = interpolate inner outer i.first i.last i.block :=
    (interpolate_eq inner outer (by omega) hfirst hlast).symm
  have hp2 (inner outer : Nat) : p2 inner outer = applyTrim (interpolate inner outer i.first i.last i.block) i.trim := by
    rw [applyTrim_eq _ htrim]
    simp only [p2, hp1, Int.cast_natCast]
  have hp3 (inner outer : Nat) : p3 inner outer = shapedPower i inner outer := by
    simp only [p3, shapedPower, hp2]
    cases h : i.step with
    | none => rfl
    | some c => rw [applyStep_some_eq _ (hstep c h).2.1, Int.cast_natCast]
  have hpower (p : Nat) : power p = targetPower p i.ceilings.pmax := (cast_min_eq_ite ..).symm
  have hcurrent (p : Nat) : current p = currentFor (thresholdCurrent i.model i.temp) (slopeEfficiency i.model i.temp)
      (targetPower p i.ceilings.pmax) := by
    rw [currentFor_eq _ _ (slopeEfficiency_pos ..), ← hith]
    simp only [current, hpower, heta, Int.cast_natCast]
  have hclamp (p ceiling : Nat) : decide (ceiling < p) = true ↔ (ceiling : Int) < p := by
    rw [decide_eq_true_iff, Nat.cast_lt]
  have hwrite (p : Nat) : isWrite (writeLevelAt i p) p := by
    refine ⟨(hpower p).symm, hclamp .., ?_, ?_⟩
    · rw [hcurrent]
      exact cast_min_eq_ite ..
    · rw [hcurrent]
      exact hclamp ..
  have hhalf : ⌊(ith : ℚ) * 7 / 8⌋ = ((thresholdCurrent i.model i.temp * 7 / 8 : Nat) : Int) := by
    rw [cast_seven_eighths, ← hith]
  refine ⟨rfl, rfl, rfl, rfl, rfl, ⟨(hpower _).symm, hclamp .., (hcurrent _).symm⟩, levelsOf_write_of_read,
    fun writes => ⟨_, levelsOf_write_of_ne_read writes, ?_, ?_, hwrite _⟩, ?_⟩
  · rw [hp3]
    exact hwrite _
  · rw [hp3]
    exact hwrite _
  · intro idle half
    simp only [half, hhalf]
    exact ⟨hith.symm, (hpower _).symm, decide_eq_true_iff, (hcurrent _).symm, cast_min_eq_ite .., hclamp ..⟩

end Sys2Proof.Settled

/-!
PROOFS. The strategy table's commands that load and release a slot (03_write_strategies.md): LOAD STRATEGY's twenty widths, then one
equation per outcome of each rule.
-/

namespace Sys2Proof.StrategyTable

open Sys2Proof Sys2Proof.Machine Sys2Proof.Laws

theorem exec_loadStrategy (s : State) : exec .loadStrategy s = s.execute codeLoadStrategy 0 loadStrategy := rfl
theorem exec_releaseStrategy (s : State) : exec .releaseStrategy s = s.execute codeReleaseStrategy 0 releaseStrategy := rfl

/-! ### LOAD STRATEGY's widths (section 3.1, R48) -/

/-- Some width of the class whose five bytes begin at the index lies outside its range, in the terms of the statement. -/
def ClassOutOfRange (ps : List Byte) (c : Nat) : Prop :=
  15 < u8At ps c ∨ u8At ps (c + 1) < 2 ∨ 32 < u8At ps (c + 1) ∨ u8At ps (c + 2) < 2 ∨ 14 < u8At ps (c + 2) ∨
    16 < u8At ps (c + 3) ∨ 32 < u8At ps (c + 4)

/-- The widths fail R48's range check, in the terms of the statement. -/
def WidthsOutOfRange (ps : List Byte) : Prop :=
  (∃ c ∈ [1, 6, 11, 16], ClassOutOfRange ps c) ∨ 32 < u8At ps 1 + u8At ps 2 ∨ 32 < u8At ps 6 + u8At ps 7

section
variable {ps : List Byte}

theorem widthsAt_inRange_iff (c : Nat) : (widthsAt ps c).inRange = true ↔ ¬ ClassOutOfRange ps c := by
  rw [ClassWidths.inRange, decide_eq_true_iff]
  simp only [widthsAt, ClassOutOfRange]
  omega

theorem strategyRecordOf_inRange_iff : (strategyRecordOf ps).inRange = true ↔ ¬ WidthsOutOfRange ps := by
  simp only [StrategyRecord.inRange, Bool.and_eq_true, decide_eq_true_iff]
  simp only [strategyRecordOf, widthsAt_inRange_iff]
  simp [WidthsOutOfRange, widthsAt, and_assoc]

theorem byte1_u8At (i : Nat) : byte1 (u8At ps i) = byteAt ps i := by simp [byte1, u8At]

theorem widthsAt_bytes (c : Nat) : (widthsAt ps c).bytes =
    [byteAt ps c, byteAt ps (c + 1), byteAt ps (c + 2), byteAt ps (c + 3), byteAt ps (c + 4)] := by
  simp only [ClassWidths.bytes, widthsAt, byte1_u8At]

/-- The record stored gives back the message's bytes 1 to 20 in their order. -/
theorem strategyRecordOf_bytes : (strategyRecordOf ps).bytes = (List.range 20).map fun j => byteAt ps (j + 1) := by
  simp only [StrategyRecord.bytes, strategyRecordOf, widthsAt_bytes]
  rfl

theorem strategySlotOf_eq_some_iff {k : StrategySlot} : strategySlotOf ps = some k ↔ k.val = u8At ps 0 :=
  below_eq_some_iff

theorem strategySlotOf_eq_none_iff : strategySlotOf ps = none ↔ 15 < u8At ps 0 := below_eq_none_iff

end

/-! ### What a write to the table leaves -/

section
variable (s : State) (k : StrategySlot) (t : Strategy)

theorem setStrategy_eq_withStrategies : s.setStrategy k t = s.withStrategies (s.setStrategy k t).strategies := rfl

theorem setStrategy_strategy_self : (s.setStrategy k t).strategy k = t := by simp [setStrategy_strategy]

theorem setStrategy_strategy_ne {j : StrategySlot} (h : j ≠ k) : (s.setStrategy k t).strategy j = s.strategy j := by
  simp [setStrategy_strategy, h.symm]

end

/-! ### What each rule answers -/

section
variable {l : Level} {ps : List Byte} {s : State}

theorem loadStrategy_range (h : 15 < u8At ps 0 ∨ WidthsOutOfRange ps) : loadStrategy l ps s = refuseWith s .range := by
  unfold loadStrategy
  split
  · rfl
  · next k hk =>
    have slot := strategySlotOf_eq_some_iff.1 hk
    have bad : WidthsOutOfRange ps := h.resolve_left (by omega)
    rw [if_pos fun ok => strategyRecordOf_inRange_iff.1 ok bad]

theorem releaseStrategy_range (h : 15 < u8At ps 0) : releaseStrategy l ps s = refuseWith s .range := by
  simp [releaseStrategy, strategySlotOf_eq_none_iff.2 h]

section
variable {k : StrategySlot}

theorem loadStrategy_occupied (hk : k.val = u8At ps 0) (ok : ¬ WidthsOutOfRange ps) (h : (s.strategy k).loaded = true) :
    loadStrategy l ps s = refuseWith s .occupied := by
  simp [loadStrategy, strategySlotOf_eq_some_iff.2 hk, strategyRecordOf_inRange_iff.2 ok, h]

theorem loadStrategy_done (hk : k.val = u8At ps 0) (ok : ¬ WidthsOutOfRange ps) (h : (s.strategy k).loaded = false) :
    loadStrategy l ps s = done (s.setStrategy k ⟨true, 0, strategyRecordOf ps⟩) := by
  simp [loadStrategy, strategySlotOf_eq_some_iff.2 hk, strategyRecordOf_inRange_iff.2 ok, h]

theorem releaseStrategy_wrongState (hk : k.val = u8At ps 0) (h : (s.strategy k).loaded = false) :
    releaseStrategy l ps s = refuseWith s .wrongState := by
  simp [releaseStrategy, strategySlotOf_eq_some_iff.2 hk, h]

theorem releaseStrategy_inUse (hk : k.val = u8At ps 0) (loaded : (s.strategy k).loaded = true)
    (h : 0 < (s.strategy k).refs) : releaseStrategy l ps s = refuseWith s .inUse := by
  simp [releaseStrategy, strategySlotOf_eq_some_iff.2 hk, loaded, h]

theorem releaseStrategy_done (hk : k.val = u8At ps 0) (loaded : (s.strategy k).loaded = true)
    (h : (s.strategy k).refs = 0) : releaseStrategy l ps s = done (s.setStrategy k Strategy.freeContent) := by
  simp [releaseStrategy, strategySlotOf_eq_some_iff.2 hk, loaded, h]

end

end

end Sys2Proof.StrategyTable

/-!
PROOFS. The statement settled: O25.
-/

namespace Sys2Proof.Settled

open Sys2Proof Sys2Proof.Machine Sys2Proof.Laws Sys2Proof.StrategyTable

/-- Settles O25: one equation per outcome of the two rules, each of which writes the named slot alone. -/
theorem strategySlotsLoadAndFree : Obligations.StrategySlotsLoadAndFree := by
  unfold Obligations.StrategySlotsLoadAndFree
  refine fun s ps => ⟨deniedAbove_of_arm exec_loadStrategy, deniedAbove_of_arm exec_releaseStrategy,
    fun he => ⟨fun bad => ?_, fun k hk ok => ⟨fun loaded => ?_, fun free => ?_⟩⟩,
    fun he => ⟨fun bad => ?_, fun k hk => ⟨fun free => ?_, fun loaded named => ?_, fun loaded unnamed => ?_⟩⟩⟩
  · exact exec_of_refuseWith exec_loadStrategy he le_rfl (loadStrategy_range bad)
  · exact exec_of_refuseWith exec_loadStrategy he le_rfl (loadStrategy_occupied hk ok loaded)
  · refine ⟨_, exec_of_done exec_loadStrategy he le_rfl (loadStrategy_done hk ok free) (by simp),
      setStrategy_eq_withStrategies .., ?_⟩
    rw [setStrategy_strategy_self]
    exact ⟨rfl, rfl, strategyRecordOf_bytes, fun j hj => setStrategy_strategy_ne _ _ _ hj⟩
  · exact exec_of_refuseWith exec_releaseStrategy he le_rfl (releaseStrategy_range bad)
  · exact exec_of_refuseWith exec_releaseStrategy he le_rfl (releaseStrategy_wrongState hk free)
  · exact exec_of_refuseWith exec_releaseStrategy he le_rfl (releaseStrategy_inUse hk loaded named)
  · exact ⟨_, exec_of_done exec_releaseStrategy he le_rfl (releaseStrategy_done hk loaded unnamed) (by simp),
      setStrategy_eq_withStrategies .., setStrategy_strategy_self .., fun j hj => setStrategy_strategy_ne _ _ _ hj⟩

end Sys2Proof.Settled

/-!
PROOFS. What follows a change of the queue (R30, R31, R63, R118), in the terms of the statements.
-/

namespace Sys2Proof.Laws

open Sys2Proof Sys2Proof.Machine

section
variable {s u : State}

/-- The translator's step and the pickup's leave the level computer to its look for a target. -/
theorem queueChanged_levels (u : State) : u.queueChanged.levels = u.startTranslator.retarget.levels := by
  simp [State.queueChanged]

theorem queueChanged_levelInputs (u : State) (g : Target) : u.queueChanged.levelInputs g = u.startTranslator.levelInputs g :=
  levelInputs_congr (by simp) (by simp) g

/-- The target is the one whose set or computation the level computer has: it keeps both sets (R31). -/
theorem queueChanged_levels_same (h : (targetOf u.queue).map (fun g => (g.tag, g.block)) = u.levels.prepared.key) :
    u.queueChanged.levels = u.levels := by
  rw [queueChanged_levels, State.retarget]
  simp [h]

/-- Another target, or none: both sets go, and a computation starts for the target there is (R31). -/
theorem queueChanged_levels_other (h : (targetOf u.queue).map (fun g => (g.tag, g.block)) ≠ u.levels.prepared.key) :
    u.queueChanged.levels = { u.levels with
      prepared := match targetOf u.queue with
        | some g => .computing (u.queueChanged.levelInputs g)
        | none => .absent
      standIn := none } := by
  simp only [queueChanged_levelInputs, queueChanged_levels]
  rw [State.retarget, startTranslator_queue, startTranslator_levels, if_neg h]
  rfl

theorem queueChanged_targetFollowed (hl : u.levels = s.levels) : TargetFollowed s u.queueChanged := by
  constructor <;> rw [queueChanged_queue, ← hl]
  · intro h
    rw [queueChanged_levels_same h]
    exact ⟨rfl, rfl⟩
  · intro g hg h
    rw [queueChanged_levels_other (by rw [hg]; exact h.symm), hg]
    exact ⟨rfl, rfl⟩
  · intro hg h
    rw [queueChanged_levels_other (by rw [hg]; exact h.symm), hg]
    exact ⟨rfl, rfl⟩

/-- Of the level computer only the prepared and the stand-in set follow the queue. -/
theorem queueChanged_levels_frame (u : State) : u.queueChanged.levels = { u.levels with
    prepared := u.queueChanged.levels.prepared, standIn := u.queueChanged.levels.standIn } := by
  by_cases h : (targetOf u.queue).map (fun g => (g.tag, g.block)) = u.levels.prepared.key
  · rw [queueChanged_levels_same h]
  · rw [queueChanged_levels_other h]

/-- R118's conditions for a move from the layer `source` to that of the oldest Accepted entry `e`. -/
def MoveDue (u : State) (source : LayerNo) (e : Entry) : Prop :=
  u.pickup.motion = .settled source ∧ u.laser.state = .idle ∧ (∀ f ∈ u.queue, f.state ≠ .current) ∧
    u.queue.find? (fun e => decide (e.state = .accepted)) = some e ∧ e.layer ≠ source

theorem maybeMove_of_due {source : LayerNo} {e : Entry} (h : MoveDue u source e) :
    u.maybeMove = u.startMove source e.layer := by
  obtain ⟨settled, idle, noCurrent, oldest, elsewhere⟩ := h
  have noneCurrent : (u.queue.any fun f => decide (f.state = .current)) = false := by simpa using noCurrent
  simp [State.maybeMove, settled, idle, oldest, elsewhere, noneCurrent]

theorem maybeMove_of_not_due (h : ∀ source e, ¬ MoveDue u source e) : u.maybeMove = u := by
  unfold State.maybeMove
  split
  · next source e settled oldest =>
    refine if_neg fun ⟨idle, noCurrent, elsewhere⟩ => h source e ⟨settled, idle, ?_, oldest, elsewhere⟩
    simpa using noCurrent
  · rfl

/-- Translator and level computer touch nothing that a move asks for. -/
theorem moveDue_retarget_startTranslator {source : LayerNo} {e : Entry} :
    MoveDue u.startTranslator.retarget source e ↔ MoveDue u source e := by
  simp [MoveDue]

theorem queueChanged_moveFollowed (hp : u.pickup = s.pickup) : MoveFollowed s u.queueChanged := by
  constructor <;> rw [queueChanged_queue, queueChanged_laser, ← hp]
  · intro layer e settled idle noCurrent oldest elsewhere
    have due : MoveDue u layer e := ⟨settled, idle, noCurrent, oldest, elsewhere⟩
    rw [State.queueChanged, maybeMove_of_due (moveDue_retarget_startTranslator.2 due)]
    simp [State.startMove, State.layerRecord, hp]
  · intro stays
    rw [State.queueChanged, maybeMove_of_not_due]
    · simp
    intro source e due
    obtain ⟨settled, idle, noCurrent, oldest, elsewhere⟩ := moveDue_retarget_startTranslator.1 due
    rcases stays with ⟨_, _, _, moving⟩ | dark | ⟨f, hf, current⟩ | noAccepted | ⟨layer, f, settled', oldest', here⟩
    · simp [settled] at moving
    · exact dark idle
    · exact noCurrent f hf current
    · exact noAccepted e (List.mem_of_find?_eq_some oldest) (by simpa using List.find?_some oldest)
    · obtain rfl : e = f := Option.some.inj (oldest.symm.trans oldest')
      obtain rfl : source = layer := Motion.settled.inj (settled.symm.trans settled')
      exact elsewhere here

end

/-- The block in service is as it was when every entry of the queue is still there (R79, R94). -/
theorem blockRecord_after_of_subset {s t : State} (h : s.queue ⊆ t.queue) (r : BlockRecord) : r.after s t = r := by
  have stays : ∀ e ∈ s.queue, (t.queue.any fun f => f.tag == e.tag) = true := fun e he =>
    List.any_eq_true.2 ⟨e, h he, by simp⟩
  have unchanged : ∀ e ∈ s.queue, t.queue.contains e = true := fun e he => by simpa using h he
  have gone : (s.queue.any fun e => r.isOf e && !(t.queue.any fun f => f.tag == e.tag)) = false :=
    List.any_eq_false.2 fun e he => by simp [stays e he]
  have cut : (s.queue.any fun e => r.isOf e && decide (e.state = .current ∧ e.next < e.stop) && !t.queue.contains e &&
      t.queue.any fun f => f.tag == e.tag && decide (f.stop ≤ f.next)) = false :=
    List.any_eq_false.2 fun e he => by simp [h he]
  unfold BlockRecord.after
  rw [gone, cut]
  simp

/-- Entries join the queue, and none leaves it: no descriptor, reply or request is touched (R61, R63). -/
theorem triggerFrame_of_queue_grows (s : State) {q : List Entry} (h : s.queue ⊆ q) :
    TriggerFrame [] [] s (s.withQueue q).queueChanged where
  zones j _ := by simp [State.zone]
  strategies k := by simp [State.strategy]
  levels := queueChanged_levels_frame _
  target _ := queueChanged_targetFollowed rfl
  translator := by simp
  pickup := queueChanged_moveFollowed rfl
  gate := by
    have kept : ∀ r : BlockRecord, r.after s (s.withQueue q).queueChanged = r :=
      blockRecord_after_of_subset (by simpa using h)
    simp [kept]
  replies := stored_nil (by simp)
  alert := by
    refine queueChanged_alert (s.withQueue q) ▸ alertRaised_congr (alertRaised_refl _) fun f => ?_
    have noneFreed : ∀ j, ¬ ((s.zone j).state = .retiring ∧ ((s.withQueue q).queueChanged.zone j).state = .free) := by
      simp +contextual [State.zone]
    simp [noneFreed]
  others := by simp

/-- All that a REFUSE does (R59, R62). -/
theorem produceRefuse_told (s : State) (tag : Byte) (reason : RefuseReason) :
    Told [.refuse tag reason] .refuse s (s.produceRefuse tag reason) := by
  obtain ⟨store, alert⟩ := produce_told s (.refuse tag reason)
  refine ⟨by simpa [Stored, State.produceRefuse] using store, ?_⟩
  exact alertRaised_congr (alertRaised_trans alert (alertRaised_raise _ .refuse)) fun f => Bool.or_comm ..

theorem produceRefuse_eq (s : State) (tag : Byte) (reason : RefuseReason) :
    s.produceRefuse tag reason =
      (s.withLink (s.produceRefuse tag reason).link).withAlert (s.produceRefuse tag reason).alert := by
  unfold State.produceRefuse State.produce
  split <;> rfl

end Sys2Proof.Laws

/-!
PROOFS. The ANNOUNCE message (04_block_announce_link_and_announce_queue.md, R57 to R62): its fields, then one equation per outcome
of the admission.
-/

namespace Sys2Proof.AnnounceQueue

open Sys2Proof Sys2Proof.Machine Sys2Proof.Laws

/-! ### The fields of the frame (section 12.2, R58) -/

theorem decodeIntent_eq_none_iff {code : BitVec 2} : decodeIntent code = none ↔ code = 3#2 := by
  revert code
  decide

theorem decodeIntent_eq_some_iff {code : BitVec 2} {intent : Intent} : decodeIntent code = some intent ↔
    (intent = .read ∧ code = 0#2) ∨ (intent = .write ∧ code = 1#2) ∨ (intent = .calibrate ∧ code = 2#2) := by
  cases intent <;> revert code <;> decide

theorem decodeBlock_eq_none_iff {b : BitVec 32} : decodeBlock b = none ↔ 1073741823 < b.toNat := by
  simp [decodeBlock, Config.maxBlock]

theorem decodeBlock_eq_some {b : BitVec 32} (h : b.toNat ≤ 1073741823) : decodeBlock b = some b.toNat := if_pos h

section
variable {tag packed stp run : Byte} {start : BitVec 32}

/-- The announcement that a well-formed frame with the intent carries. -/
def announcementOf (tag packed stp : Byte) (start : BitVec 32) (run : Byte) (intent : Intent) : Announcement :=
  { tag := tag, stream := (packed.extractLsb' 6 2).toFin, layer := (packed.extractLsb' 4 2).toFin, intent := intent,
    step := (stp.extractLsb' 0 5).toInt, start := start.toNat, run := run.toNat }

theorem announcementOf_run_eq_zero_iff {intent : Intent} :
    (announcementOf tag packed stp start run intent).run = 0 ↔ run = 0#8 := by
  simp [announcementOf, BitVec.toNat_eq]

theorem decodeAnnounce_malformed (h : packed.extractLsb' 2 2 = 3#2 ∨ 1073741823 < start.toNat) :
    decodeAnnounce tag packed stp start run = none := by
  unfold decodeAnnounce
  rcases h with code | beyond
  · rw [decodeIntent_eq_none_iff.2 code]
  · rw [decodeBlock_eq_none_iff.2 beyond]
    cases decodeIntent (packed.extractLsb' 2 2) <;> rfl

theorem decodeAnnounce_wellFormed {intent : Intent} (code : decodeIntent (packed.extractLsb' 2 2) = some intent)
    (within : start.toNat ≤ 1073741823) :
    decodeAnnounce tag packed stp start run = some (announcementOf tag packed stp start run intent) := by
  simp only [decodeAnnounce, code, decodeBlock_eq_some within]
  rfl

/-! ### The row (R57, R58) -/

variable {s : State}

theorem exec_announce_malformed (running : s.inReset = false) (fresh : s.link.staleFrame = false)
    (h : decodeAnnounce tag packed stp start run = none) :
    exec (.announce tag packed stp start run) s = .next (s.raise .linkerr) := by
  simp [exec, execAnnounce, State.whenRunning, running, State.endFrame, fresh, h, State.malformed]

theorem exec_announce_wellFormed (running : s.inReset = false) (fresh : s.link.staleFrame = false) {a : Announcement}
    (h : decodeAnnounce tag packed stp start run = some a) :
    exec (.announce tag packed stp start run) s = .next (s.enroll a) := by
  simp [exec, execAnnounce, State.whenRunning, running, State.endFrame, fresh, h, State.take]

end

/-! ### Admission: the first check that refuses (R62) -/

section
variable {s : State} {a : Announcement}

theorem emits_iff {l : LaserState} : l.emits = true ↔ l = .idle ∨ l = .reading ∨ l = .writing := by
  cases l <;> simp [LaserState.emits]

theorem any_tag_iff {q : List Entry} {tag : Byte} : (q.any fun e => e.tag == tag) = true ↔ ∃ e ∈ q, e.tag = tag := by
  simp

theorem admission_queueFull (full : 8 ≤ s.queue.length) : s.admission a = some .queueFull := if_pos full

section
variable (room : s.queue.length < 8)
include room

theorem admission_duplicateTag (duplicate : ∃ e ∈ s.queue, e.tag = a.tag) : s.admission a = some .duplicateTag := by
  rw [State.admission, if_neg (Nat.not_le.2 room), if_pos (any_tag_iff.2 duplicate)]

variable (unique : ¬ ∃ e ∈ s.queue, e.tag = a.tag)
include unique

theorem admission_laserOff (dark : ¬ (s.laser.state = .idle ∨ s.laser.state = .reading ∨ s.laser.state = .writing)) :
    s.admission a = some .laserOff := by
  rw [State.admission, if_neg (Nat.not_le.2 room), if_neg (mt any_tag_iff.1 unique), if_pos (mt emits_iff.1 dark)]

variable (lit : s.laser.state = .idle ∨ s.laser.state = .reading ∨ s.laser.state = .writing)
include lit

theorem admission_badRun (empty : a.run = 0) : s.admission a = some .badRun := by
  rw [State.admission, if_neg (Nat.not_le.2 room), if_neg (mt any_tag_iff.1 unique), if_neg (not_not.2 (emits_iff.2 lit)),
    if_pos empty]

theorem admission_passes (nonempty : a.run ≠ 0) : s.admission a = none := by
  rw [State.admission, if_neg (Nat.not_le.2 room), if_neg (mt any_tag_iff.1 unique), if_neg (not_not.2 (emits_iff.2 lit)),
    if_neg nonempty]

end

theorem enroll_of_refused {reason : RefuseReason} (h : s.admission a = some reason) :
    s.enroll a = s.produceRefuse a.tag reason := by
  rw [State.enroll, h]

theorem enroll_of_admitted (h : s.admission a = none) :
    s.enroll a = (s.withQueue (s.queue ++ [announcedEntry a])).queueChanged := by
  rw [State.enroll, h]

/-- A refused announcement changes nothing but what its REFUSE does. -/
theorem enroll_refused_told {reason : RefuseReason} (h : s.admission a = some reason) :
    s.enroll a = (s.withLink (s.enroll a).link).withAlert (s.enroll a).alert ∧
      Told [.refuse a.tag reason] .refuse s (s.enroll a) := by
  rw [enroll_of_refused h]
  exact ⟨produceRefuse_eq .., produceRefuse_told ..⟩

/-- An admitted announcement is a Waiting entry at the tail, with no reply. -/
theorem enroll_admitted (h : s.admission a = none) :
    (s.enroll a).queue = s.queue ++ [announcedEntry a] ∧ (s.enroll a).link = s.link ∧ (s.enroll a).alert = s.alert ∧
      (s.enroll a).zones = s.zones ∧ (s.enroll a).gate = s.gate ∧ TriggerFrame [] [] s (s.enroll a) := by
  rw [enroll_of_admitted h]
  have frame := triggerFrame_of_queue_grows s (List.subset_append_left s.queue [announcedEntry a])
  simpa using frame

end

end Sys2Proof.AnnounceQueue

/-!
PROOFS. The statement settled: O40.
-/

namespace Sys2Proof.Settled

open Sys2Proof Sys2Proof.Machine Sys2Proof.Laws Sys2Proof.AnnounceQueue

/-- Settles O40: the frame decodes to an announcement or to none, and the admission's first failing check decides. -/
theorem announceAdmitted : Obligations.AnnounceAdmitted := by
  unfold Obligations.AnnounceAdmitted
  intro s tag packed stp run start running fresh refused duplicate admits
  refine ⟨fun bad => exec_announce_malformed running fresh (decodeAnnounce_malformed bad), fun intent code within => ?_⟩
  have taken := exec_announce_wellFormed running fresh
    (decodeAnnounce_wellFormed (tag := tag) (stp := stp) (run := run) (decodeIntent_eq_some_iff.2 code) within)
  have refuses : ∀ reason, s.admission (announcementOf tag packed stp start run intent) = some reason → refused reason :=
    fun reason h => ⟨_, taken, enroll_refused_told h⟩
  refine ⟨fun full => ?_, fun room same => ?_, fun room unique dark => ?_, fun room unique lit empty => ?_,
    fun room unique lit nonempty => ?_⟩
  · exact refuses _ (admission_queueFull full)
  · exact refuses _ (admission_duplicateTag room same)
  · exact refuses _ (admission_laserOff room unique dark)
  · exact refuses _ (admission_badRun room unique lit (announcementOf_run_eq_zero_iff.2 empty))
  · exact ⟨_, taken, enroll_admitted (admission_passes room unique lit (mt announcementOf_run_eq_zero_iff.1 nonempty))⟩

end Sys2Proof.Settled

/-!
PROOFS. The one revocation rule (R70 to R74, R79, R94), in the terms of the statements: what it leaves of the queue, of the block in
service and of the descriptors, and its frame.
-/

namespace Sys2Proof.Laws

open Sys2Proof Sys2Proof.Machine

/-! ### Pins drop and Retiring slots are freed (R6, R21, R49) -/

/-- From s to t translations of some slots have been removed: pins drop, a Retiring slot left with none becomes Free with its
strategy's count falling, and FREED is set exactly with a slot so freed. -/
structure PinsDropped (s t : State) : Prop where
  zones : ∀ j, (t.zone j).pins ≤ (s.zone j).pins ∧
    (t.zone j = { s.zone j with pins := (t.zone j).pins } ∨ (s.zone j).state = .retiring ∧ t.zone j = Zone.freeContent)
  strategies : ∀ k, t.strategy k = { s.strategy k with refs := (t.strategy k).refs } ∧
    (t.strategy k).refs ≤ (s.strategy k).refs
  alert : AlertRaised
    (fun f => decide (f = .freed) &&
      zoneSlots.any fun j => decide ((s.zone j).state = .retiring ∧ (t.zone j).state = .free)) s.alert t.alert

/-- Some Retiring slot of s is Free in t (R21). -/
theorem anyFreed_iff {s t : State} :
    (zoneSlots.any fun j => decide ((s.zone j).state = .retiring ∧ (t.zone j).state = .free)) = true ↔
      ∃ j, (s.zone j).state = .retiring ∧ (t.zone j).state = .free := by
  simp [zoneSlots]

section
variable {s t u : State}

theorem PinsDropped.refl (s : State) : PinsDropped s s where
  zones _ := ⟨le_rfl, .inl rfl⟩
  strategies _ := ⟨rfl, le_rfl⟩
  alert := alertRaised_congr (alertRaised_refl _) (by simp +contextual [zoneSlots])

/-- A slot keeps its state, or goes from Retiring to Free. -/
theorem PinsDropped.state (h : PinsDropped s t) (j : ZoneSlot) :
    (t.zone j).state = (s.zone j).state ∨ (s.zone j).state = .retiring ∧ (t.zone j).state = .free := by
  rcases (h.zones j).2 with kept | ⟨retiring, freed⟩
  · exact .inl (by rw [kept])
  · exact .inr ⟨retiring, by rw [freed]; rfl⟩

theorem PinsDropped.trans (h₁ : PinsDropped s t) (h₂ : PinsDropped t u) : PinsDropped s u where
  zones j := by
    obtain ⟨le₁, cases₁⟩ := h₁.zones j
    obtain ⟨le₂, cases₂⟩ := h₂.zones j
    refine ⟨le₂.trans le₁, ?_⟩
    rcases cases₁ with kept₁ | ⟨retiring, freed₁⟩
    · rcases cases₂ with kept₂ | ⟨retiring, freed₂⟩
      · exact .inl (by rw [kept₂, kept₁])
      · exact .inr ⟨by rw [kept₁] at retiring; exact retiring, freed₂⟩
    · rcases cases₂ with kept₂ | ⟨-, freed₂⟩
      · have noPins : (u.zone j).pins = 0 := by simpa [freed₁, Zone.freeContent] using le₂
        exact .inr ⟨retiring, by rw [kept₂, noPins, freed₁]; rfl⟩
      · exact .inr ⟨retiring, freed₂⟩
  strategies k := by
    obtain ⟨kept₁, le₁⟩ := h₁.strategies k
    obtain ⟨kept₂, le₂⟩ := h₂.strategies k
    exact ⟨by rw [kept₂, kept₁], le₂.trans le₁⟩
  alert := by
    refine alertRaised_congr (alertRaised_trans h₁.alert h₂.alert) fun f => ?_
    rw [← Bool.and_or_distrib_left]
    congr 1
    rw [Bool.eq_iff_iff, Bool.or_eq_true, anyFreed_iff, anyFreed_iff, anyFreed_iff, ← exists_or]
    refine exists_congr fun j => ?_
    have s₁ := h₁.state j
    have s₂ := h₂.state j
    constructor
    · rintro (⟨retiring, free⟩ | ⟨retiring, free⟩)
      · exact ⟨retiring, by simpa [free] using s₂⟩
      · exact ⟨s₁.elim (fun same => same.symm.trans retiring) And.left, free⟩
    · rintro ⟨retiring, free⟩
      rcases s₁ with same | ⟨-, freed⟩
      · exact .inr ⟨same.trans retiring, free⟩
      · exact .inl ⟨retiring, freed⟩

end

section
variable (s : State) (i : ZoneSlot)

theorem dropRef_zone (k : Option StrategySlot) (j : ZoneSlot) : (s.dropRef k).zone j = s.zone j := by
  simp [State.zone]

theorem dropRef_strategy (named : Option StrategySlot) (k : StrategySlot) :
    (s.dropRef named).strategy k = { s.strategy k with refs := ((s.dropRef named).strategy k).refs } ∧
      ((s.dropRef named).strategy k).refs ≤ (s.strategy k).refs := by
  cases named with
  | none => exact ⟨rfl, le_rfl⟩
  | some i =>
    simp only [State.dropRef, setStrategy_strategy]
    split
    · next h => simp [h]
    · simp

theorem unpin_of_freed (h : (s.zone i).state = .retiring ∧ (s.zone i).pins ≤ 1) :
    s.unpin i = (s.freeZone i).raise .freed := if_pos h

theorem unpin_of_kept (h : ¬ ((s.zone i).state = .retiring ∧ (s.zone i).pins ≤ 1)) :
    s.unpin i = s.setZone i { s.zone i with pins := (s.zone i).pins - 1 } := if_neg h

theorem freeZone_zone (j : ZoneSlot) : (s.freeZone i).zone j = if i = j then Zone.freeContent else s.zone j := by
  rw [State.freeZone, setZone_zone, dropRef_zone]

theorem freeZone_pinsDropped (h : (s.zone i).state = .retiring) : PinsDropped s ((s.freeZone i).raise .freed) where
  zones j := by
    rw [show ((s.freeZone i).raise .freed).zone j = (s.freeZone i).zone j by simp [State.zone], freeZone_zone]
    split
    · next hj => exact ⟨Nat.zero_le _, .inr ⟨hj ▸ h, rfl⟩⟩
    · exact ⟨le_rfl, .inl rfl⟩
  strategies k := by
    have same : ((s.freeZone i).raise .freed).strategy k = (s.dropRef (s.zone i).strategy).strategy k := by
      simp [State.strategy, State.freeZone]
    rw [same]
    exact dropRef_strategy ..
  alert := by
    have raised := alertRaised_raise s.alert .freed
    rw [show ((s.freeZone i).raise .freed).alert = s.alert.raise .freed by simp [State.raise]]
    have freed : ∃ j, (s.zone j).state = .retiring ∧ (((s.freeZone i).raise .freed).zone j).state = .free :=
      ⟨i, h, by simp [State.zone, State.freeZone, State.setZone, Zone.freeContent]⟩
    exact alertRaised_congr raised fun f => by rw [anyFreed_iff.2 freed, Bool.and_true]

theorem setPins_pinsDropped : PinsDropped s (s.setZone i { s.zone i with pins := (s.zone i).pins - 1 }) := by
  have kept : ∀ j, ((s.setZone i { s.zone i with pins := (s.zone i).pins - 1 }).zone j).state = (s.zone j).state := by
    intro j
    rw [setZone_zone]
    split
    · next hj => rw [hj]
    · rfl
  refine ⟨fun j => ?_, fun k => by simp, ?_⟩
  · rw [setZone_zone]
    split
    · next hj => subst hj; exact ⟨Nat.sub_le .., .inl rfl⟩
    · exact ⟨le_rfl, .inl rfl⟩
  · rw [setZone_alert]
    refine alertRaised_congr (alertRaised_refl _) fun f => ?_
    simp +contextual [kept]

theorem unpin_pinsDropped : PinsDropped s (s.unpin i) := by
  by_cases h : (s.zone i).state = .retiring ∧ (s.zone i).pins ≤ 1
  · rw [unpin_of_freed s i h]
    exact freeZone_pinsDropped s i h.1
  · rw [unpin_of_kept s i h]
    exact setPins_pinsDropped s i

theorem unpinAll_pinsDropped (is : List ZoneSlot) : PinsDropped s (s.unpinAll is) := by
  unfold State.unpinAll
  induction is generalizing s with
  | nil => exact .refl s
  | cons i is ih => exact (unpin_pinsDropped s i).trans (ih _)

end

/-! ### Entries leaving (R6, R79) -/

theorem removeEntries_pinsDropped (s : State) (p : Entry → Bool) : PinsDropped s (s.removeEntries p) := by
  have dropped := unpinAll_pinsDropped s ((s.queue.filter p).flatMap Entry.slots)
  simp only [State.removeEntries]
  (repeat' split) <;> exact ⟨dropped.zones, dropped.strategies, dropped.alert⟩

theorem gate_with_record {g : Gate} {r : Option BlockRecord} (h : r = g.record) : { g with record := r } = g := by rw [h]

theorem withGate_eq_self {s : State} {g : Gate} (h : g = s.gate) : s.withGate g = s := by rw [h, withGate_self]

/-- The block in service loses its entry with the entry that leaves, and keeps the rest of its record (R79). -/
theorem removeEntries_gate (s : State) (p : Entry → Bool) : (s.removeEntries p).gate = { s.gate with
    record := s.gate.record.map fun r => { r with hasEntry := r.hasEntry && !(s.queue.any fun e => p e && r.isOf e) } } := by
  unfold State.removeEntries
  split
  · next r hr =>
    simp only [List.any_filter, hr, Option.map_some]
    split
    · next gone => simp [gone]
    · next stays => simp [Bool.eq_false_iff.2 stays, gate_with_record hr.symm]
  · next hr => simp [hr, gate_with_record hr.symm]

/-! ### A cut entry (R71) -/

/-- What the trigger leaves of the entry's run, the entry itself where it is not revoked. -/
def cutEntry (cut : Entry → Option Nat) (e : Entry) : Entry := (e.revoked (cut e)).getD e

/-- The trigger revokes the entry and leaves it no run. -/
def emptied (cut : Entry → Option Nat) (e : Entry) : Bool :=
  (e.revoked (cut e)).any fun h => decide (h.remaining = 0)

/-- The entry is Current with a block in service: with no run left it stays until the gate fall (R94). -/
def awaited (s : State) (e : Entry) : Bool := decide (e.state = .current) && s.inService e

/-- The REVOKEs of the trigger, in queue order (R71). -/
def revokesOf (s : State) (reason : RevokeReason) (cut : Entry → Option Nat) : List Reply :=
  (s.queue.filter fun e => (e.revoked (cut e)).isSome).map fun e => .revoke e.tag (cutEntry cut e).remaining reason

section
variable {cut : Entry → Option Nat} {s : State} {e : Entry}

theorem cutEntry_of_some {h : Entry} (hr : e.revoked (cut e) = some h) : cutEntry cut e = h := by simp [cutEntry, hr]

theorem cutEntry_of_none (hr : e.revoked (cut e) = none) : cutEntry cut e = e := by simp [cutEntry, hr]

theorem emptied_of_none (hr : e.revoked (cut e) = none) : emptied cut e = false := by simp [emptied, hr]

theorem emptied_of_some {h : Entry} (hr : e.revoked (cut e) = some h) : emptied cut e = decide (h.remaining = 0) := by
  simp [emptied, hr]

/-- A cut changes the entry's accepted run and nothing else of it (R71). -/
theorem cutEntry_eq (cut : Entry → Option Nat) (e : Entry) :
    cutEntry cut e = { e with accepted := (cutEntry cut e).accepted } := by
  unfold cutEntry Entry.revoked
  cases cut e with
  | none => rfl
  | some c =>
    dsimp only
    split_ifs <;> rfl

@[simp] theorem cutEntry_tag : (cutEntry cut e).tag = e.tag := by rw [cutEntry_eq]
@[simp] theorem cutEntry_state : (cutEntry cut e).state = e.state := by rw [cutEntry_eq]
@[simp] theorem cutEntry_next : (cutEntry cut e).next = e.next := by rw [cutEntry_eq]

@[simp] theorem isOf_cutEntry (r : BlockRecord) : r.isOf (cutEntry cut e) = r.isOf e := by simp [BlockRecord.isOf]
@[simp] theorem inService_cutEntry : s.inService (cutEntry cut e) = s.inService e := by simp [State.inService]
@[simp] theorem awaited_cutEntry : awaited s (cutEntry cut e) = awaited s e := by simp [awaited]

theorem inService_of_record {r : BlockRecord} (hr : s.gate.record = some r) (e : Entry) : s.inService e = r.isOf e := by
  simp [State.inService, hr]

theorem revoked_translated (c : Nat) (h : e.state ≠ .waiting) :
    e.revoked (some c) = if c < e.stop then some { e with accepted := c - e.start } else none := by
  simp [Entry.revoked, h]

/-- A translated entry cut before block `c` of its remaining run keeps the blocks before `c` (R71). -/
theorem cutEntry_translated {c : Nat} (h : e.state ≠ .waiting) (hc : cut e = some c) (inside : c < e.stop) :
    e.revoked (cut e) = some { e with accepted := c - e.start } := by
  rw [hc, revoked_translated c h, if_pos inside]

end

/-! ### The lists of the trigger -/

section
variable {cut : Entry → Option Nat} {s : State} {reason : RevokeReason}

theorem revoked_filterMap (cut : Entry → Option Nat) (q : List Entry) :
    (q.filterMap fun e => e.revoked (cut e)) = (q.filter fun e => (e.revoked (cut e)).isSome).map (cutEntry cut) := by
  induction q with
  | nil => rfl
  | cons e q ih =>
    cases h : e.revoked (cut e) with
    | none => simp [h, ih]
    | some f => simp [h, ih, cutEntry_of_some h]

/-- The entries left with no run, among the revoked ones. -/
theorem emptied_filter (cut : Entry → Option Nat) (q : List Entry) :
    ((q.filterMap fun e => e.revoked (cut e)).filter fun e => decide (e.remaining = 0)) =
      (q.filter (emptied cut)).map (cutEntry cut) := by
  induction q with
  | nil => rfl
  | cons e q ih =>
    cases h : e.revoked (cut e) with
    | none => simp [h, ih, emptied_of_none h]
    | some f =>
      by_cases hf : f.remaining = 0 <;> simp [h, ih, hf, emptied_of_some h, cutEntry_of_some h]

/-- Those of them that wait for the gate fall. -/
theorem awaited_filter (s : State) (cut : Entry → Option Nat) (q : List Entry) :
    (((q.filter (emptied cut)).map (cutEntry cut)).filter fun e => decide (e.state = .current) && s.inService e) =
      (q.filter fun e => emptied cut e && awaited s e).map (cutEntry cut) := by
  rw [List.filter_map, List.filter_filter]
  congr 1
  exact List.filter_congr fun e _ => (Bool.and_comm ..).trans (by rw [← awaited_cutEntry (cut := cut)]; rfl)

/-- In a list of entries with distinct tags, an entry is found by its tag. -/
theorem eq_of_tag {q : List Entry} (tags : (q.map Entry.tag).Nodup) {e f : Entry} (he : e ∈ q) (hf : f ∈ q)
    (h : e.tag = f.tag) : e = f := List.inj_on_of_nodup_map tags he hf h

theorem any_and_tag {q : List Entry} (tags : (q.map Entry.tag).Nodup) {e : Entry} (he : e ∈ q) (p : Entry → Bool) :
    (q.any fun f => p f && f.tag == e.tag) = p e := by
  rw [Bool.eq_iff_iff, List.any_eq_true]
  constructor
  · rintro ⟨f, hf, h⟩
    obtain ⟨holds, tag⟩ : p f = true ∧ f.tag = e.tag := by simpa using h
    rwa [← eq_of_tag tags hf he tag]
  · exact fun holds => ⟨e, he, by simp [holds]⟩

/-- The state of a trigger in which the runs have been cut and no entry has left yet. -/
def cutState (s : State) (reason : RevokeReason) (cut : Entry → Option Nat) : State :=
  ((s.produceRevokes (revokesOf s reason cut)).withQueue (s.queue.map (cutEntry cut))).withGate { s.gate with
    record := s.gate.record.map fun r =>
      { r with ended := r.ended || s.queue.any fun e => (emptied cut e && awaited s e) && r.isOf e } }

/-- The trigger, in terms of the entries as they were. -/
theorem revoke_eq (s : State) (reason : RevokeReason) (cut : Entry → Option Nat) :
    s.revoke reason cut = (cutState s reason cut).removeEntries fun e =>
      (s.queue.any fun f => emptied cut f && f.tag == e.tag) &&
        !(s.queue.any fun f => (emptied cut f && awaited s f) && f.tag == e.tag) := by
  have replies : ((s.queue.filterMap fun e => e.revoked (cut e)).map fun e => Reply.revoke e.tag e.remaining reason) =
      revokesOf s reason cut := by
    rw [revoked_filterMap, List.map_map]
    exact List.map_congr_left fun e _ => by simp
  unfold State.revoke
  dsimp only
  rw [emptied_filter, awaited_filter, replies]
  simp only [List.any_map, List.any_filter, Function.comp_def, isOf_cutEntry, cutEntry_tag]
  congr 1
  unfold cutState
  split
  · next r hr =>
    split
    · next held =>
      simp only [hr, Option.map_some, held, Bool.or_true]
      rfl
    · next free =>
      rw [withGate_eq_self]
      · rfl
      · simp [hr, Bool.eq_false_iff.2 free, gate_with_record hr.symm]
  · next hr =>
    rw [withGate_eq_self]
    · rfl
    · simp [hr, gate_with_record hr.symm]

theorem any_congr_mem {q : List Entry} {p p' : Entry → Bool} (h : ∀ e ∈ q, p e = p' e) : q.any p = q.any p' := by
  rw [Bool.eq_iff_iff, List.any_eq_true, List.any_eq_true]
  exact exists_congr fun e => and_congr_right fun he => by rw [h e he]

/-- The entry leaves at the trigger: no run is left of it, and no block of it is in service (R72, R73). -/
def departs (s : State) (cut : Entry → Option Nat) (e : Entry) : Bool := emptied cut e && !awaited s e

section
variable (tags : (s.queue.map Entry.tag).Nodup)
include tags

/-- The entries that stay, in their order, each as its cut leaves it. -/
theorem revoke_queue :
    (s.revoke reason cut).queue = (s.queue.filter fun e => !departs s cut e).map (cutEntry cut) := by
  rw [revoke_eq, removeEntries_queue, show (cutState s reason cut).queue = s.queue.map (cutEntry cut) from rfl,
    List.filter_map]
  congr 1
  refine List.filter_congr fun e he => ?_
  simp only [Function.comp_apply, cutEntry_tag, any_and_tag tags he, departs]
  cases emptied cut e <;> simp

theorem mem_revoke_queue {f : Entry} :
    f ∈ (s.revoke reason cut).queue ↔ ∃ e ∈ s.queue, departs s cut e = false ∧ cutEntry cut e = f := by
  simp [revoke_queue tags, and_assoc]

theorem cutEntry_mem_revoke_queue {e : Entry} (he : e ∈ s.queue) :
    cutEntry cut e ∈ (s.revoke reason cut).queue ↔ departs s cut e = false := by
  rw [mem_revoke_queue tags]
  constructor
  · rintro ⟨f, hf, stays, same⟩
    rwa [← eq_of_tag tags hf he (by rw [← cutEntry_tag (cut := cut), same, cutEntry_tag])]
  · exact fun stays => ⟨e, he, stays, rfl⟩

/-- What is found of an entry after the trigger. -/
theorem eq_cutEntry_of_mem {e f : Entry} (he : e ∈ s.queue) (hf : f ∈ (s.revoke reason cut).queue) (h : f.tag = e.tag) :
    departs s cut e = false ∧ f = cutEntry cut e := by
  obtain ⟨e', he', stays, rfl⟩ := (mem_revoke_queue tags).1 hf
  obtain rfl : e' = e := eq_of_tag tags he' he (by rw [← h, cutEntry_tag])
  exact ⟨stays, rfl⟩

theorem any_tag_revoke_queue {e : Entry} (he : e ∈ s.queue) (p : Entry → Bool) :
    ((s.revoke reason cut).queue.any fun f => f.tag == e.tag && p f) = (!departs s cut e && p (cutEntry cut e)) := by
  rw [Bool.eq_iff_iff, List.any_eq_true]
  constructor
  · rintro ⟨f, hf, h⟩
    obtain ⟨tag, holds⟩ : f.tag = e.tag ∧ p f = true := by simpa using h
    obtain ⟨stays, rfl⟩ := eq_cutEntry_of_mem tags he hf tag
    simp [stays, holds]
  · intro h
    obtain ⟨stays, holds⟩ : departs s cut e = false ∧ p (cutEntry cut e) = true := by simpa using h
    exact ⟨_, (cutEntry_mem_revoke_queue tags he).2 stays, by simp [holds]⟩

theorem contains_revoke_queue {e : Entry} (he : e ∈ s.queue) :
    (s.revoke reason cut).queue.contains e = (!departs s cut e && decide (cutEntry cut e = e)) := by
  rw [Bool.eq_iff_iff, List.contains_iff_mem]
  constructor
  · intro h
    obtain ⟨stays, same⟩ := eq_cutEntry_of_mem tags he h rfl
    simp [stays, ← same]
  · intro h
    obtain ⟨stays, same⟩ : departs s cut e = false ∧ cutEntry cut e = e := by simpa using h
    exact same ▸ (cutEntry_mem_revoke_queue tags he).2 stays

/-- The block in service loses its entry with the entry that leaves, and takes the ended mark with the one that stays for its
fall (R79, R94). -/
theorem revoke_gate : (s.revoke reason cut).gate = { s.gate with record := s.gate.record.map fun r => { r with
    hasEntry := r.hasEntry && !(s.queue.any fun e => departs s cut e && r.isOf e)
    ended := r.ended || s.queue.any fun e => (emptied cut e && awaited s e) && r.isOf e } } := by
  rw [revoke_eq, removeEntries_gate, show (cutState s reason cut).queue = s.queue.map (cutEntry cut) from rfl]
  have gone : ∀ r : BlockRecord, ((s.queue.map (cutEntry cut)).any fun e =>
      ((s.queue.any fun f => emptied cut f && f.tag == e.tag) &&
        !(s.queue.any fun f => (emptied cut f && awaited s f) && f.tag == e.tag)) && r.isOf e) =
      s.queue.any fun e => departs s cut e && r.isOf e := fun r => by
    rw [List.any_map]
    refine any_congr_mem fun e he => ?_
    simp only [Function.comp_apply, cutEntry_tag, isOf_cutEntry, any_and_tag tags he, departs]
    cases emptied cut e <;> simp
  simp only [gone, cutState, withGate_gate, Option.map_map]
  rfl

end

end

/-! ### Cuts ahead of the next block (R70) -/

/-- The trigger cuts no entry of the queue before its next block. -/
def CutsAhead (s : State) (cut : Entry → Option Nat) : Prop := ∀ e ∈ s.queue, ∀ c, cut e = some c → e.next ≤ c

theorem remaining_eq_zero_iff {e : Entry} : e.remaining = 0 ↔ e.stop ≤ e.next := Nat.sub_eq_zero_iff_le

section
variable {cut : Entry → Option Nat} {s : State} {reason : RevokeReason} {e : Entry}

theorem cutEntry_stop {c : Nat} (translated : e.state ≠ .waiting) (hc : cut e = some c) (inside : c < e.stop)
    (started : e.start ≤ c) : (cutEntry cut e).stop = c := by
  rw [cutEntry_of_some (cutEntry_translated translated hc inside)]
  exact Nat.add_sub_cancel' started

/-- A translated entry is left with no run when it is cut before its next block, which still lay in its run (R72). -/
theorem emptied_iff_of_translated (translated : e.state ≠ .waiting) (run : e.start ≤ e.next)
    (ahead : ∀ c, cut e = some c → e.next ≤ c) : emptied cut e = true ↔ e.next < e.stop ∧ cut e = some e.next := by
  cases hc : cut e with
  | none => simp [emptied, Entry.revoked, hc]
  | some c =>
    have le := ahead c hc
    by_cases inside : c < e.stop
    · rw [emptied_of_some (cutEntry_translated translated hc inside), decide_eq_true_iff, remaining_eq_zero_iff,
        Option.some.injEq]
      simp only [Entry.stop] at inside ⊢
      omega
    · rw [emptied_of_none (by rw [hc, revoked_translated c translated, if_neg inside]), Option.some.injEq]
      simp only [Bool.false_eq_true, false_iff, not_and]
      omega

/-- The ended mark's condition, in the terms of the record after the trigger: the entry had blocks left and has none now (R94). -/
theorem emptied_iff_run_gone (translated : e.state ≠ .waiting) (run : e.start ≤ e.next)
    (ahead : ∀ c, cut e = some c → e.next ≤ c) :
    emptied cut e = true ↔ e.next < e.stop ∧ cutEntry cut e ≠ e ∧ (cutEntry cut e).stop ≤ e.next := by
  constructor
  · intro h
    obtain ⟨inside, hc⟩ := (emptied_iff_of_translated translated run ahead).1 h
    have stop := cutEntry_stop translated hc inside run
    exact ⟨inside, fun same => by rw [same] at stop; omega, stop.le⟩
  · rintro ⟨-, changed, gone⟩
    cases hr : e.revoked (cut e) with
    | none => exact absurd (cutEntry_of_none hr) changed
    | some f =>
      rw [cutEntry_of_some hr] at gone
      have next : f.next = e.next := by rw [← cutEntry_of_some hr, cutEntry_next]
      rw [emptied_of_some hr, decide_eq_true_iff, remaining_eq_zero_iff, next]
      exact gone

theorem ended_iff_awaited (tags : (s.queue.map Entry.tag).Nodup) (run : e.start ≤ e.next)
    (ahead : ∀ c, cut e = some c → e.next ≤ c) (he : e ∈ s.queue) {r : BlockRecord} (hr : s.gate.record = some r) :
    (r.isOf e && decide (e.state = .current ∧ e.next < e.stop) && !(s.revoke reason cut).queue.contains e &&
      (s.revoke reason cut).queue.any fun f => f.tag == e.tag && decide (f.stop ≤ f.next)) =
      ((emptied cut e && awaited s e) && r.isOf e) := by
  rw [contains_revoke_queue tags he, any_tag_revoke_queue tags he]
  simp only [departs, awaited, inService_of_record hr, cutEntry_next]
  by_cases current : e.state = .current
  · have gone := emptied_iff_run_gone (by rw [current]; decide) run ahead
    cases r.isOf e
    · simp
    · rw [Bool.eq_iff_iff]
      simpa [current, and_assoc] using gone.symm
  · simp [current]

/-- The block in service follows its entry (R79, R94). -/
theorem revoke_gate_after (ordered : s.QueueOrdered) (ahead : CutsAhead s cut) :
    (s.revoke reason cut).gate = { s.gate with
      record := s.gate.record.map fun r => r.after s (s.revoke reason cut) } := by
  rw [revoke_gate ordered.tags]
  refine congrArg (fun record => { s.gate with record := record }) (Option.map_congr fun r hr => ?_)
  have gone : ∀ e ∈ s.queue, (r.isOf e && !((s.revoke reason cut).queue.any fun f => f.tag == e.tag)) =
      (departs s cut e && r.isOf e) := fun e he => by
    have found := any_tag_revoke_queue (reason := reason) (cut := cut) ordered.tags he fun _ => true
    simp only [Bool.and_true] at found
    rw [found, Bool.not_not, Bool.and_comm]
  have ends : ∀ e ∈ s.queue, _ := fun e he =>
    ended_iff_awaited (reason := reason) ordered.tags (ordered.runs e he) (ahead e he) he hr
  unfold BlockRecord.after
  rw [any_congr_mem gone, any_congr_mem ends]

/-! ### The frame of the trigger -/

theorem revokesOf_any_isRevoke : (revokesOf s reason cut).any Reply.isRevoke = !(revokesOf s reason cut).isEmpty := by
  unfold revokesOf
  cases s.queue.filter fun e => (e.revoked (cut e)).isSome <;> simp [Reply.isRevoke]

/-- Pins drop, by the entries that leave. -/
theorem revoke_pinsDropped : PinsDropped (cutState s reason cut) (s.revoke reason cut) := by
  rw [revoke_eq]
  exact removeEntries_pinsDropped ..

theorem revoke_stored : Stored (revokesOf s reason cut) s (s.revoke reason cut) := by
  have link : (s.revoke reason cut).link = (s.produceRevokes (revokesOf s reason cut)).link := by
    rw [revoke_eq, removeEntries_link]
    rfl
  unfold Stored
  rw [link]
  exact (produceRevokes_told s _).1

theorem cutState_zone (j : ZoneSlot) : (cutState s reason cut).zone j = s.zone j := by simp [cutState, State.zone]

theorem cutState_strategy (k : StrategySlot) : (cutState s reason cut).strategy k = s.strategy k := by
  simp [cutState, State.strategy]

/-- A trigger of revocation that acts on no slot, with all that follows the change of the queue (R63, R31, R118). -/
theorem revoke_triggerFrame (ordered : s.QueueOrdered) (ahead : CutsAhead s cut) :
    TriggerFrame [] (revokesOf s reason cut) s (s.revoke reason cut).queueChanged := by
  have dropped : PinsDropped (cutState s reason cut) (s.revoke reason cut) := revoke_pinsDropped
  have zone : ∀ j, (s.revoke reason cut).queueChanged.zone j = (s.revoke reason cut).zone j := by simp [State.zone]
  refine {
    zones := fun j _ => by simpa only [zone, cutState_zone] using dropped.zones j
    strategies := fun k => ?_
    levels := by simpa using queueChanged_levels_frame (s.revoke reason cut)
    target := fun _ => queueChanged_targetFollowed (by simp)
    translator := by simp
    pickup := queueChanged_moveFollowed (by simp)
    gate := ?_
    replies := ?_
    alert := ?_
    others := by simp }
  · have same : (s.revoke reason cut).queueChanged.strategy k = (s.revoke reason cut).strategy k := by simp [State.strategy]
    simpa only [same, cutState_strategy] using dropped.strategies k
  · have after : ∀ r : BlockRecord, r.after s (s.revoke reason cut).queueChanged = r.after s (s.revoke reason cut) := by
      simp [BlockRecord.after]
    simp only [after, queueChanged_gate]
    exact revoke_gate_after ordered ahead
  · unfold Stored
    rw [queueChanged_link]
    exact revoke_stored
  · rw [queueChanged_alert]
    have told := (produceRevokes_told s (revokesOf s reason cut)).2
    refine alertRaised_congr (alertRaised_trans told dropped.alert) fun f => ?_
    simp only [zone, cutState_zone, revokesOf_any_isRevoke, List.contains_nil, Bool.not_false, Bool.true_and]
    rw [Bool.or_assoc, Bool.or_comm]

end

/-! ### What a trigger does to one entry, in the terms of the statements -/

section
variable {cut : Entry → Option Nat} {s t : State} {reason : RevokeReason} {told : List Reply} {e f : Entry}

/-- The block in service is of one entry at most (R73). -/
theorem eq_of_isOf {r : BlockRecord} (tags : (s.queue.map Entry.tag).Nodup) (he : e ∈ s.queue) (hf : f ∈ s.queue)
    (ofE : r.isOf e = true) (ofF : r.isOf f = true) : e = f := by
  simp only [BlockRecord.isOf, Bool.and_eq_true, beq_iff_eq] at ofE ofF
  exact eq_of_tag tags he hf (ofE.2.symm.trans ofF.2)

/-- A trigger whose only replies are `told` sets REVOKE exactly with a REVOKE. -/
theorem triggerFrame_revoke_request {named : List ZoneSlot} (h : TriggerFrame named told s t) :
    t.alert.isSet .revoke = (s.alert.isSet .revoke || told.any Reply.isRevoke) := by
  rw [h.alert.flags]
  simp

/-- An entry that stays with no run waits for its fall (R94). -/
theorem revoke_awaitsFall (tags : (s.queue.map Entry.tag).Nodup) (he : e ∈ s.queue) (empty : emptied cut e = true)
    (current : e.state = .current) (serves : s.inService e = true) :
    cutEntry cut e ∈ (s.revoke reason cut).queue ∧ (s.revoke reason cut).awaitsFall (cutEntry cut e) = true := by
  have waits : awaited s e = true := by simp [awaited, current, serves]
  have stays : departs s cut e = false := by simp [departs, waits]
  refine ⟨(cutEntry_mem_revoke_queue tags he).2 stays, ?_⟩
  cases hr : s.gate.record with
  | none => simp [State.inService, hr] at serves
  | some r =>
    have ofE : r.isOf e = true := inService_of_record hr e ▸ serves
    have ended : (s.queue.any fun f => (emptied cut f && awaited s f) && r.isOf f) = true :=
      List.any_eq_true.2 ⟨e, he, by simp [empty, waits, ofE]⟩
    have kept : (s.queue.any fun f => departs s cut f && r.isOf f) = false :=
      List.any_eq_false.2 fun f hf hleaves => by
        obtain ⟨gone, ofF⟩ := Bool.and_eq_true_iff.1 hleaves
        rw [← eq_of_isOf tags he hf ofE ofF, stays] at gone
        exact Bool.false_ne_true gone
    simp only [State.awaitsFall, revoke_gate tags, hr, Option.map_some, ended, kept]
    simpa [BlockRecord.isOf] using ofE

@[simp] theorem queueChanged_awaitsFall : s.queueChanged.awaitsFall e = s.awaitsFall e := by simp [State.awaitsFall]

end

/-! ### A whole-entry trigger (R70) -/

/-- The cut of a whole-entry trigger: the entries that `m` matches, before their next block. -/
def entryCut (m : Entry → Bool) (e : Entry) : Option Nat := if m e then some e.next else none

section
variable {m : Entry → Bool} {s : State} {reason : RevokeReason} {e : Entry}

theorem entryTrigger_eq : s.entryTrigger reason m = (s.revoke reason (entryCut m)).queueChanged := rfl

theorem entryCut_of_matched (h : m e = true) : entryCut m e = some e.next := if_pos h

theorem entryCut_ahead : CutsAhead s (entryCut m) := by
  intro e _ c hc
  obtain ⟨-, rfl⟩ : m e = true ∧ e.next = c := by simpa [entryCut] using hc
  exact le_rfl

/-- A whole-entry trigger revokes a matched entry that is Waiting or has a block left, and no other (R71). -/
theorem entryCut_revoked_isSome : (e.revoked (entryCut m e)).isSome =
    (m e && (decide (e.state = .waiting) || decide (e.next < e.stop))) := by
  unfold entryCut
  cases m e
  · rfl
  · by_cases waiting : e.state = .waiting
    · simp [Entry.revoked, waiting]
    · by_cases left : e.next < e.stop <;> simp [revoked_translated, waiting, left]

/-- A revoked entry is left with no run (R70, R72). -/
theorem entryCut_remaining {f : Entry} (run : e.start ≤ e.next) (hr : e.revoked (entryCut m e) = some f) :
    f.remaining = 0 := by
  have matched : m e = true := by
    by_contra h
    simp [entryCut, h, Entry.revoked] at hr
  rw [entryCut_of_matched matched] at hr
  rw [remaining_eq_zero_iff]
  by_cases waiting : e.state = .waiting
  · obtain rfl : { e with accepted := 0 } = f := by simpa [Entry.revoked, waiting] using hr
    simpa [Entry.stop] using run
  · rw [revoked_translated _ waiting] at hr
    obtain rfl := Option.some.inj (Option.ite_none_right_eq_some.1 hr).2
    simp [Entry.stop, run]

theorem entryCut_emptied (run : e.start ≤ e.next) : emptied (entryCut m) e = (e.revoked (entryCut m e)).isSome := by
  cases hr : e.revoked (entryCut m e) with
  | none => exact emptied_of_none hr
  | some f => simp [emptied_of_some hr, entryCut_remaining run hr]

theorem entryCut_revokesOf (ordered : s.QueueOrdered) : revokesOf s reason (entryCut m) = s.endRevokes reason m := by
  unfold revokesOf State.endRevokes
  simp only [entryCut_revoked_isSome]
  refine List.map_congr_left fun e he => ?_
  obtain ⟨mem, revoked⟩ := List.mem_filter.1 he
  rw [← entryCut_revoked_isSome] at revoked
  obtain ⟨f, hr⟩ := Option.isSome_iff_exists.1 revoked
  rw [cutEntry_of_some hr, entryCut_remaining (ordered.runs e mem) hr]

theorem endRevokes_any_isRevoke : (s.endRevokes reason m).any Reply.isRevoke =
    s.queue.any fun e => m e && (decide (e.state = .waiting) || decide (e.next < e.stop)) := by
  simp [State.endRevokes, List.any_filter, Reply.isRevoke]

theorem entryTrigger_triggerFrame (ordered : s.QueueOrdered) :
    TriggerFrame [] (s.endRevokes reason m) s (s.entryTrigger reason m) := by
  rw [entryTrigger_eq, ← entryCut_revokesOf ordered]
  exact revoke_triggerFrame ordered entryCut_ahead

/-- All that a whole-entry trigger does to the entries (R70 to R74, R94). -/
theorem entryTrigger_entriesCut (ordered : s.QueueOrdered) : EntriesCut reason m s (s.entryTrigger reason m) := by
  have frame : TriggerFrame [] (s.endRevokes reason m) s (s.entryTrigger reason m) := entryTrigger_triggerFrame ordered
  have tags := ordered.tags
  have queue : (s.entryTrigger reason m).queue = (s.revoke reason (entryCut m)).queue := queueChanged_queue _
  refine {
    leaves := fun e he matched left unheld f hf same => ?_
    ends := fun e he matched left current serves => ?_
    keeps := fun e he untouched => ?_
    replies := frame.replies
    request := by rw [triggerFrame_revoke_request frame, endRevokes_any_isRevoke] }
  · rw [queue] at hf
    have stays := (eq_cutEntry_of_mem tags he hf same).1
    have empty : emptied (entryCut m) e = true := by
      rw [entryCut_emptied (ordered.runs e he), entryCut_revoked_isSome]
      simpa [matched] using left
    exact unheld (by simpa [departs, empty, awaited] using stays)
  · have translated : e.state ≠ .waiting := by rw [current]; decide
    have cutAt := cutEntry_of_some (cutEntry_translated translated (entryCut_of_matched matched) left)
    have empty : emptied (entryCut m) e = true := by
      rw [entryCut_emptied (ordered.runs e he), entryCut_revoked_isSome]
      simp [matched, left]
    rw [queue, entryTrigger_eq, queueChanged_awaitsFall, ← cutAt]
    exact revoke_awaitsFall tags he empty current serves
  · have unrevoked : e.revoked (entryCut m e) = none := by
      rw [← Option.not_isSome_iff_eq_none, entryCut_revoked_isSome]
      rcases untouched with unmatched | ⟨translated, risen⟩
      · simp [unmatched]
      · simp [translated, risen]
    rw [queue, ← cutEntry_of_none unrevoked]
    exact (cutEntry_mem_revoke_queue tags he).2 (by simp [departs, emptied_of_none unrevoked])

end

/-! ### A trigger over a block range (R70, R109) -/

/-- The cut of a trigger over a range: the entries `considered`, before the first block of their remaining run in the range. -/
def rangeCut (first last : Nat) (considered : Entry → Bool) (e : Entry) : Option Nat :=
  if considered e then e.firstIn first last else none

/-- The remaining run of the entry has a block in the range. -/
def runMeets (first last : Nat) (e : Entry) : Bool := decide (max e.next first < e.stop ∧ max e.next first ≤ last)

section
variable {first last b : Nat} {considered : Entry → Bool} {s : State} {reason : RevokeReason} {e : Entry}

theorem runMeets_iff : runMeets first last e = true ↔ max e.next first < e.stop ∧ max e.next first ≤ last :=
  decide_eq_true_iff

theorem rangeCut_of_meets (hc : considered e = true) (meets : runMeets first last e = true) :
    rangeCut first last considered e = some (max e.next first) := by
  rw [rangeCut, if_pos hc, Entry.firstIn, if_pos (runMeets_iff.1 meets)]

theorem rangeCut_of_clear (h : (considered e && runMeets first last e) = false) :
    rangeCut first last considered e = none := by
  unfold rangeCut Entry.firstIn
  cases hc : considered e
  · rfl
  · have clear : runMeets first last e = false := by simpa [hc] using h
    rw [if_pos rfl, if_neg fun meets => Bool.false_ne_true (clear.symm.trans (runMeets_iff.2 meets))]

theorem rangeCut_ahead : CutsAhead s (rangeCut first last considered) := by
  intro e _ c hc
  cases h : considered e && runMeets first last e
  · rw [rangeCut_of_clear h] at hc
    cases hc
  · obtain ⟨hcons, meets⟩ := Bool.and_eq_true_iff.1 h
    rw [rangeCut_of_meets hcons meets] at hc
    exact Option.some.inj hc ▸ le_max_left ..

/-- The first block in the range bounds the blocks before it (R70). -/
theorem lt_firstIn_iff (meets : runMeets first last e = true) (hb : e.next ≤ b) :
    b < max e.next first ↔ ∀ c, e.next ≤ c → c ≤ b → ¬ (first ≤ c ∧ c ≤ last) := by
  have within := (runMeets_iff.1 meets).2
  refine ⟨fun h c _ _ => by omega, fun h => ?_⟩
  by_contra beyond
  exact h (max e.next first) (le_max_left ..) (Nat.not_lt.1 beyond) ⟨le_max_right .., within⟩

theorem outside_of_not_meets (clear : runMeets first last e = false) (hb : b < e.stop) :
    ∀ c, e.next ≤ c → c ≤ b → ¬ (first ≤ c ∧ c ≤ last) := by
  rintro c ahead upTo ⟨notBefore, notAfter⟩
  have meets := runMeets_iff.2 (⟨by omega, by omega⟩ : max e.next first < e.stop ∧ max e.next first ≤ last)
  simp [clear] at meets

/-- The cut falls on the entry's next block: that block lies in the range and in the run. -/
theorem nextIn_iff : (runMeets first last e = true ∧ max e.next first = e.next) ↔
    first ≤ e.next ∧ e.next ≤ last ∧ e.next < e.stop := by
  rw [runMeets_iff]
  omega

theorem cutRevokes_any_isRevoke : (s.cutRevokes reason first last considered).any Reply.isRevoke =
    s.queue.any fun e => considered e && decide (max e.next first < e.stop ∧ max e.next first ≤ last) := by
  simp [State.cutRevokes, List.any_filter, Reply.isRevoke]

section
variable (translated : ∀ e, considered e = true → e.state ≠ .waiting)
include translated

theorem rangeCut_revoked (h : (considered e && runMeets first last e) = true) :
    e.revoked (rangeCut first last considered e) = some { e with accepted := max e.next first - e.start } := by
  obtain ⟨hc, meets⟩ := Bool.and_eq_true_iff.1 h
  exact cutEntry_translated (translated e hc) (rangeCut_of_meets hc meets) (runMeets_iff.1 meets).1

theorem rangeCut_revoked_isSome :
    (e.revoked (rangeCut first last considered e)).isSome = (considered e && runMeets first last e) := by
  cases h : considered e && runMeets first last e
  · simp [rangeCut_of_clear h, Entry.revoked]
  · rw [rangeCut_revoked translated h]
    rfl

theorem rangeCut_stop (run : e.start ≤ e.next) (h : (considered e && runMeets first last e) = true) :
    (cutEntry (rangeCut first last considered) e).stop = max e.next first := by
  rw [cutEntry_of_some (rangeCut_revoked translated h)]
  exact Nat.add_sub_cancel' (run.trans (le_max_left ..))

theorem rangeCut_emptied_iff (run : e.start ≤ e.next) (hc : considered e = true) :
    emptied (rangeCut first last considered) e = true ↔ first ≤ e.next ∧ e.next ≤ last ∧ e.next < e.stop := by
  cases h : runMeets first last e
  · have clear : (considered e && runMeets first last e) = false := by simp [h]
    rw [← nextIn_iff, h, emptied_of_none (by rw [rangeCut_of_clear clear]; rfl)]
    simp
  · have meets : (considered e && runMeets first last e) = true := by simp [hc, h]
    have stop := rangeCut_stop translated run meets
    rw [cutEntry_of_some (rangeCut_revoked translated meets)] at stop
    rw [← nextIn_iff, emptied_of_some (rangeCut_revoked translated meets), decide_eq_true_iff, remaining_eq_zero_iff, stop]
    simp [h]

theorem rangeCut_revokesOf (ordered : s.QueueOrdered) :
    revokesOf s reason (rangeCut first last considered) = s.cutRevokes reason first last considered := by
  unfold revokesOf State.cutRevokes
  simp only [rangeCut_revoked_isSome translated]
  refine List.map_congr_left fun e he => ?_
  obtain ⟨mem, meets⟩ := List.mem_filter.1 he
  rw [Entry.remaining, rangeCut_stop translated (ordered.runs e mem) meets, cutEntry_next]

/-- The run that is left ends before the first block in the range (R70, R71). -/
theorem rangeCut_run (run : e.start ≤ e.next) (hc : considered e = true) :
    (cutEntry (rangeCut first last considered) e).stop ≤ e.stop ∧ ∀ b, e.next ≤ b → b < e.stop →
      (b < (cutEntry (rangeCut first last considered) e).stop ↔ ∀ c, e.next ≤ c → c ≤ b → ¬ (first ≤ c ∧ c ≤ last)) := by
  cases h : runMeets first last e
  · have clear : rangeCut first last considered e = none := rangeCut_of_clear (by simp [h])
    rw [cutEntry_of_none (by rw [clear]; rfl)]
    exact ⟨le_rfl, fun b _ hb => iff_of_true hb (outside_of_not_meets h hb)⟩
  · rw [rangeCut_stop translated run (by simp [hc, h])]
    exact ⟨(runMeets_iff.1 h).1.le, fun b hb _ => lt_firstIn_iff h hb⟩

/-- The frame of a trigger over a range. -/
theorem revoke_rangeCut_triggerFrame (ordered : s.QueueOrdered) :
    TriggerFrame [] (s.cutRevokes reason first last considered) s
      (s.revoke reason (rangeCut first last considered)).queueChanged := by
  rw [← rangeCut_revokesOf translated ordered]
  exact revoke_triggerFrame ordered rangeCut_ahead

/-- All that a trigger over a range does to the entries (R70 to R74, R94). -/
theorem revoke_rangeCut_runsCut (ordered : s.QueueOrdered) :
    RunsCut reason first last considered s (s.revoke reason (rangeCut first last considered)).queueChanged := by
  have frame := revoke_rangeCut_triggerFrame (reason := reason) (first := first) (last := last) translated ordered
  have tags := ordered.tags
  have empties {e : Entry} (he : e ∈ s.queue) (hc : considered e = true) :
      emptied (rangeCut first last considered) e = true ↔ first ≤ e.next ∧ e.next ≤ last ∧ e.next < e.stop :=
    rangeCut_emptied_iff translated (ordered.runs e he) hc
  refine {
    runs := fun e he hc f hf same => ?_
    stays := fun e he hc ahead => ?_
    leaves := fun e he hc notBefore notAfter left unheld f hf same => ?_
    waits := fun e he hc notBefore notAfter left current serves => ?_
    others := fun e he unconsidered => ?_
    replies := frame.replies
    request := by rw [triggerFrame_revoke_request frame, cutRevokes_any_isRevoke] }
  · rw [queueChanged_queue] at hf
    obtain ⟨-, rfl⟩ := eq_cutEntry_of_mem tags he hf same
    exact ⟨cutEntry_next, rangeCut_run translated (ordered.runs e he) hc⟩
  · have kept : departs s (rangeCut first last considered) e = false := by
      rw [departs, Bool.eq_false_iff.2 (mt (empties he hc).1 ahead), Bool.false_and]
    have stays := (cutEntry_mem_revoke_queue (reason := reason) tags he).2 kept
    rw [← queueChanged_queue] at stays
    exact ⟨_, stays, cutEntry_tag, cutEntry_state, cutEntry_next⟩
  · rw [queueChanged_queue] at hf
    have kept := (eq_cutEntry_of_mem tags he hf same).1
    have empty := (empties he hc).2 ⟨notBefore, notAfter, left⟩
    exact unheld (by simpa [departs, empty, awaited] using kept)
  · have empty := (empties he hc).2 ⟨notBefore, notAfter, left⟩
    have waits := revoke_awaitsFall (reason := reason) tags he empty current serves
    rw [← queueChanged_queue, ← queueChanged_awaitsFall] at waits
    exact ⟨_, waits.1, cutEntry_tag, waits.2⟩
  · have unrevoked : e.revoked (rangeCut first last considered e) = none := by
      rw [rangeCut_of_clear (by simp [unconsidered])]
      rfl
    rw [queueChanged_queue, ← cutEntry_of_none unrevoked]
    exact (cutEntry_mem_revoke_queue tags he).2 (by simp [departs, emptied_of_none unrevoked])

end

end

end Sys2Proof.Laws

/-!
PROOFS. The stream table and the guard list (06_streams_and_guard_ranges.md): one equation per outcome of each rule, the ABORT frame,
and the ordered list.
-/

namespace Sys2Proof.StreamsAndGuards

open Sys2Proof Sys2Proof.Machine Sys2Proof.Laws

theorem exec_openStream (s : State) : exec .openStream s = s.execute codeOpenStream 1 openStream := rfl
theorem exec_closeStream (s : State) : exec .closeStream s = s.execute codeCloseStream 1 closeStream := rfl
theorem exec_addGuard (s : State) : exec .addGuard s = s.execute codeAddGuard 1 addGuard := rfl
theorem exec_removeGuard (s : State) : exec .removeGuard s = s.execute codeRemoveGuard 1 removeGuard := rfl

/-! ### OPEN STREAM (R100) -/

section
variable {ps : List Byte} {n : StreamNo} {l : Level} {s : State}

theorem streamNoOf_eq_some_iff : streamNoOf ps = some n ↔ n.val = u8At ps 0 := below_eq_some_iff

theorem streamNoOf_eq_none_iff : streamNoOf ps = none ↔ 3 < u8At ps 0 := below_eq_none_iff

/-- The mode a well-formed message carries. -/
def carriedMode (ps : List Byte) : StreamMode := if u8At ps 1 = 1 then .playback else .record

theorem openMode_of_code (h : u8At ps 1 = 1 ∨ u8At ps 1 = 2) : openMode (u8At ps 1) = some (carriedMode ps) := by
  rcases h with h | h <;> simp [openMode, carriedMode, h]

theorem openMode_eq_none_iff {n : Nat} : openMode n = none ↔ n ≠ 1 ∧ n ≠ 2 := by
  unfold openMode
  split_ifs <;> simp_all

/-- The result gives the mode back as it was carried. -/
theorem carriedMode_byte (h : u8At ps 1 = 1 ∨ u8At ps 1 = 2) : (carriedMode ps).byte = byteAt ps 1 := by
  rw [← StrategyTable.byte1_u8At]
  rcases h with h | h <;> rw [carriedMode, h] <;> rfl

theorem openStream_range (h : 3 < u8At ps 0 ∨ (u8At ps 1 ≠ 1 ∧ u8At ps 1 ≠ 2)) :
    openStream l ps s = refuseWith s .range := by
  unfold openStream
  rcases h with beyond | uncoded
  · rw [streamNoOf_eq_none_iff.2 beyond]
  · rw [openMode_eq_none_iff.2 uncoded]
    cases streamNoOf ps <;> rfl

section
variable (hn : n.val = u8At ps 0) (coded : u8At ps 1 = 1 ∨ u8At ps 1 = 2)
include hn coded

theorem openStream_occupied (h : (s.stream n).mode ≠ .closed) : openStream l ps s = refuseWith s .occupied := by
  simp [openStream, streamNoOf_eq_some_iff.2 hn, openMode_of_code coded, h]

theorem openStream_done (h : (s.stream n).mode = .closed) : openStream l ps s =
    done (s.setStream n ⟨carriedMode ps, l.val, 0, 0, none⟩) [byteAt ps 1, byte1 l.val] := by
  simp [openStream, streamNoOf_eq_some_iff.2 hn, openMode_of_code coded, h, carriedMode_byte coded]

end

theorem setStream_stream_self (t : Stream) : (s.setStream n t).stream n = t := by simp [setStream_stream]

theorem setStream_stream_ne {m : StreamNo} (t : Stream) (h : m ≠ n) : (s.setStream n t).stream m = s.stream m := by
  simp [setStream_stream, h.symm]

/-! ### CLOSE STREAM (R102) -/

theorem closeStream_range (h : 3 < u8At ps 0) : closeStream l ps s = refuseWith s .range := by
  simp [closeStream, streamNoOf_eq_none_iff.2 h]

/-- The stream as CLOSE STREAM leaves it. -/
def closed (s : State) (n : StreamNo) : State := s.setStream n { s.stream n with mode := .closed }

section
variable (hn : n.val = u8At ps 0)
include hn

theorem closeStream_wrongState (h : (s.stream n).mode = .closed) : closeStream l ps s = refuseWith s .wrongState := by
  simp [closeStream, streamNoOf_eq_some_iff.2 hn, h]

theorem closeStream_denied (opened : (s.stream n).mode ≠ .closed) (h : (s.stream n).owner < l.val) :
    closeStream l ps s = refuseWith s .denied := by
  simp [closeStream, streamNoOf_eq_some_iff.2 hn, opened, h]

theorem closeStream_done (opened : (s.stream n).mode ≠ .closed) (h : l.val ≤ (s.stream n).owner) : closeStream l ps s =
    done ((closed s n).entryTrigger .streamClosed fun e => decide (e.stream = n))
      (bytes4 (s.stream n).served ++ bytes4 (s.stream n).skipped) := by
  simp only [closeStream, streamNoOf_eq_some_iff.2 hn, if_neg opened, if_neg (Nat.not_lt.2 h)]
  rfl

end

/-- Streams are no part of what a trigger on the queue acts on (R102). -/
theorem closed_entriesCut {reason : RevokeReason} {m : Entry → Bool} (ordered : s.QueueOrdered) :
    EntriesCut reason m s ((closed s n).entryTrigger reason m) :=
  have cut : EntriesCut reason m (closed s n) ((closed s n).entryTrigger reason m) :=
    entryTrigger_entriesCut ⟨ordered.tags, ordered.runs, ordered.order, ordered.translator⟩
  ⟨cut.leaves, cut.ends, cut.keeps, cut.replies, cut.request⟩

theorem closed_triggerFrame {reason : RevokeReason} {m : Entry → Bool} (ordered : s.QueueOrdered) :
    TriggerFrame [] (s.endRevokes reason m) (s.withStreams ((closed s n).entryTrigger reason m).streams)
      ((closed s n).entryTrigger reason m) := by
  rw [entryTrigger_streams]
  exact entryTrigger_triggerFrame (s := closed s n) ⟨ordered.tags, ordered.runs, ordered.order, ordered.translator⟩

end

/-! ### The ABORT frame (R57, R58, R69) -/

section
variable {scope : Byte} {s : State}

theorem decodeAbort_malformed (h : 4 ≤ scope.toNat) (notAll : scope ≠ 0xFF#8) : decodeAbort scope = none := by
  rw [decodeAbort, dif_neg (Nat.not_lt.2 h), if_neg notAll]

section
variable (running : s.inReset = false) (fresh : s.link.staleFrame = false)
include running fresh

theorem exec_abort_malformed (h : decodeAbort scope = none) : exec (.abort scope) s = .next (s.raise .linkerr) := by
  simp [exec, execAbort, State.whenRunning, running, State.endFrame, fresh, h, State.malformed]

theorem exec_abort_wellFormed {named : Option StreamNo} (h : decodeAbort scope = some named) :
    exec (.abort scope) s = .next (s.abort named) := by
  simp [exec, execAbort, State.whenRunning, running, State.endFrame, fresh, h, State.take]

theorem exec_abort_stream (h : scope.toNat < 4) : exec (.abort scope) s =
    .next (s.entryTrigger .aborted fun e => decide (e.stream.val = scope.toNat)) := by
  rw [exec_abort_wellFormed running fresh (named := some ⟨scope.toNat, h⟩) (dif_pos h), State.abort]
  simp only [beq_eq_decide, Fin.ext_iff]

theorem exec_abort_all (h : scope = 0xFF#8) : exec (.abort scope) s = .next (s.entryTrigger .aborted fun _ => true) := by
  subst h
  exact exec_abort_wellFormed running fresh (named := none) rfl

end

end

/-! ### The guard list (R106, R108, R111) -/

section
variable {g h : Guard} {gs : List Guard}

theorem before_iff : g.before h = true ↔ g.layer < h.layer ∨ g.layer = h.layer ∧ g.first < h.first := by
  simp [Guard.before]

theorem overlapsAny_iff : g.overlapsAny gs = true ↔
    ∃ h ∈ gs, h.layer = g.layer ∧ g.first ≤ h.last ∧ h.first ≤ g.last := by
  simp [Guard.overlapsAny, rangesOverlap]

/-- The range takes its place behind the listed ranges that come before it, up to the first that does not (R108). -/
theorem insertGuard_eq_append (g : Guard) (gs : List Guard) : ∃ before after, gs = before ++ after ∧
    insertGuard g gs = before ++ g :: after ∧ (∀ h ∈ before, h.before g = true) ∧
    ∀ h, after.head? = some h → ¬ h.before g = true := by
  induction gs with
  | nil => exact ⟨[], [], rfl, rfl, by simp, by simp⟩
  | cons h rest ih =>
    by_cases first : h.before g = true
    · obtain ⟨before, after, split, inserted, ahead, behind⟩ := ih
      refine ⟨h :: before, after, by rw [split, List.cons_append], ?_, ?_, behind⟩
      · rw [insertGuard, if_pos first, inserted, List.cons_append]
      · simpa [first] using ahead
    · refine ⟨[], h :: rest, rfl, if_neg first, by simp, fun h' head => ?_⟩
      obtain rfl := Option.some.inj head
      exact first

/-- The look-up of a range by its layer and first block finds the first one listed (R111). -/
theorem guardAt_append {before after : List Guard} {layer : LayerNo} {first : Nat} (hg : g.layer = layer ∧ g.first = first)
    (ahead : ∀ h ∈ before, ¬ (h.layer = layer ∧ h.first = first)) :
    guardAt (before ++ g :: after) layer first = some g := by
  have passed : before.find? (fun h => decide (h.layer = layer ∧ h.first = first)) = none := by
    simpa using ahead
  rw [guardAt, List.find?_append, passed, Option.none_or]
  exact List.find?_cons_of_pos (decide_eq_true hg)

theorem guardAt_eq_none {layer : LayerNo} {first : Nat} (h : ∀ g ∈ gs, ¬ (g.layer = layer ∧ g.first = first)) :
    guardAt gs layer first = none := by
  simpa [guardAt] using h

/-- The range leaves and the ranges behind it keep their order (R111). -/
theorem erase_append {before after : List Guard} (h : g ∉ before) : (before ++ g :: after).erase g = before ++ after := by
  rw [List.erase_append_right _ h, List.erase_cons_head]

end

/-! ### ADD GUARD (R107 to R109) -/

section
variable {ps : List Byte} {l : Level} {s : State}

theorem addGuard_range (h : 3 < u8At ps 0 ∨ 1073741823 < u32At ps 1 ∨ 1073741823 < u32At ps 5 ∨ u32At ps 5 < u32At ps 1) :
    addGuard l ps s = refuseWith s .range := by
  have malformed : guardOf l ps = none := by
    unfold guardOf
    split
    · next layer hlayer =>
      have := below_eq_some_iff.1 hlayer
      exact if_neg (by simp only [Config.maxBlock]; omega)
    · rfl
  simp [addGuard, malformed]

section
variable {layer : LayerNo}

/-- The range the message carries, set by the requester's level. -/
def carriedGuard (layer : LayerNo) (l : Level) (ps : List Byte) : Guard := ⟨layer, u32At ps 1, u32At ps 5, l.val⟩

variable (hlayer : layer.val = u8At ps 0) (run : u32At ps 1 ≤ u32At ps 5) (within : u32At ps 5 ≤ 1073741823)
include hlayer run within

theorem guardOf_eq_some : guardOf l ps = some (carriedGuard layer l ps) := by
  simp only [guardOf, below_eq_some_iff.2 hlayer]
  exact if_pos ⟨run.trans within, within, run⟩

theorem addGuard_full (h : 16 ≤ s.guards.length) : addGuard l ps s = refuseWith s .full := by
  simp [addGuard, guardOf_eq_some hlayer run within, h]

variable (room : s.guards.length < 16)
include room

theorem addGuard_overlap (h : (carriedGuard layer l ps).overlapsAny s.guards = true) :
    addGuard l ps s = refuseWith s .overlap := by
  simp [addGuard, guardOf_eq_some hlayer run within, room, h]

variable (apart : ¬ (carriedGuard layer l ps).overlapsAny s.guards = true)
include apart

theorem addGuard_denied (h : l = 1 ∧ s.systemZoneIn (carriedGuard layer l ps) = true) :
    addGuard l ps s = refuseWith s .denied := by
  simp only [addGuard, guardOf_eq_some hlayer run within, if_neg (Nat.not_le.2 room), if_neg apart, if_pos h]

theorem addGuard_done (h : ¬ (l = 1 ∧ s.systemZoneIn (carriedGuard layer l ps) = true)) : addGuard l ps s =
    done ((s.withGuards (insertGuard (carriedGuard layer l ps) s.guards)).guardTrigger (carriedGuard layer l ps))
      [byte1 (s.guards.length + 1)] := by
  simp only [addGuard, guardOf_eq_some hlayer run within, if_neg (Nat.not_le.2 room), if_neg apart, if_neg h]

end

theorem systemZoneIn_iff {g : Guard} : s.systemZoneIn g = true ↔ ∃ i, (s.zone i).inUse = true ∧ (s.zone i).level = 0 ∧
    (s.zone i).layer = g.layer ∧ g.first ≤ (s.zone i).last ∧ (s.zone i).first ≤ g.last := by
  simp [State.systemZoneIn, zoneSlots, rangesOverlap, and_assoc]

/-! ### The guard trigger (R109) -/

/-- The entries a guard range can cut: translated ones that write on its layer. -/
def guarded (layer : LayerNo) (e : Entry) : Bool := e.translated && e.writes && decide (e.layer = layer)

theorem translated_of_guarded {layer : LayerNo} (e : Entry) (h : guarded layer e = true) : e.state ≠ .waiting := by
  simp only [guarded, Entry.translated, Bool.and_eq_true, decide_eq_true_iff] at h
  exact h.1.1

theorem guardTrigger_eq (s : State) (g : Guard) : s.guardTrigger g =
    (s.revoke .guarded (rangeCut g.first g.last (guarded g.layer))).queueChanged := rfl

section
variable (ordered : s.QueueOrdered) (gs : List Guard) (g : Guard)
include ordered

/-- The guard list is no part of what a trigger on the queue acts on (R108). -/
theorem guardTrigger_runsCut :
    RunsCut .guarded g.first g.last (guarded g.layer) s ((s.withGuards gs).guardTrigger g) := by
  have cut := revoke_rangeCut_runsCut (s := s.withGuards gs) (reason := .guarded) (first := g.first) (last := g.last)
    (translated_of_guarded (layer := g.layer)) ⟨ordered.tags, ordered.runs, ordered.order, ordered.translator⟩
  rw [← guardTrigger_eq] at cut
  exact ⟨cut.runs, cut.stays, cut.leaves, cut.waits, cut.others, cut.replies, cut.request⟩

theorem guardTrigger_triggerFrame :
    TriggerFrame [] (s.cutRevokes .guarded g.first g.last (guarded g.layer))
      (s.withGuards ((s.withGuards gs).guardTrigger g).guards) ((s.withGuards gs).guardTrigger g) := by
  rw [guardTrigger_guards, guardTrigger_eq]
  exact revoke_rangeCut_triggerFrame (s := s.withGuards gs) translated_of_guarded
    ⟨ordered.tags, ordered.runs, ordered.order, ordered.translator⟩

end

/-! ### REMOVE GUARD (R111) -/

theorem removeGuard_range (h : 3 < u8At ps 0 ∨ 1073741823 < u32At ps 1) : removeGuard l ps s = refuseWith s .range := by
  unfold removeGuard
  split
  · rfl
  · next layer hlayer =>
    have := below_eq_some_iff.1 hlayer
    exact if_pos (show 1073741823 < u32At ps 1 by omega)

section
variable {layer : LayerNo} (hlayer : layer.val = u8At ps 0) (within : u32At ps 1 ≤ 1073741823)
include hlayer within

theorem removeGuard_nothing (h : guardAt s.guards layer (u32At ps 1) = none) :
    removeGuard l ps s = refuseWith s .nothing := by
  simp [removeGuard, below_eq_some_iff.2 hlayer, Nat.not_lt.2 within, h]

variable {g : Guard} (found : guardAt s.guards layer (u32At ps 1) = some g)
include found

theorem removeGuard_denied (h : g.setBy < l.val) : removeGuard l ps s = refuseWith s .denied := by
  simp [removeGuard, below_eq_some_iff.2 hlayer, Nat.not_lt.2 within, found, h]

theorem removeGuard_done (h : l.val ≤ g.setBy) : removeGuard l ps s =
    done (s.withGuards (s.guards.erase g)) [byte1 (s.guards.erase g).length] := by
  simp [removeGuard, below_eq_some_iff.2 hlayer, Nat.not_lt.2 within, found, Nat.not_lt.2 h]

end

end

end Sys2Proof.StreamsAndGuards

/-!
PROOFS. The statements settled: O26, O27 and O28.
-/

namespace Sys2Proof.Settled

open Sys2Proof Sys2Proof.Machine Sys2Proof.Laws Sys2Proof.StreamsAndGuards

/-- Settles O26: one equation per outcome of the rule, which writes the named stream alone. -/
theorem openStreamOpens : Obligations.OpenStreamOpens := by
  unfold Obligations.OpenStreamOpens
  refine ⟨fun s ps => deniedAbove_of_arm exec_openStream, fun s l ps he hl => ⟨fun bad => ?_, fun n hn coded =>
    ⟨fun opened => ?_, fun free => ?_⟩⟩⟩
  · exact exec_of_refuseWith exec_openStream he hl (openStream_range bad)
  · exact exec_of_refuseWith exec_openStream he hl (openStream_occupied hn coded opened)
  · exact ⟨_, exec_of_done exec_openStream he hl (openStream_done hn coded free) (by simp), rfl, setStream_stream_self _,
      fun m hm => setStream_stream_ne _ hm⟩

/-- Settles O27: both rows end in one whole-entry trigger, `entryTrigger_entriesCut`. -/
theorem closeStreamAndAbortRevoke : Obligations.CloseStreamAndAbortRevoke := by
  unfold Obligations.CloseStreamAndAbortRevoke
  refine ⟨fun s ps => deniedAbove_of_arm exec_closeStream, fun s l ps ordered he hl => ⟨fun bad => ?_, fun n hn =>
    ⟨fun shut => ?_, fun opened above => ?_, fun opened owns => ?_⟩⟩, fun s scope ordered running fresh =>
    ⟨fun h => ?_, fun h => ?_, fun h notAll => ?_⟩⟩
  · exact exec_of_refuseWith exec_closeStream he hl (closeStream_range bad)
  · exact exec_of_refuseWith exec_closeStream he hl (closeStream_wrongState hn shut)
  · exact exec_of_refuseWith exec_closeStream he hl (closeStream_denied hn opened above)
  · refine ⟨_, exec_of_done exec_closeStream he hl (closeStream_done hn opened owns) (by simp [closed]), ?_, fun m hm => ?_,
      closed_entriesCut ordered, closed_triggerFrame ordered⟩
    · simp only [State.stream, entryTrigger_streams]
      exact setStream_stream_self _
    · simp only [State.stream, entryTrigger_streams]
      exact setStream_stream_ne _ hm
  · exact ⟨_, exec_abort_stream running fresh h, entryTrigger_entriesCut ordered, entryTrigger_triggerFrame ordered⟩
  · exact ⟨_, exec_abort_all running fresh h, entryTrigger_entriesCut ordered, entryTrigger_triggerFrame ordered⟩
  · exact exec_abort_malformed running fresh (decodeAbort_malformed h notAll)

/-- Settles O28: the checks of the two rules in their order, `insertGuard_eq_append` for the list and `guardTrigger_runsCut` for the
runs. -/
theorem guardListChanges : Obligations.GuardListChanges := by
  unfold Obligations.GuardListChanges
  refine ⟨fun s ps => ⟨deniedAbove_of_arm exec_addGuard, deniedAbove_of_arm exec_removeGuard⟩, ?_, ?_⟩
  · intro s l ps ordered he hl first last
    refine ⟨fun bad => exec_of_refuseWith exec_addGuard he hl (addGuard_range bad), ?_⟩
    intro layer hlayer run within overlaps fenced
    have meets : (carriedGuard layer l ps).overlapsAny s.guards = true ↔ overlaps := overlapsAny_iff
    have zone : s.systemZoneIn (carriedGuard layer l ps) = true ↔ fenced := systemZoneIn_iff
    refine ⟨fun full => ?_, fun room overlap => ?_, fun room apart edit system => ?_, fun room apart allowed => ?_⟩
    · exact exec_of_refuseWith exec_addGuard he hl (addGuard_full hlayer run within full)
    · exact exec_of_refuseWith exec_addGuard he hl (addGuard_overlap hlayer run within room (meets.2 overlap))
    · exact exec_of_refuseWith exec_addGuard he hl
        (addGuard_denied hlayer run within room (mt meets.1 apart) ⟨edit, zone.2 system⟩)
    · obtain ⟨before, after, split, inserted, ahead, behind⟩ := insertGuard_eq_append (carriedGuard layer l ps) s.guards
      have answer := addGuard_done hlayer run within room (mt meets.1 apart) (by rwa [zone])
      refine ⟨_, before, after, exec_of_done exec_addGuard he hl answer (by simp), split, ?_,
        fun h hh => before_iff.1 (ahead h hh), fun h hh => mt (before_iff (h := carriedGuard layer l ps)).2 (behind h hh),
        guardTrigger_runsCut ordered _ (carriedGuard layer l ps),
        guardTrigger_triggerFrame ordered _ (carriedGuard layer l ps)⟩
      rw [guardTrigger_guards]
      exact inserted
  · intro s l ps he hl
    refine ⟨fun bad => exec_of_refuseWith exec_removeGuard he hl (removeGuard_range bad), fun onLayer within => ?_⟩
    obtain ⟨layer, hlayer⟩ : ∃ layer : LayerNo, layer.val = u8At ps 0 := ⟨⟨u8At ps 0, by omega⟩, rfl⟩
    rw [← hlayer]
    simp only [← Fin.ext_iff]
    refine ⟨fun unlisted => ?_, fun before g after split gLayer gFirst ahead => ?_⟩
    · exact exec_of_refuseWith exec_removeGuard he hl (removeGuard_nothing hlayer within (guardAt_eq_none unlisted))
    · have found : guardAt s.guards layer (u32At ps 1) = some g := split ▸ guardAt_append ⟨gLayer, gFirst⟩ ahead
      have left : s.guards.erase g = before ++ after :=
        split ▸ erase_append fun mem => ahead g mem ⟨gLayer, gFirst⟩
      refine ⟨fun above => ?_, fun owns => ?_⟩
      · exact exec_of_refuseWith exec_removeGuard he hl (removeGuard_denied hlayer within found above)
      · rw [← left]
        exact exec_of_done exec_removeGuard he hl (removeGuard_done hlayer within found owns) rfl

end Sys2Proof.Settled

/-!
PROOFS. The pickup layer control (07_pickup_layer_control.md, R116 to R119): LOAD LAYER's checks, one equation per outcome of its rule,
and the settle end by whether a move is due.
-/

namespace Sys2Proof.PickupLayerControl

open Sys2Proof Sys2Proof.Machine Sys2Proof.Laws

theorem exec_loadLayer (s : State) : exec .loadLayer s = s.execute codeLoadLayer 0 loadLayer := rfl

/-! ### The layer records and the outputs (R115, R116) -/

section
variable (s : State) (i : LayerNo) (r : LayerRecord)

theorem setLayer_layerRecord (j : LayerNo) : (s.setLayer i r).layerRecord j = if i = j then r else s.layerRecord j := by
  simp [State.setLayer, State.layerRecord, Vector.getElem_set, Fin.ext_iff]

theorem setLayer_layerRecord_self : (s.setLayer i r).layerRecord i = r := by simp [setLayer_layerRecord]

theorem setLayer_layerRecord_ne {j : LayerNo} (h : j ≠ i) : (s.setLayer i r).layerRecord j = s.layerRecord j := by
  simp [setLayer_layerRecord, h.symm]

theorem setLayer_eq_withPickup :
    s.setLayer i r = s.withPickup { s.pickup with layers := (s.setLayer i r).pickup.layers } := rfl

theorem setLayer_port : (s.setLayer i r).port = s.port := rfl

end

/-- The byte that names the motion follows LRDY, which is high while the pickup is Settled (R116). -/
theorem motion_byte_eq (p : Pickup) : p.motion.byte = if p.lrdy then 0x00#8 else 0x01#8 := by
  unfold Pickup.lrdy Motion.byte
  cases p.motion <;> rfl

/-! ### LOAD LAYER (R117) -/

/-- The message fails R117's range check, in the terms of the statement. -/
def LayerOutOfRange (ps : List Byte) : Prop :=
  3 < u8At ps 0 ∨ 4095 < u16At ps 1 ∨ s16At ps 3 < -512 ∨ 511 < s16At ps 3 ∨ u16At ps 5 < 50 ∨ 5000 < u16At ps 5

/-- The settled layer's record has taken the values, and the pickup moves from the layer to itself (R117, R119). -/
def resettle (s : State) (i : LayerNo) (r : LayerRecord) : State := (s.setLayer i r).startMove i i

theorem resettle_pickup (s : State) (i : LayerNo) (r : LayerRecord) : (resettle s i r).pickup =
    { s.pickup with layers := s.pickup.layers.set i.val r, motion := .moving i i r.settle, sa := r.sa, fo := r.fo } := by
  simp only [resettle, State.startMove, setLayer_layerRecord_self]
  rfl

/-- A re-settle writes no record besides the one loaded. -/
theorem resettle_layerRecord (s : State) (i : LayerNo) (r : LayerRecord) (j : LayerNo) :
    (resettle s i r).layerRecord j = (s.setLayer i r).layerRecord j := rfl

section
variable {l : Level} {ps : List Byte} {s : State} {i : LayerNo}

theorem layerRecordOf_inRange_iff (hi : i.val = u8At ps 0) :
    (layerRecordOf ps).inRange = true ↔ ¬ LayerOutOfRange ps := by
  rw [LayerRecord.inRange, decide_eq_true_iff]
  simp only [layerRecordOf, LayerOutOfRange]
  omega

theorem loadLayer_range (h : LayerOutOfRange ps) : loadLayer l ps s = refuseWith s .range := by
  unfold loadLayer
  split
  · rfl
  · next i hi =>
    exact if_pos fun ok => (layerRecordOf_inRange_iff (below_eq_some_iff.1 hi)).1 ok h

section
variable (hi : i.val = u8At ps 0) (ok : ¬ LayerOutOfRange ps)
include hi ok

theorem loadLayer_wrongState {source : LayerNo} {left : Nat} (h : s.pickup.motion = .moving source i left) :
    loadLayer l ps s = refuseWith s .wrongState := by
  simp [loadLayer, below_eq_some_iff.2 hi, (layerRecordOf_inRange_iff hi).2 ok, h]

theorem loadLayer_laserActive (here : s.pickup.motion = .settled i) (h : s.laser.state ≠ .off) :
    loadLayer l ps s = refuseWith s .laserActive := by
  simp [loadLayer, below_eq_some_iff.2 hi, (layerRecordOf_inRange_iff hi).2 ok, here, h]

/-- A layer that the pickup neither rests on nor moves to has its record written, and nothing starts. -/
theorem loadLayer_elsewhere
    (h : (∃ source target left, s.pickup.motion = .moving source target left ∧ target ≠ i) ∨
      (∃ layer, s.pickup.motion = .settled layer ∧ layer ≠ i)) :
    loadLayer l ps s = done (s.setLayer i (layerRecordOf ps)) [if s.pickup.lrdy then 0x00#8 else 0x01#8] := by
  rw [← motion_byte_eq]
  rcases h with ⟨_, _, _, moving, other⟩ | ⟨_, settled, other⟩
  · simp [loadLayer, below_eq_some_iff.2 hi, (layerRecordOf_inRange_iff hi).2 ok, moving, other]
  · simp [loadLayer, below_eq_some_iff.2 hi, (layerRecordOf_inRange_iff hi).2 ok, settled, other]

theorem loadLayer_resettle (here : s.pickup.motion = .settled i) (dark : s.laser.state = .off) :
    loadLayer l ps s = done (resettle s i (layerRecordOf ps)) [0x01#8] := by
  simp [loadLayer, below_eq_some_iff.2 hi, (layerRecordOf_inRange_iff hi).2 ok, here, dark, resettle, State.startMove,
    Motion.byte]

end

/-! ### The settle end (R118, R119) -/

/-- The pickup rests on the layer, its outputs as they stand. -/
def settleOn (s : State) (target : LayerNo) : State := s.withPickup { s.pickup with motion := .settled target }

section
variable {source target : LayerNo} {left : Nat} {e : Entry}

theorem exec_settleEnd (running : s.inReset = false) (moving : s.pickup.motion = .moving source target left) :
    exec .settleEnd s = .next (settleOn s target).maybeMove := by
  simp [exec, execSettleEnd, State.whenRunning, running, moving, settleOn]

/-- R118's conditions at the settle end, on the state before it. -/
theorem moveDue_settleOn : MoveDue (settleOn s target) source e ↔
    source = target ∧ s.laser.state = .idle ∧ (∀ f ∈ s.queue, f.state ≠ .current) ∧
      s.queue.find? (fun e => decide (e.state = .accepted)) = some e ∧ e.layer ≠ source := by
  simp [MoveDue, settleOn, eq_comm]

theorem settleOn_startMove (layer : LayerNo) : (settleOn s target).startMove target layer =
    s.withPickup { s.pickup with motion := .moving target layer (s.layerRecord layer).settle,
                                 sa := (s.layerRecord layer).sa, fo := (s.layerRecord layer).fo } := rfl

/-- The pickup stays where it settled: one of R118's conditions fails. -/
theorem settleOn_maybeMove_of_stays
    (stays : s.laser.state ≠ .idle ∨ (∃ f ∈ s.queue, f.state = .current) ∨ (∀ f ∈ s.queue, f.state ≠ .accepted) ∨
      (∃ e, s.queue.find? (fun e => decide (e.state = .accepted)) = some e ∧ e.layer = target)) :
    (settleOn s target).maybeMove = settleOn s target := by
  refine maybeMove_of_not_due fun source e due => ?_
  obtain ⟨rfl, idle, noCurrent, oldest, elsewhere⟩ := moveDue_settleOn.1 due
  rcases stays with notIdle | ⟨f, hf, current⟩ | noAccepted | ⟨f, oldest', here⟩
  · exact notIdle idle
  · exact noCurrent f hf current
  · exact noAccepted e (List.mem_of_find?_eq_some oldest) (by simpa using List.find?_some oldest)
  · obtain rfl : e = f := Option.some.inj (oldest.symm.trans oldest')
    exact elsewhere here

end

end

end Sys2Proof.PickupLayerControl

/-!
PROOFS. The statement settled: O29.
-/

namespace Sys2Proof.Settled

open Sys2Proof Sys2Proof.Machine Sys2Proof.Laws Sys2Proof.PickupLayerControl

/-- Settles O29: one equation per outcome of LOAD LAYER, and the settle end by R118's conditions on the pickup just settled. -/
theorem pickupLoadsAndSettles : Obligations.PickupLoadsAndSettles := by
  unfold Obligations.PickupLoadsAndSettles
  refine ⟨fun s ps => deniedAbove_of_arm exec_loadLayer, fun s ps he => ⟨fun bad => ?_, fun i hi ok =>
    ⟨fun source left moving => ?_, fun here active => ?_, fun elsewhere => ?_, fun here dark => ?_⟩⟩,
    fun s source target running moving => ?_⟩
  · exact exec_of_refuseWith exec_loadLayer he le_rfl (loadLayer_range bad)
  · exact exec_of_refuseWith exec_loadLayer he le_rfl (loadLayer_wrongState hi ok moving)
  · exact exec_of_refuseWith exec_loadLayer he le_rfl (loadLayer_laserActive hi ok here active)
  · exact ⟨_, exec_of_done exec_loadLayer he le_rfl (loadLayer_elsewhere hi ok elsewhere) (setLayer_port ..),
      setLayer_eq_withPickup .., setLayer_layerRecord_self .., fun j hj => setLayer_layerRecord_ne _ _ _ hj⟩
  · refine ⟨_, exec_of_done exec_loadLayer he le_rfl (loadLayer_resettle hi ok here dark) rfl, rfl, ?_⟩
    simp only [resettle_pickup, resettle_layerRecord]
    exact ⟨rfl, rfl, rfl, rfl, setLayer_layerRecord_self .., fun j hj => setLayer_layerRecord_ne _ _ _ hj⟩
  · rw [exec_settleEnd running moving]
    refine ⟨fun e oldest elsewhere idle noCurrent => ?_, fun stays => ?_⟩
    · rw [maybeMove_of_due (moveDue_settleOn.2 ⟨rfl, idle, noCurrent, oldest, elsewhere⟩), settleOn_startMove]
    · rw [settleOn_maybeMove_of_stays stays]
      rfl

end Sys2Proof.Settled

/-!
PROOFS. The alert unit's commands (11_events_alerts_and_device_commands.md, R169 to R171, R173): what each makes of the alert unit, one
equation per outcome of its rule, and the end of a pulse.
-/

namespace Sys2Proof.AlertUnit

open Sys2Proof Sys2Proof.Machine Sys2Proof.Laws

theorem exec_ackEvents (s : State) : exec .ackEvents s = s.execute codeAckEvents 0 ackEvents := rfl
theorem exec_setPermissions (s : State) : exec .setPermissions s = s.execute codeSetPermissions 0 setPermissions := rfl
theorem exec_setAlertMode (s : State) : exec .setAlertMode s = s.execute codeSetAlertMode 0 setAlertMode := rfl

/-! ### Triggers and the mode (R171, R173) -/

theorem trigger_of_pulse {a : Alert} (h : a.mode = .pulse) : a.trigger = { a with pulse := some 2 } := by
  simp [Alert.trigger, h, Config.pulseMicros]

theorem trigger_of_level {a : Alert} (h : a.mode = .level) : a.trigger = a := by simp [Alert.trigger, h]

/-- A grant is a trigger exactly where it grants a set flag that was withheld, and a trigger acts in Pulse mode alone (R170, R173). -/
theorem grant_eq (a : Alert) (mask : BitVec 16) : a.grant mask =
    { a with
      permissions := mask
      pulse := if a.mode = .pulse ∧ a.requests &&& mask &&& ~~~a.permissions ≠ 0#16 then some 2 else a.pulse } := by
  unfold Alert.grant
  by_cases newly : a.requests &&& mask &&& ~~~a.permissions = 0#16
  · simp [newly]
  · cases a.mode
    · simp [newly, trigger_of_level]
    · simp [newly, trigger_of_pulse]

/-- The mode already stored is the change that leaves a pulse running (R171). -/
theorem setMode_eq (a : Alert) (m : AlertMode) :
    a.setMode m = { a with mode := m, pulse := if a.mode = m then a.pulse else none } := by
  unfold Alert.setMode
  by_cases same : a.mode = m
  · simp [← same]
  · simp [same]

/-! ### The mode's code (section 12.1) -/

theorem alertModeOf_eq_none {n : Nat} (h : 1 < n) : alertModeOf n = none := by
  rw [alertModeOf, if_neg (by omega), if_neg (by omega)]

/-- The two codes are the bytes of the two modes, so the mode stored reads back as the byte sent. -/
theorem alertModeOf_byte (m : AlertMode) : alertModeOf m.byte.toNat = some m := by cases m <;> rfl

theorem mode_byte_iff {m : AlertMode} {b : Byte} :
    (m = .level ∧ b.toNat = 0) ∨ (m = .pulse ∧ b.toNat = 1) ↔ b = m.byte := by
  rw [← BitVec.toNat_inj]
  cases m <;> simp [AlertMode.byte]

/-! ### What each rule answers -/

section
variable {l : Level} {ps : List Byte} {s : State}

theorem ackEvents_range (h : maskOf ps &&& unusedFlags ≠ 0#16) : ackEvents l ps s = refuseWith s .range := if_pos h

theorem ackEvents_done (h : maskOf ps &&& unusedFlags = 0#16) : ackEvents l ps s =
    done (s.withAlert (s.alert.ack (maskOf ps))) (bytes2 (s.alert.ack (maskOf ps)).requests.toNat) := if_neg (not_not.2 h)

theorem setPermissions_range (h : maskOf ps &&& unusedFlags ≠ 0#16) : setPermissions l ps s = refuseWith s .range := if_pos h

theorem setPermissions_done (h : maskOf ps &&& unusedFlags = 0#16) : setPermissions l ps s =
    done (s.withAlert (s.alert.grant (maskOf ps))) (bytes2 (maskOf ps).toNat) := by
  rw [setPermissions, if_neg (not_not.2 h), grant_eq]

theorem setAlertMode_range (h : 1 < u8At ps 0) : setAlertMode l ps s = refuseWith s .range := by
  rw [setAlertMode, alertModeOf_eq_none h]

theorem setAlertMode_done {m : AlertMode} (h : byteAt ps 0 = m.byte) :
    setAlertMode l ps s = done (s.withAlert (s.alert.setMode m)) [byteAt ps 0] := by
  rw [setAlertMode, u8At, h, alertModeOf_byte]

end

/-- The row of the pulse timer's end: with RSTN high ALERT becomes inactive (R173). -/
theorem exec_alertPulseEnd {s : State} (running : s.inReset = false) :
    exec .alertPulseEnd s = .next (s.withAlert { s.alert with pulse := none }) := by
  simp [exec, execAlertPulseEnd, whenRunning_running running]

end Sys2Proof.AlertUnit

/-!
PROOFS. The statement settled: O37.
-/

namespace Sys2Proof.Settled

open Sys2Proof Sys2Proof.Machine Sys2Proof.Laws Sys2Proof.AlertUnit

/-- Settles O37: one equation per outcome of each rule, with `grant_eq` and `setMode_eq` for the pulse. -/
theorem alertCommands : Obligations.AlertCommands := by
  unfold Obligations.AlertCommands
  refine fun s ps => ⟨deniedAbove_of_arm exec_ackEvents, deniedAbove_of_arm exec_setPermissions,
    deniedAbove_of_arm exec_setAlertMode, fun he => ⟨fun bad => ?_, fun ok => ?_⟩, fun he => ⟨fun bad => ?_, fun ok => ?_⟩,
    fun he => ⟨fun bad => ?_, fun m coded => ?_⟩, fun running _ => exec_alertPulseEnd running⟩
  · exact exec_of_refuseWith exec_ackEvents he le_rfl (ackEvents_range bad)
  · exact exec_of_done exec_ackEvents he le_rfl (ackEvents_done ok) rfl
  · exact exec_of_refuseWith exec_setPermissions he le_rfl (setPermissions_range bad)
  · exact grant_eq s.alert _ ▸ exec_of_done exec_setPermissions he le_rfl (setPermissions_done ok) rfl
  · exact exec_of_refuseWith exec_setAlertMode he le_rfl (setAlertMode_range bad)
  · exact setMode_eq s.alert m ▸ exec_of_done exec_setAlertMode he le_rfl (setAlertMode_done (mode_byte_iff.1 coded)) rfl

end Sys2Proof.Settled

/-!
PROOFS. What a step can do, said once: the changes the rows can make of the state, each with its guards, and the packaged step induction
that every invariant uses.
-/

namespace Sys2Proof.Laws

open Sys2Proof Sys2Proof.Machine

/-- UNMOUNT's change (R177). -/
def unmounted (s : State) : State :=
  let s1 := if s.laser.state.on then s.darken .off else s
  let s2 := ((s1.withZones (Vector.replicate 128 Zone.freeContent)).withStrategies
    (Vector.replicate 16 Strategy.freeContent)).withGuards []
  (s2.withStreams (mapTable s2.streams Stream.unmounted)).flush .unmount

theorem unmount_state (l : Level) (ps : List Byte) (s : State) : unmount l ps s = done (unmounted s) := rfl

/-- The temperature sample's change (R133, R137, R42). -/
def sampled (temp : Int) (s : State) : State :=
  let s1 := (s.takeSample temp).warn
  (if s1.laser.overLimit then s1.overLimitAct s.laser.overLimit else s1).refreshIdle

/-- What a row can make of the state, the port apart: nothing, or one of the changes the rules give, with the guards that the rule has
passed. -/
inductive Effect (s : State) : State → Prop
  | nothing : Effect s s
  | atReset (p : Pins) : Effect s (s.atReset p)
  | holdInReset : Effect s s.holdInReset
  | resetCommand (r : ResetLevels) : Effect s (s.resetCommand r)
  | loadZone (d : ZoneLoad) (free : (s.zone d.slot).state = .free) (apart : ¬ s.zoneOverlap d.layer d.first d.last = true)
      (serves : s.strategyServes d = true) : Effect s ((s.addRef d.strategy).setZone d.slot d.zone)
  | setPowers (i : ZoneSlot) (p : Powers) (inUse : (s.zone i).inUse = true) :
      Effect s ((s.setZone i { s.zone i with powers := p }).handOn i)
  | setTrim (i : ZoneSlot) (v : Int) (inUse : (s.zone i).inUse = true) :
      Effect s ((s.setZone i { s.zone i with trim := clampInt (-128) 127 v, trimLimit := false }).handOn i)
  | setAutotrim (i : ZoneSlot) (on : Bool) (target : Int) (deadband : Nat) (inUse : (s.zone i).inUse = true) :
      Effect s (s.setZone i { s.zone i with
        autoTrim := on, target := clampInt (-100) 100 target, deadband := min 20 deadband, trimLimit := false })
  | reload (i : ZoneSlot) (inUse : (s.zone i).inUse = true) : Effect s (s.setZoneState i .loaded)
  | markAbsent (i : ZoneSlot) (loaded : (s.zone i).state = .loaded) :
      Effect s ((s.setZoneState i .absent).zoneTrigger i .absent fun _ => true)
  | closeZone (i : ZoneSlot) (loaded : (s.zone i).state = .loaded) :
      Effect s ((s.setZoneState i .closed).zoneTrigger i .closed Entry.writes)
  | releaseFree (i : ZoneSlot) (inUse : (s.zone i).inUse = true)
      (unpinned : ((s.zoneTrigger i .released fun _ => true).zone i).pins = 0) :
      Effect s ((s.zoneTrigger i .released fun _ => true).freeZone i)
  | releaseRetiring (i : ZoneSlot) (inUse : (s.zone i).inUse = true)
      (pinned : ((s.zoneTrigger i .released fun _ => true).zone i).pins ≠ 0) :
      Effect s ((s.zoneTrigger i .released fun _ => true).setZoneState i .retiring)
  | sweep (layer : LayerNo) :
      Effect s (s.withZones (mapTable s.zones fun z => if z.swept layer then { z with written := false } else z))
  | loadStrategy (k : StrategySlot) (r : StrategyRecord) (free : (s.strategy k).loaded = false) :
      Effect s (s.setStrategy k ⟨true, 0, r⟩)
  | releaseStrategy (k : StrategySlot) (unnamed : (s.strategy k).refs = 0) :
      Effect s (s.setStrategy k Strategy.freeContent)
  | openStream (n : StreamNo) (mode : StreamMode) (owner : Nat) : Effect s (s.setStream n ⟨mode, owner, 0, 0, none⟩)
  | closeStream (n : StreamNo) : Effect s
      ((s.setStream n { s.stream n with mode := .closed }).entryTrigger .streamClosed fun e => e.stream == n)
  | addGuard (g : Guard) (room : s.guards.length < Config.guardCapacity) :
      Effect s ((s.withGuards (insertGuard g s.guards)).guardTrigger g)
  | removeGuard (g : Guard) : Effect s (s.withGuards (s.guards.erase g))
  | setLayer (i : LayerNo) (r : LayerRecord) : Effect s (s.setLayer i r)
  | resettle (i : LayerNo) (r : LayerRecord) : Effect s ((s.setLayer i r).startMove i i)
  | loadLaserModel (m : LaserModel) (off : s.laser.state = .off) :
      Effect s (s.withLaser { s.laser with model := m, modelLoaded := true, overLimit := overLimitMark true m s.laser.temp })
  | loadCeilings (c : Ceilings) (off : s.laser.state = .off) :
      Effect s (s.withLaser { s.laser with ceilings := c, ceilingsLoaded := true, warnArmed := true })
  | laserOn (off : s.laser.state = .off) : Effect s s.enterStandby
  | laserOnHot (off : s.laser.state = .off) : Effect s (s.enterStandby.enterFault .overTemp)
  | laserOff : Effect s (s.turnOff .laserOff)
  | clearFault (fault : s.laser.state = .fault) : Effect s s.leaveFault
  | ackEvents (mask : BitVec 16) : Effect s (s.withAlert (s.alert.ack mask))
  | setPermissions (mask : BitVec 16) (known : mask &&& unusedFlags = 0#16) : Effect s (s.withAlert (s.alert.grant mask))
  | setAlertMode (m : AlertMode) : Effect s (s.withAlert (s.alert.setMode m))
  | unmount : Effect s (unmounted s)
  | allStop (p : Port) : Effect s ((s.withPort p).turnOff .laserOff)
  | busTimeout (p : Port) : Effect s ((s.withPort p).raise .busto)
  | staleFrame : Effect s (s.withLink { s.link with staleFrame := false })
  | malformed : Effect s (s.raise .linkerr)
  | refuse (tag : Byte) (reason : RefuseReason) : Effect s (s.produceRefuse tag reason)
  | enroll (a : Announcement) (admitted : s.admission a = none) :
      Effect s (s.withQueue (s.queue ++ [announcedEntry a])).queueChanged
  | abort (m : Entry → Bool) : Effect s (s.entryTrigger .aborted m)
  | trimStep (i : ZoneSlot) (d : Int) (inUse : (s.zone i).inUse = true) : Effect s (s.trimStep i d)
  | replySend : Effect s (s.withLink s.link.nextByte)
  | translation (tag : Byte) (e : Entry) (inFlight : s.translating = some tag)
      (found : (s.queue.find? fun e => decide (e.tag = tag ∧ e.state = .waiting)) = some e) :
      Effect s (s.completeTranslation e)
  | levelComputation (i : LevelInputs) (inFlight : s.levels.prepared = .computing i) :
      Effect s (s.withLevels (s.levels.complete i))
  | idleComputation (i : IdleInputs) (inFlight : s.levels.idleComp = some i) : Effect s (s.completeIdle i)
  | rise (e : Entry) (low : s.gate.high = false) (taken : s.takenEntry = some e) : Effect s (s.riseOn e)
  | riseEmpty (low : s.gate.high = false) (empty : s.takenEntry = none) : Effect s s.riseEmpty
  | fall (r : BlockRecord) (high : s.gate.high = true) (record : s.gate.record = some r) : Effect s (s.fallOn r)
  | fallEmpty (high : s.gate.high = true) (record : s.gate.record = none) : Effect s (s.withGate { high := false, record := none })
  | transition (w : WritePath) (periods : Nat) (active : s.writePath = some w) :
      Effect s (s.withWritePath (some (w.transition periods)))
  | markStart (fmon : MonitorCode) : Effect s (s.observePeak fmon).startMark
  | stepEnd (fmon : MonitorCode) : Effect s (s.observePeak fmon).endStep
  | settleEnd (source target : LayerNo) (left : Nat) (moving : s.pickup.motion = .moving source target left) :
      Effect s (s.withPickup { s.pickup with motion := .settled target }).maybeMove
  | warmUp (standby : s.laser.state = .standby) : Effect s s.endWarmUp
  | loffAsserted : Effect s ((s.withLaser { s.laser with loff := true }).turnOff .emergency)
  | loffReleased : Effect s (s.withLaser { s.laser with loff := false })
  | temperature (temp : Int) : Effect s (sampled temp s)
  | gateLimit (writing : s.laser.state = .writing) : Effect s (s.enterFault .gateStuck)
  | pllLost : Effect s (s.reportPll false).loseLock
  | pllRegained : Effect s (s.reportPll true).regainLock
  | lossTimer : Effect s s.enterUnlocked
  | blockSample (fmon : MonitorCode) : Effect s ((s.observePeak fmon).dueBlockSample fmon)
  | idleSample (fmon : MonitorCode) : Effect s ((s.observePeak fmon).dueIdleSample fmon)
  | conversion (c : Conversion) (inFlight : s.monitor.conversion = some c) : Effect s (s.completeConversion c)
  | pulseEnd : Effect s (s.withAlert { s.alert with pulse := none })

/-! ### From the rows to their changes -/

/-- t is one of the changes of s, but for the port. -/
def Acts (s t : State) : Prop := ∃ u p, Effect s u ∧ t = u.withPort p

section
variable {s t : State}

theorem Effect.acts (h : Effect s t) : Acts s t := ⟨t, t.port, h, rfl⟩

theorem acts_port (s : State) (p : Port) : Acts s (s.withPort p) := ⟨s, p, .nothing, rfl⟩

/-- A row that acts while RSTN is high. -/
theorem acts_of_running {u : State} (h : (.next (if s.inReset then s else u) : Host.Outcome State Fault Refusal) = .next t)
    (hu : Acts s u) : Acts s t := by
  obtain rfl := Host.Outcome.next.inj h
  split
  · exact Effect.nothing.acts
  · exact hu

theorem execute_acts {code : Byte} {g : Level} {f : Level → List Byte → State → Answered} (h : s.execute code g f = .next t)
    (hf : ∀ l ps, Effect s (f l ps s).1) : Acts s t := by
  obtain rfl | ⟨l, ps, r, rfl | rfl⟩ := execute_next h
  · exact Effect.nothing.acts
  · exact acts_port s _
  · exact ⟨_, _, hf l ps, rfl⟩

/-- A command that only reads. -/
theorem execute_acts_of_read {code : Byte} {g : Level} {f : Level → List Byte → State → Answered}
    (h : s.execute code g f = .next t) (hf : ∀ l ps, (f l ps s).1 = s) : Acts s t :=
  execute_acts h fun l ps => (hf l ps).symm ▸ .nothing

end

/-! ### What each rule makes of the state -/

section
variable (l : Level) (ps : List Byte) (s : State)

theorem loadZone_effect : Effect s (loadZone l ps s).1 := by
  unfold loadZone
  split
  · exact .nothing
  · split
    · exact .nothing
    · next free =>
      split
      · exact .nothing
      · next apart =>
        split
        · exact .nothing
        · next serves => exact .loadZone _ (not_not.1 free) apart (not_not.1 serves)

theorem setPowers_effect : Effect s (setPowers l ps s).1 := by
  unfold setPowers
  dsimp only
  split
  · exact .nothing
  · split
    · exact .nothing
    · split
      · exact .nothing
      · next inUse => exact .setPowers _ _ (not_not.1 inUse)

theorem setTrimTo_effect (value : Int → Int) : Effect s (setTrimTo ps s value).1 := by
  unfold setTrimTo
  split
  · exact .nothing
  · split
    · exact .nothing
    · next inUse => exact .setTrim _ _ (not_not.1 inUse)

theorem setAutotrim_effect : Effect s (setAutotrim l ps s).1 := by
  unfold setAutotrim
  split
  · exact .nothing
  · split
    · exact .nothing
    · next inUse => exact .setAutotrim _ _ _ _ (not_not.1 inUse)

theorem markAbsent_effect : Effect s (markAbsent l ps s).1 := by
  unfold markAbsent
  split
  · exact .nothing
  · split
    · exact .nothing
    · next loaded => exact .markAbsent _ (not_not.1 loaded)

theorem markPresent_effect : Effect s (markPresent l ps s).1 := by
  unfold markPresent
  split
  · exact .nothing
  · split
    · exact .nothing
    · next absent => exact .reload _ (inUse_iff.2 (by simp [not_not.1 absent]))

theorem closeZone_effect : Effect s (closeZone l ps s).1 := by
  unfold closeZone
  split
  · exact .nothing
  · split
    · exact .nothing
    · next loaded =>
      split
      · exact .nothing
      · split
        · exact .nothing
        · exact .closeZone _ (not_not.1 loaded)

theorem reopenZone_effect : Effect s (reopenZone l ps s).1 := by
  unfold reopenZone
  split
  · exact .nothing
  · split
    · exact .nothing
    · next closed =>
      split
      · exact .nothing
      · exact .reload _ (inUse_iff.2 (by simp [not_not.1 closed]))

theorem releaseZone_effect : Effect s (releaseZone l ps s).1 := by
  unfold releaseZone
  split
  · exact .nothing
  · split
    · exact .nothing
    · next inUse =>
      dsimp only
      split
      · next unpinned => exact .releaseFree _ (not_not.1 inUse) unpinned
      · next pinned => exact .releaseRetiring _ (not_not.1 inUse) pinned

theorem sweep_effect : Effect s (sweep l ps s).1 := by
  unfold sweep
  split
  · exact .nothing
  · exact .sweep _

theorem loadStrategy_effect : Effect s (loadStrategy l ps s).1 := by
  unfold loadStrategy
  split
  · exact .nothing
  · split
    · exact .nothing
    · split
      · exact .nothing
      · next free => exact .loadStrategy _ _ (Bool.eq_false_iff.2 free)

theorem releaseStrategy_effect : Effect s (releaseStrategy l ps s).1 := by
  unfold releaseStrategy
  split
  · exact .nothing
  · split
    · exact .nothing
    · split
      · exact .nothing
      · next unnamed => exact .releaseStrategy _ (Nat.eq_zero_of_not_pos unnamed)

theorem openStream_effect : Effect s (openStream l ps s).1 := by
  unfold openStream
  split
  · split
    · exact .nothing
    · exact .openStream _ _ _
  · exact .nothing

theorem closeStream_effect : Effect s (closeStream l ps s).1 := by
  unfold closeStream
  dsimp only
  split
  · exact .nothing
  · split
    · exact .nothing
    · split
      · exact .nothing
      · exact .closeStream _

theorem addGuard_effect : Effect s (addGuard l ps s).1 := by
  unfold addGuard
  split
  · exact .nothing
  · split
    · exact .nothing
    · next room =>
      split
      · exact .nothing
      · split
        · exact .nothing
        · exact .addGuard _ (Nat.not_le.1 room)

theorem removeGuard_effect : Effect s (removeGuard l ps s).1 := by
  unfold removeGuard
  split
  · exact .nothing
  · split
    · exact .nothing
    · split
      · exact .nothing
      · split
        · exact .nothing
        · exact .removeGuard _

theorem loadLayer_effect : Effect s (loadLayer l ps s).1 := by
  unfold loadLayer
  dsimp only
  split
  · exact .nothing
  · split
    · exact .nothing
    · split
      · split
        · exact .nothing
        · exact .setLayer _ _
      · split
        · split
          · exact .nothing
          · exact .resettle _ _
        · exact .setLayer _ _

theorem loadLaserModel_effect : Effect s (loadLaserModel l ps s).1 := by
  unfold loadLaserModel
  dsimp only
  split
  · exact .nothing
  · split
    · exact .nothing
    · next off => exact .loadLaserModel _ (not_not.1 off)

theorem loadCeilings_effect : Effect s (loadCeilings l ps s).1 := by
  unfold loadCeilings
  dsimp only
  split
  · exact .nothing
  · split
    · exact .nothing
    · next off => exact .loadCeilings _ (not_not.1 off)

theorem laserOn_effect : Effect s (laserOn l ps s).1 := by
  unfold laserOn
  split
  · exact .nothing
  · split
    · exact .nothing
    · next off =>
      split
      · exact .nothing
      · dsimp only [done]
        split
        · exact .laserOnHot (not_not.1 off)
        · exact .laserOn (not_not.1 off)

theorem laserOff_effect : Effect s (laserOff l ps s).1 := by
  unfold laserOff
  split
  · exact .nothing
  · exact .laserOff

theorem clearFault_effect : Effect s (clearFault l ps s).1 := by
  unfold clearFault
  split
  · exact .nothing
  · next fault =>
    split
    · exact .nothing
    · exact .clearFault (not_not.1 fault)

theorem ackEvents_effect : Effect s (ackEvents l ps s).1 := by
  unfold ackEvents
  split
  · exact .nothing
  · exact .ackEvents _

theorem setPermissions_effect : Effect s (setPermissions l ps s).1 := by
  unfold setPermissions
  split
  · exact .nothing
  · next known => exact .setPermissions _ (not_not.1 known)

theorem setAlertMode_effect : Effect s (setAlertMode l ps s).1 := by
  unfold setAlertMode
  split
  · exact .nothing
  · exact .setAlertMode _

end

/-! ### The rows that are no commands -/

section
variable (s : State)

theorem generalCallByte_acts (taken : Bool) (b : Byte) (p : Port) : Acts s ((s.withPort p).generalCallByte taken b) := by
  unfold State.generalCallByte
  split_ifs
  · exact (Effect.allStop _).acts
  · exact acts_port s _

theorem enroll_effect (a : Announcement) : Effect s (s.enroll a) := by
  unfold State.enroll
  split
  · exact .refuse _ _
  · next admitted => exact .enroll a admitted

theorem quality_effect (layer : LayerNo) (block : Nat) (beta : Int) : Effect s (s.quality layer block beta) := by
  unfold State.quality
  dsimp only
  split
  · exact .nothing
  · next i found =>
    have inUse := (covers_iff.1 (covers_of_lookUp found)).1
    split_ifs
    · exact .nothing
    · exact .trimStep i 1 inUse
    · exact .trimStep i (-1) inUse
    · exact .nothing

theorem take_effect (m : LinkMessage) : Effect s (s.take m) := by
  cases m with
  | announce a => exact enroll_effect s a
  | abort scope => exact .abort _
  | quality layer block beta => exact quality_effect s layer block beta

theorem endFrame_effect (m : Option LinkMessage) : Effect s (s.endFrame m) := by
  obtain ⟨-, h⟩ | ⟨-, -, h⟩ | ⟨msg, -, -, h⟩ := endFrame_cases s m <;> rw [h]
  · exact .staleFrame
  · exact .malformed
  · exact take_effect s msg

end

/-- Every row of the table makes one of the changes, and answers the port. -/
theorem exec_acts {c : Instr} {s t : State} (h : exec c s = .next t) : Acts s t := by
  cases c with
  | powerOn p =>
    obtain rfl := Host.Outcome.next.inj h
    exact (Effect.atReset p).acts
  | rstnLow =>
    obtain rfl := Host.Outcome.next.inj h
    exact Effect.holdInReset.acts
  | rstnRelease p =>
    obtain rfl := Host.Outcome.next.inj h
    split
    · exact (Effect.atReset p).acts
    · exact Effect.nothing.acts
  | addressByte b =>
    refine acts_of_running h ?_
    beta_reduce
    split
    · exact Effect.nothing.acts
    · exact acts_port s _
  | writeTransferEnd =>
    refine acts_of_running h ?_
    beta_reduce
    split
    · exact Effect.nothing.acts
    · exact acts_port s _
  | commandMessageByte b =>
    refine acts_of_running h ?_
    beta_reduce
    split
    · exact Effect.nothing.acts
    · split
      · exact acts_port s _
      · exact generalCallByte_acts s _ _ s.port
      · exact Effect.nothing.acts
      · exact Effect.nothing.acts
  | allStop =>
    refine acts_of_running h ?_
    beta_reduce
    split
    · exact Effect.nothing.acts
    · split
      · exact generalCallByte_acts s _ _ s.port
      · exact generalCallByte_acts s _ _ _
  | busTimeout =>
    refine acts_of_running h ?_
    beta_reduce
    split
    · exact Effect.nothing.acts
    · exact (Effect.busTimeout _).acts
  | commandCompletion =>
    refine acts_of_running h ?_
    beta_reduce
    split
    · exact acts_port s _
    · exact Effect.nothing.acts
  | loadZone => exact execute_acts h fun l ps => loadZone_effect l ps s
  | setPowers => exact execute_acts h fun l ps => setPowers_effect l ps s
  | setTrimAbsolute => exact execute_acts h fun _ ps => setTrimTo_effect ps s _
  | setTrimShort => exact execute_acts h fun _ ps => setTrimTo_effect ps s _
  | setAutotrim => exact execute_acts h fun l ps => setAutotrim_effect l ps s
  | markAbsent => exact execute_acts h fun l ps => markAbsent_effect l ps s
  | markPresent => exact execute_acts h fun l ps => markPresent_effect l ps s
  | closeZone => exact execute_acts h fun l ps => closeZone_effect l ps s
  | reopenZone => exact execute_acts h fun l ps => reopenZone_effect l ps s
  | releaseZone => exact execute_acts h fun l ps => releaseZone_effect l ps s
  | readZone => exact execute_acts_of_read h fun _ _ => readZone_state ..
  | findZone => exact execute_acts_of_read h fun _ _ => findZone_state ..
  | sweep => exact execute_acts h fun l ps => sweep_effect l ps s
  | loadStrategy => exact execute_acts h fun l ps => loadStrategy_effect l ps s
  | releaseStrategy => exact execute_acts h fun l ps => releaseStrategy_effect l ps s
  | readStrategy => exact execute_acts_of_read h fun _ _ => readStrategy_state ..
  | openStream => exact execute_acts h fun l ps => openStream_effect l ps s
  | closeStream => exact execute_acts h fun l ps => closeStream_effect l ps s
  | readStream => exact execute_acts_of_read h fun _ _ => readStream_state ..
  | addGuard => exact execute_acts h fun l ps => addGuard_effect l ps s
  | removeGuard => exact execute_acts h fun l ps => removeGuard_effect l ps s
  | listGuards => exact execute_acts_of_read h fun _ _ => listGuards_state ..
  | loadLayer => exact execute_acts h fun l ps => loadLayer_effect l ps s
  | readPickup => exact execute_acts_of_read h fun _ _ => readPickup_state ..
  | loadLaserModel => exact execute_acts h fun l ps => loadLaserModel_effect l ps s
  | loadCeilings => exact execute_acts h fun l ps => loadCeilings_effect l ps s
  | laserOn => exact execute_acts h fun l ps => laserOn_effect l ps s
  | laserOff => exact execute_acts h fun l ps => laserOff_effect l ps s
  | clearFault => exact execute_acts h fun l ps => clearFault_effect l ps s
  | readLaser => exact execute_acts_of_read h fun _ _ => readLaser_state ..
  | ackEvents => exact execute_acts h fun l ps => ackEvents_effect l ps s
  | setPermissions => exact execute_acts h fun l ps => setPermissions_effect l ps s
  | setAlertMode => exact execute_acts h fun l ps => setAlertMode_effect l ps s
  | readEvents => exact execute_acts_of_read h fun _ _ => readEvents_state ..
  | inquire => exact execute_acts_of_read h fun _ _ => inquire_state ..
  | reset r =>
    refine acts_of_running h ?_
    beta_reduce
    split
    · split_ifs
      · exact (Effect.resetCommand r).acts
      · exact acts_port s _
      · exact Effect.nothing.acts
    · exact Effect.nothing.acts
  | unmount => exact execute_acts h fun _ _ => .unmount
  | announce tag packed stp start run => exact acts_of_running h (endFrame_effect s _).acts
  | abort scope => exact acts_of_running h (endFrame_effect s _).acts
  | quality layer block beta => exact acts_of_running h (endFrame_effect s _).acts
  | malformedMessage bytes whole => exact acts_of_running h (endFrame_effect s _).acts
  | replySend => exact acts_of_running h Effect.replySend.acts
  | translationComplete =>
    refine acts_of_running h ?_
    beta_reduce
    split
    · next tag inFlight =>
      split
      · next e found => exact (Effect.translation tag e inFlight found).acts
      · exact Effect.nothing.acts
    · exact Effect.nothing.acts
  | levelComputationComplete =>
    refine acts_of_running h ?_
    beta_reduce
    split
    · next i inFlight => exact (Effect.levelComputation i inFlight).acts
    · exact Effect.nothing.acts
    · exact Effect.nothing.acts
  | idleComputationComplete =>
    refine acts_of_running h ?_
    beta_reduce
    split
    · next i inFlight => exact (Effect.idleComputation i inFlight).acts
    · exact Effect.nothing.acts
  | bgateRise =>
    refine acts_of_running h ?_
    beta_reduce
    split
    · exact Effect.nothing.acts
    · next low =>
      have low : s.gate.high = false := by simpa using low
      split
      · next e taken => exact (Effect.rise e low taken).acts
      · next empty => exact (Effect.riseEmpty low empty).acts
  | bgateFall =>
    refine acts_of_running h ?_
    beta_reduce
    split
    · next high =>
      split
      · next r record => exact (Effect.fall r high record).acts
      · next record => exact (Effect.fallEmpty high record).acts
    · exact Effect.nothing.acts
  | wdataTransition periods =>
    refine acts_of_running h ?_
    beta_reduce
    split
    · next w active => exact (Effect.transition w periods active).acts
    · exact Effect.nothing.acts
  | markStart fmon => exact acts_of_running h (Effect.markStart fmon).acts
  | patternStepEnd fmon => exact acts_of_running h (Effect.stepEnd fmon).acts
  | settleEnd =>
    refine acts_of_running h ?_
    beta_reduce
    split
    · next source target left moving => exact (Effect.settleEnd source target left moving).acts
    · exact Effect.nothing.acts
  | warmUpExpiry =>
    refine acts_of_running h ?_
    beta_reduce
    split
    · next standby => exact (Effect.warmUp standby.1).acts
    · exact Effect.nothing.acts
  | loffAsserted => exact acts_of_running h Effect.loffAsserted.acts
  | loffReleased => exact acts_of_running h Effect.loffReleased.acts
  | temperatureSample temp => exact acts_of_running h (Effect.temperature temp).acts
  | gateLimitExpiry =>
    refine acts_of_running h ?_
    beta_reduce
    split
    · next writing => exact (Effect.gateLimit writing.1).acts
    · exact Effect.nothing.acts
  | pllLosesLock => exact acts_of_running h Effect.pllLost.acts
  | pllRegainsLock => exact acts_of_running h Effect.pllRegained.acts
  | lossTimerExpiry =>
    refine acts_of_running h ?_
    beta_reduce
    split
    · exact Effect.lossTimer.acts
    · exact Effect.nothing.acts
  | blockSample fmon => exact acts_of_running h (Effect.blockSample fmon).acts
  | idleSampleTimerExpiry fmon => exact acts_of_running h (Effect.idleSample fmon).acts
  | conversionComplete =>
    refine acts_of_running h ?_
    beta_reduce
    split
    · next c inFlight => exact (Effect.conversion c inFlight).acts
    · exact Effect.nothing.acts
  | alertPulseEnd => exact acts_of_running h Effect.pulseEnd.acts

/-- What every change and every microsecond keeps, with neither port nor waiting commands in it, every step keeps. -/
theorem step_keeps {P : State → Prop} (port : ∀ s p, P s → P (s.withPort p)) (pending : ∀ s q, P s → P (s.withPending q))
    (tick : ∀ s, P s → P s.tick) (effect : ∀ s u, Effect s u → P s → P u) {s t : State} (h : step s = .next t) (hs : P s) :
    P t := by
  unfold step at h
  split at h
  · next c rest _ =>
    obtain ⟨u, p, acts, rfl⟩ := exec_acts h
    exact port u p (effect _ u acts (pending s rest hs))
  · obtain rfl := Host.Outcome.next.inj h
    exact tick s hs

end Sys2Proof.Laws

/-!
PROOFS. What a change does to the zone and the strategy table: a few elementary writes, one after the other. The invariants of the tables
are kept by each of them.
-/

namespace Sys2Proof.Laws

open Sys2Proof Sys2Proof.Machine

/-! ### The elementary writes -/

/-- The trim and the auto-trim setting of a descriptor are in their ranges (R14, R23). -/
def ZoneInRange (z : Zone) : Prop :=
  (-128 ≤ z.trim ∧ z.trim ≤ 127) ∧ -100 ≤ z.target ∧ z.target ≤ 100 ∧ z.deadband ≤ 20

/-- From z to z' a descriptor keeps its place, its strategy and whether it is Free, comes into no use, and stays in its ranges. -/
structure ZoneEdited (z z' : Zone) : Prop where
  place : z'.layer = z.layer ∧ z'.first = z.first ∧ z'.last = z.last
  strategy : z'.strategy = z.strategy
  free : z'.state = .free ↔ z.state = .free
  inUse : z'.inUse = true → z.inUse = true
  range : ZoneInRange z → ZoneInRange z'

/-- Every descriptor is edited, and the strategies are left alone. -/
structure Edited (s t : State) : Prop where
  zones : ∀ j, ZoneEdited (s.zone j) (t.zone j)
  strategies : t.strategies = s.strategies

/-- What becomes of the two tables, write by write. -/
inductive Tables : State → State → Prop
  | edit {s t : State} (h : Edited s t) : Tables s t
  | free {s t : State} (i : ZoneSlot) (named : (s.zone i).state ≠ .free) (zones : t.zones = (s.freeZone i).zones)
      (strategies : t.strategies = (s.freeZone i).strategies) : Tables s t
  | loadZone {s : State} (d : ZoneLoad) (free : (s.zone d.slot).state = .free)
      (apart : ¬ s.zoneOverlap d.layer d.first d.last = true) (serves : s.strategyServes d = true) :
      Tables s ((s.addRef d.strategy).setZone d.slot d.zone)
  | loadStrategy {s : State} (k : StrategySlot) (r : StrategyRecord) (free : (s.strategy k).loaded = false) :
      Tables s (s.setStrategy k ⟨true, 0, r⟩)
  | releaseStrategy {s : State} (k : StrategySlot) (unnamed : (s.strategy k).refs = 0) :
      Tables s (s.setStrategy k Strategy.freeContent)
  | clear {s t : State} (zones : ∀ i, t.zone i = Zone.freeContent) (strategies : ∀ k, t.strategy k = Strategy.freeContent) :
      Tables s t
  | trans {s t u : State} (first : Tables s t) (second : Tables t u) : Tables s u

/-! ### Which operations make which writes -/

theorem ZoneEdited.refl (z : Zone) : ZoneEdited z z := ⟨⟨rfl, rfl, rfl⟩, rfl, .rfl, id, id⟩

/-- One descriptor is edited. -/
theorem Edited.setZone {s : State} {i : ZoneSlot} {z : Zone} (h : ZoneEdited (s.zone i) z) : Edited s (s.setZone i z) where
  zones j := by
    rw [setZone_zone]
    split
    · next same => exact same ▸ h
    · exact .refl _
  strategies := by simp

theorem Edited.pins (s : State) (i : ZoneSlot) (n : Nat) : Edited s (s.setZone i { s.zone i with pins := n }) :=
  .setZone ⟨⟨rfl, rfl, rfl⟩, rfl, .rfl, id, id⟩

theorem zone_congr {s t : State} (h : t.zones = s.zones) (i : ZoneSlot) : t.zone i = s.zone i := by simp [State.zone, h]

theorem strategy_congr {s t : State} (h : t.strategies = s.strategies) (k : StrategySlot) : t.strategy k = s.strategy k := by
  simp [State.strategy, h]

section
variable {s t u : State}

theorem Tables.same (zones : t.zones = s.zones) (strategies : t.strategies = s.strategies) : Tables s t :=
  .edit ⟨fun j => by rw [zone_congr zones]; exact .refl _, strategies⟩

theorem Tables.refl (s : State) : Tables s s := .same rfl rfl

/-- What is done to the tables is not of the other blocks. -/
theorem Tables.congr (h : Tables s t) (zones : u.zones = t.zones) (strategies : u.strategies = t.strategies) : Tables s u :=
  h.trans (.same zones strategies)

theorem Tables.unpin (s : State) (i : ZoneSlot) : Tables s (s.unpin i) := by
  by_cases h : (s.zone i).state = .retiring ∧ (s.zone i).pins ≤ 1
  · rw [unpin_of_freed s i h]
    exact .free i (by simp [h.1]) (by simp) (by simp)
  · rw [unpin_of_kept s i h]
    exact .edit (.pins s i _)

theorem removeEntries_tables (s : State) (p : Entry → Bool) :
    (s.removeEntries p).zones = (s.unpinAll ((s.queue.filter p).flatMap Entry.slots)).zones ∧
      (s.removeEntries p).strategies = (s.unpinAll ((s.queue.filter p).flatMap Entry.slots)).strategies ∧
      (s.removeEntries p).alert = (s.unpinAll ((s.queue.filter p).flatMap Entry.slots)).alert := by
  simp only [State.removeEntries]
  (repeat' split) <;> exact ⟨rfl, rfl, rfl⟩

end

/-- A rise that serves, before its requests and its laser: the record, the entry, the stream counter and the set handed to the output
(R81, R86, R90). -/
def risen (s : State) (e : Entry) (set : LevelSet) : State :=
  let s1 := (s.withGate { high := true, record := some (e.record (e.slotFor e.next) .served) }).replaceEntry
    { e.taken with served := e.served + 1 }
  (s1.setStream e.stream ((s1.stream e.stream).countServe e.layer e.next)).withLevels (s1.levels.handOff set)

/-- The clamp requests of a set (R44). -/
def clampsRaised (s : State) (set : LevelSet) : State :=
  (s.raiseIf set.powerClamped .pclamp).raiseIf set.currentClamped .iclamp

theorem serveBlock_eq (s : State) (e : Entry) (set : LevelSet) : s.serveBlock e set =
    if e.writes then
      ((clampsRaised (risen s e set) set).withMonitor (s.monitor.atServe .writing)).startWriting (e.slotFor e.next)
        set.writeLevels
    else ((clampsRaised (risen s e set) set).withMonitor (s.monitor.atServe .reading)).startReading := by
  have monitor : (clampsRaised (risen s e set) set).monitor = s.monitor := by simp [clampsRaised, risen]
  rw [← monitor]
  rfl

/-! ### What the shared operations make of the books

A property of the two tables, the reply store and the alert unit alone that survives a translation removed, a reply produced and a request
raised survives every operation that is made of these. -/

structure BookRule (R : State → Prop) : Prop where
  frame {s t : State} (zones : t.zones = s.zones) (strategies : t.strategies = s.strategies) (link : t.link = s.link)
    (alert : t.alert = s.alert) (h : R s) : R t
  unpin {s : State} (i : ZoneSlot) (h : R s) : R (s.unpin i)
  produce {s : State} (r : Reply) (h : R s) : R (s.produce r)
  raise {s : State} (f : RequestFlag) (h : R s) : R (s.raise f)

namespace BookRule

variable {R : State → Prop} {t : State} (rule : BookRule R) (h : R t)
include rule h

theorem raiseIf (c : Bool) (f : RequestFlag) : R (t.raiseIf c f) := by
  unfold State.raiseIf
  split
  · exact rule.raise f h
  · exact h

theorem produceRevokes (rs : List Reply) : R (t.produceRevokes rs) := by
  refine rule.raiseIf ?_ _ _
  unfold State.produceAll
  induction rs generalizing t with
  | nil => exact h
  | cons r rs ih => exact ih (rule.produce r h)

theorem unpinAll (is : List ZoneSlot) : R (t.unpinAll is) := by
  unfold State.unpinAll
  induction is generalizing t with
  | nil => exact h
  | cons i is ih => exact ih (rule.unpin i h)

theorem removeEntries (p : Entry → Bool) : R (t.removeEntries p) := by
  obtain ⟨zones, strategies, alert⟩ := removeEntries_tables t p
  exact rule.frame zones strategies (by simp) alert (rule.unpinAll h _)

theorem queueChanged : R t.queueChanged := rule.frame (by simp) (by simp) (by simp) (by simp) h

theorem revoke (reason : RevokeReason) (cut : Entry → Option Nat) : R (t.revoke reason cut) := by
  rw [revoke_eq]
  refine rule.removeEntries (rule.frame ?_ ?_ ?_ ?_ (rule.produceRevokes h (revokesOf t reason cut))) _ <;> rfl

theorem dropSlot (i : ZoneSlot) (considered : Entry → Bool) : R (t.dropSlot i considered) := by
  unfold State.dropSlot
  refine rule.unpinAll (rule.frame ?_ ?_ ?_ ?_ h) _ <;> rfl

theorem entryTrigger (reason : RevokeReason) (m : Entry → Bool) : R (t.entryTrigger reason m) :=
  rule.queueChanged (rule.revoke h reason _)

theorem guardTrigger (g : Guard) : R (t.guardTrigger g) := rule.queueChanged (rule.revoke h _ _)

theorem zoneTrigger (i : ZoneSlot) (reason : RevokeReason) (considered : Entry → Bool) :
    R (t.zoneTrigger i reason considered) :=
  rule.queueChanged (rule.dropSlot (rule.revoke h reason _) i _)

theorem flush (reason : RevokeReason) : R (t.flush reason) :=
  rule.queueChanged (rule.removeEntries (rule.produceRevokes h _) _)

theorem darken (dest : LaserState) : R (t.darken dest) := rule.frame (by simp) (by simp) (by simp) (by simp) h

theorem turnOff (reason : RevokeReason) : R (t.turnOff reason) := by
  unfold State.turnOff
  split
  · exact rule.flush (rule.darken h _) reason
  · exact h

theorem withLaser (l : Laser) : R (t.withLaser l) := rule.frame (by simp) (by simp) (by simp) (by simp) h

theorem enterFault (cause : FaultCause) : R (t.enterFault cause) :=
  rule.raise _ (rule.flush (rule.darken (rule.withLaser h _) _) _)

theorem furtherFault : R t.furtherFault := by
  unfold State.furtherFault
  split
  · exact h
  · exact rule.raise _ (rule.withLaser h _)

theorem faultCondition (cause : FaultCause) : R (t.faultCondition cause) := by
  unfold State.faultCondition
  split
  · exact rule.enterFault h cause
  · split
    · exact rule.furtherFault h
    · exact h

theorem overLimitAct (previous : Bool) : R (t.overLimitAct previous) := by
  unfold State.overLimitAct
  split
  · exact rule.enterFault h _
  · split
    · exact rule.furtherFault h
    · exact h

theorem warn : R t.warn := by
  unfold State.warn
  split
  · split
    · exact rule.raise _ (rule.withLaser h _)
    · split
      · exact rule.withLaser h _
      · exact h
  · exact h

theorem sampled (temp : Int) : R (sampled temp t) := by
  have taken : R (t.takeSample temp).warn := rule.warn (rule.withLaser h _)
  unfold Laws.sampled
  dsimp only
  split
  · exact rule.frame (by simp) (by simp) (by simp) (by simp) (rule.overLimitAct taken t.laser.overLimit)
  · exact rule.frame (by simp) (by simp) (by simp) (by simp) taken

theorem formReadDrive : R t.formReadDrive := by
  unfold State.formReadDrive
  split
  · exact rule.raiseIf (rule.withLaser h _) _ _
  · exact rule.withLaser h _

theorem enterIdle : R t.enterIdle :=
  rule.formReadDrive (rule.frame (by simp) (by simp) (by simp) (by simp) h)

theorem unlockRevoke : R t.unlockRevoke := by
  unfold State.unlockRevoke
  dsimp only
  refine rule.queueChanged (rule.frame (withLevels_zones ..) (withLevels_strategies ..) (withLevels_link ..)
    (withLevels_alert ..) ?_)
  split
  · split
    · exact rule.removeEntries (rule.produceRevokes h _) _
    · exact h
  · exact h

theorem enterUnlocked : R t.enterUnlocked := by
  unfold State.enterUnlocked
  dsimp only
  split
  · exact rule.unlockRevoke (rule.enterIdle (rule.raise _ (rule.withLaser h _)))
  · exact rule.raise _ (rule.withLaser h _)

theorem loseLock : R t.loseLock := by
  unfold State.loseLock
  split
  · split
    · exact rule.enterUnlocked h
    · exact rule.withLaser h _
  · exact h
  · exact h

theorem setApc (apc : Int) : R (t.setApc apc) := by
  unfold State.setApc
  dsimp only
  split
  · exact h
  · split
    · exact rule.formReadDrive (rule.frame (by simp) (by simp) (by simp) (by simp) h)
    · exact rule.frame (by simp) (by simp) (by simp) (by simp) h

theorem completeConversion (c : Conversion) : R (t.completeConversion c) := by
  have compared : R ((t.withMonitor { t.monitor with conversion := none }).compare c) := by
    unfold State.compare
    dsimp only
    split
    · exact rule.faultCondition (rule.frame (by simp) (by simp) (by simp) (by simp) h) _
    · exact rule.frame (by simp) (by simp) (by simp) (by simp) h
  unfold State.completeConversion
  dsimp only
  split
  · unfold State.apcStep
    split
    · exact rule.setApc compared _
    · exact compared
  · split
    · exact compared
    · exact rule.frame (by simp) (by simp) (by simp) (by simp) h

theorem complete (e : Entry) : R (t.complete e) := rule.removeEntries (rule.produce _ h) _

theorem completeTranslation (pin : ∀ s i, R s → R (s.pin i)) (e : Entry) : R (t.completeTranslation e) := by
  unfold State.completeTranslation
  refine rule.queueChanged ?_
  split
  · exact rule.raise _ (rule.produce _ (rule.removeEntries h _))
  · next m _ =>
    have pinAll : ∀ (is : List ZoneSlot) (s : State), R s → R (is.foldl State.pin s) := fun is => by
      induction is with
      | nil => exact fun _ hs => hs
      | cons i is ih => exact fun s hs => ih _ (pin s i hs)
    have pinned : R ((((e.accept m).slots.foldl State.pin t).replaceEntry (e.accept m)).produce
        (.accept (e.accept m).tag m.run m.secondary.isSome)) :=
      rule.produce _ (rule.frame (by simp) (by simp) (by simp) (by simp) (pinAll (e.accept m).slots t h))
    unfold State.acceptEntry
    dsimp only
    split
    · exact rule.complete pinned _
    · exact pinned

theorem endEntry (e : Entry) (ended : Bool) : R (t.endEntry e ended) := by
  unfold State.endEntry
  split
  · exact rule.removeEntries h _
  · split
    · exact rule.complete h _
    · exact h

theorem fallOn (r : BlockRecord) : R (t.fallOn r) := by
  have returned : R t.returnToIdle := by
    unfold State.returnToIdle
    split
    · exact rule.enterIdle h
    · exact h
  unfold State.fallOn
  dsimp only
  refine rule.queueChanged (rule.frame (withGate_zones ..) (withGate_strategies ..) (withGate_link ..) (withGate_alert ..) ?_)
  split
  · next e _ =>
    refine rule.endEntry (rule.unpinAll ?_ _) _ _
    exact rule.frame (by simp) (by simp) (by simp) (by simp) returned
  · exact returned

theorem riseOn (written : ∀ s slot, R s → R (s.markWritten slot)) (e : Entry) : R (t.riseOn e) := by
  unfold State.riseOn
  refine rule.frame (retarget_zones _) (retarget_strategies _) (retarget_link _) (retarget_alert _) ?_
  split
  · refine rule.raise _ (rule.produce _ ?_)
    exact rule.frame (by simp) (by simp) (by simp) (by simp) h
  · next set _ =>
    have risen : R (clampsRaised (risen t e set) set) :=
      rule.raiseIf (rule.raiseIf (rule.frame (by simp [Laws.risen]) (by simp [Laws.risen]) (by simp [Laws.risen])
        (by simp [Laws.risen]) h) _ _) _ _
    rw [serveBlock_eq]
    split
    · exact written _ _ (rule.frame (by simp) (by simp) (by simp) (by simp) risen)
    · exact rule.formReadDrive (rule.frame (by simp) (by simp) (by simp) (by simp) risen)

end BookRule

section
variable {s t u : State}

/-- The writes of the tables are such a property. -/
theorem tables_bookRule (s : State) : BookRule (Tables s) where
  frame zones strategies _ _ h := h.congr zones strategies
  unpin i h := h.trans (.unpin _ i)
  produce _ h := h.congr (by simp) (by simp)
  raise _ h := h.congr (by simp) (by simp)

theorem Tables.markWritten (h : Tables s t) (slot : Option ZoneSlot) : Tables s (t.markWritten slot) := by
  cases slot with
  | none => exact h
  | some i => exact h.trans (.edit (.setZone ⟨⟨rfl, rfl, rfl⟩, rfl, .rfl, id, id⟩))

theorem clampInt_mem {lo hi : Int} (h : lo ≤ hi) (x : Int) : lo ≤ clampInt lo hi x ∧ clampInt lo hi x ≤ hi := by
  unfold clampInt
  omega

theorem Tables.trimStep (s : State) (i : ZoneSlot) (d : Int) : Tables s (s.trimStep i d) := by
  unfold State.trimStep
  dsimp only
  split
  · next within =>
    have edited : ZoneEdited (s.zone i) { s.zone i with trim := (s.zone i).trim + d } :=
      ⟨⟨rfl, rfl, rfl⟩, rfl, .rfl, id, fun h => ⟨within, h.2⟩⟩
    exact (Tables.edit (.setZone edited)).congr (handOn_zones ..) (handOn_strategies ..)
  · split
    · exact .refl s
    · have edited : ZoneEdited (s.zone i) { s.zone i with trimLimit := true } := ⟨⟨rfl, rfl, rfl⟩, rfl, .rfl, id, id⟩
      exact (Tables.edit (.setZone edited)).congr (raise_zones ..) (raise_strategies ..)

theorem Edited.setZoneState {i : ZoneSlot} {st : ZoneState} (inUse : (s.zone i).inUse = true) (notFree : st ≠ .free) :
    Edited s (s.setZoneState i st) :=
  .setZone ⟨⟨rfl, rfl, rfl⟩, rfl, iff_of_false notFree (inUse_iff.1 inUse).1, fun _ => inUse, id⟩

theorem inUse_of_loaded {z : Zone} (h : z.state = .loaded) : z.inUse = true := inUse_iff.2 (by simp [h])

/-- Every slot as before, but for its pins and, when it was Retiring, its becoming Free. -/
theorem zoneTrigger_zone_state (s : State) (i : ZoneSlot) (reason : RevokeReason) (considered : Entry → Bool) (j : ZoneSlot)
    (inUse : (s.zone j).inUse = true) : (s.zoneTrigger i reason considered).zone j =
      { s.zone j with pins := ((s.zoneTrigger i reason considered).zone j).pins } := by
  have cut : PinsDropped (cutState s reason _) (s.revoke reason fun e =>
      if considered e && e.translated && e.names i then e.firstIn (s.zone i).first (s.zone i).last else none) :=
    revoke_pinsDropped
  set u := s.revoke reason fun e =>
      if considered e && e.translated && e.names i then e.firstIn (s.zone i).first (s.zone i).last else none
  have kept : ∀ (v w : State), (∀ j, (w.zone j).pins ≤ (v.zone j).pins ∧
      (w.zone j = { v.zone j with pins := (w.zone j).pins } ∨ (v.zone j).state = .retiring ∧ w.zone j = Zone.freeContent)) →
      (v.zone j).inUse = true → w.zone j = { v.zone j with pins := (w.zone j).pins } := by
    rintro v w h inUse
    rcases (h j).2 with same | ⟨retiring, -⟩
    · exact same
    · exact absurd retiring (inUse_iff.1 inUse).2
  have first := kept _ _ cut.zones (by rwa [cutState_zone])
  rw [cutState_zone] at first
  have second := kept (u.withQueue _) _ (unpinAll_pinsDropped (u.withQueue (u.queue.map fun e =>
    if (considered e && e.translated) && e.names i then
      (if u.servesIn e (u.zone i).first (u.zone i).last then e.deferSlot i else e.withoutSlot i) else e))
    ((u.queue.filter fun e => ((considered e && e.translated) && e.names i) &&
      !u.servesIn e (u.zone i).first (u.zone i).last).map fun _ => i)).zones (by
        rw [zone_congr (withQueue_zones ..), first]; exact inUse)
  rw [zone_congr (withQueue_zones ..)] at second
  have whole : (s.zoneTrigger i reason considered).zone j = (u.dropSlot i fun e => considered e && e.translated).zone j :=
    zone_congr (queueChanged_zones _) j
  rw [whole]
  refine Eq.trans second ?_
  rw [first]
  rfl

end

theorem zone_of_replicate {s : State} (h : s.zones = Vector.replicate 128 Zone.freeContent) (i : ZoneSlot) :
    s.zone i = Zone.freeContent := by
  simp [State.zone, h]

theorem strategy_of_replicate {s : State} (h : s.strategies = Vector.replicate 16 Strategy.freeContent) (k : StrategySlot) :
    s.strategy k = Strategy.freeContent := by
  simp [State.strategy, h]

/-- UNMOUNT leaves the slots Free: the pins of the queue drop on Free slots (R28). -/
theorem unpinAll_free {s : State} (h : ∀ i, s.zone i = Zone.freeContent) (is : List ZoneSlot) :
    (∀ i, (s.unpinAll is).zone i = Zone.freeContent) ∧ (s.unpinAll is).strategies = s.strategies ∧
      (s.unpinAll is).alert = s.alert := by
  unfold State.unpinAll
  induction is generalizing s with
  | nil => exact ⟨h, rfl, rfl⟩
  | cons i is ih =>
    have kept : s.unpin i = s.setZone i Zone.freeContent := by
      rw [unpin_of_kept s i (by rw [h i]; decide), h i]
      rfl
    have free : ∀ j, (s.unpin i).zone j = Zone.freeContent := fun j => by
      rw [kept, setZone_zone, h j, ite_self]
    obtain ⟨zones, strategies, alert⟩ := ih free
    exact ⟨zones, by rw [List.foldl_cons, strategies, kept, setZone_strategies],
      by rw [List.foldl_cons, alert, kept, setZone_alert]⟩

/-- The state of UNMOUNT in which the tables are cleared and the queue is not flushed yet. -/
def tablesCleared (s : State) : State :=
  let s1 := if s.laser.state.on then s.darken .off else s
  let s2 := ((s1.withZones (Vector.replicate 128 Zone.freeContent)).withStrategies
    (Vector.replicate 16 Strategy.freeContent)).withGuards []
  s2.withStreams (mapTable s2.streams Stream.unmounted)

theorem unmounted_eq (s : State) : unmounted s = (tablesCleared s).flush .unmount := rfl

theorem unmounted_tables (s : State) :
    (∀ i, (unmounted s).zone i = Zone.freeContent) ∧ ∀ k, (unmounted s).strategy k = Strategy.freeContent := by
  rw [unmounted_eq, State.flush]
  set told := (tablesCleared s).produceRevokes _
  have free : ∀ i, told.zone i = Zone.freeContent := fun i => zone_of_replicate (by simp [told]; rfl) i
  obtain ⟨zones, strategies, -⟩ := unpinAll_free free ((told.queue.filter fun _ => true).flatMap Entry.slots)
  obtain ⟨sameZones, sameStrategies, -⟩ := removeEntries_tables told fun _ => true
  refine ⟨fun i => ?_, fun k => ?_⟩
  · rw [zone_congr (queueChanged_zones _), zone_congr sameZones, zones]
  · refine strategy_of_replicate ?_ k
    rw [queueChanged_strategies, sameStrategies, strategies]
    simp [told]
    rfl

/-- A change makes these writes of the tables. -/
theorem Effect.tables {s u : State} (h : Effect s u) : Tables s u := by
  have rule := tables_bookRule s
  cases h with
  | nothing => exact .refl s
  | atReset p => exact .clear (fun i => zone_of_replicate rfl i) (fun k => strategy_of_replicate rfl k)
  | holdInReset => exact .clear (fun i => zone_of_replicate rfl i) (fun k => strategy_of_replicate rfl k)
  | resetCommand r => exact .clear (fun i => zone_of_replicate rfl i) (fun k => strategy_of_replicate rfl k)
  | loadZone d free apart serves => exact .loadZone d free apart serves
  | setPowers i p inUse =>
    have edited : ZoneEdited (s.zone i) { s.zone i with powers := p } := ⟨⟨rfl, rfl, rfl⟩, rfl, .rfl, id, id⟩
    exact (Tables.edit (.setZone edited)).congr (handOn_zones ..) (handOn_strategies ..)
  | setTrim i v inUse =>
    have edited : ZoneEdited (s.zone i) { s.zone i with trim := clampInt (-128) 127 v, trimLimit := false } :=
      ⟨⟨rfl, rfl, rfl⟩, rfl, .rfl, id, fun h => ⟨clampInt_mem (by decide) v, h.2⟩⟩
    exact (Tables.edit (.setZone edited)).congr (handOn_zones ..) (handOn_strategies ..)
  | setAutotrim i on target deadband inUse =>
    have held := clampInt_mem (lo := -100) (hi := 100) (by decide) target
    exact .edit (.setZone ⟨⟨rfl, rfl, rfl⟩, rfl, .rfl, id, fun h => ⟨h.1, held.1, held.2, min_le_left ..⟩⟩)
  | reload i inUse => exact .edit (.setZoneState inUse (by decide))
  | markAbsent i loaded => exact rule.zoneTrigger (.edit (.setZoneState (inUse_of_loaded loaded) (by decide))) ..
  | closeZone i loaded => exact rule.zoneTrigger (.edit (.setZoneState (inUse_of_loaded loaded) (by decide))) ..
  | releaseFree i inUse unpinned =>
    refine (rule.zoneTrigger (.refl s) i _ _).trans (.free i ?_ rfl rfl)
    rw [zoneTrigger_zone_state s i _ _ i inUse]
    exact (inUse_iff.1 inUse).1
  | releaseRetiring i inUse pinned =>
    refine (rule.zoneTrigger (.refl s) i _ _).trans (.edit (.setZoneState ?_ (by decide)))
    rw [zoneTrigger_zone_state s i _ _ i inUse]
    exact inUse
  | sweep layer =>
    refine .edit ⟨fun j => ?_, rfl⟩
    rw [mapTable_zone]
    split
    · exact ⟨⟨rfl, rfl, rfl⟩, rfl, .rfl, id, id⟩
    · exact .refl _
  | loadStrategy k r free => exact .loadStrategy k r free
  | releaseStrategy k unnamed => exact .releaseStrategy k unnamed
  | closeStream n => exact rule.entryTrigger (.same (by simp) (by simp)) ..
  | addGuard g room => exact rule.guardTrigger (.same (by simp) (by simp)) _
  | laserOnHot off => exact rule.enterFault (.same (by simp [State.enterStandby]) (by simp [State.enterStandby])) _
  | laserOff => exact rule.turnOff (.refl s) _
  | unmount =>
    obtain ⟨zones, strategies⟩ := unmounted_tables s
    exact .clear zones strategies
  | allStop p => exact rule.turnOff (.same (by simp) (by simp)) _
  | abort m => exact rule.entryTrigger (.refl s) ..
  | trimStep i d inUse => exact .trimStep s i d
  | translation tag e inFlight found => exact rule.completeTranslation (.refl s) (fun t i h => h.trans (.edit (.pins t i _))) e
  | rise e low taken => exact rule.riseOn (.refl s) (fun _ slot h => h.markWritten slot) e
  | fall r high record => exact rule.fallOn (.refl s) r
  | loffAsserted => exact rule.turnOff (.same (by simp) (by simp)) _
  | temperature temp => exact rule.sampled (.refl s) temp
  | gateLimit writing => exact rule.enterFault (.refl s) _
  | pllLost => exact rule.loseLock (.same (by simp) (by simp))
  | lossTimer => exact rule.enterUnlocked (.refl s)
  | conversion c inFlight => exact rule.completeConversion (.refl s) c
  | openStream | removeGuard | setLayer | resettle | loadLaserModel | loadCeilings | laserOn | clearFault | ackEvents
  | setPermissions | setAlertMode | busTimeout | staleFrame | malformed | refuse | enroll | replySend | levelComputation
  | idleComputation | riseEmpty | fallEmpty | transition | markStart | stepEnd | settleEnd | warmUp | loffReleased
  | pllRegained | blockSample | idleSample | pulseEnd =>
    refine .same ?_ ?_ <;> simp [State.setLayer, State.enterStandby, State.leaveFault]

/-! ### The invariants of the tables -/

section
variable {s t : State}

theorem zonesDisjoint_of_places (h : ∀ j, (t.zone j).inUse = true → (s.zone j).inUse = true ∧
    (t.zone j).layer = (s.zone j).layer ∧ (t.zone j).first = (s.zone j).first ∧ (t.zone j).last = (s.zone j).last)
    (hs : s.ZonesDisjoint) : t.ZonesDisjoint := by
  intro i j hij useI useJ same
  obtain ⟨useI', layerI, firstI, lastI⟩ := h i useI
  obtain ⟨useJ', layerJ, firstJ, lastJ⟩ := h j useJ
  rw [firstI, lastI, firstJ, lastJ]
  exact hs i j hij useI' useJ' (by rw [← layerI, ← layerJ, same])

theorem freeZone_inUse {i j : ZoneSlot} (h : ((s.freeZone i).zone j).inUse = true) : (s.freeZone i).zone j = s.zone j := by
  rw [freeZone_zone] at h ⊢
  split at h
  · cases h
  · next other => rw [if_neg other]

/-- A loaded descriptor overlaps none in use, by the check of R9. -/
theorem zonesDisjoint_loadZone {d : ZoneLoad} (apart : ¬ s.zoneOverlap d.layer d.first d.last = true)
    (hs : s.ZonesDisjoint) : ((s.addRef d.strategy).setZone d.slot d.zone).ZonesDisjoint := by
  have clear : ∀ j, (s.zone j).inUse = true → (s.zone j).layer = d.layer →
      ¬ (d.first ≤ (s.zone j).last ∧ (s.zone j).first ≤ d.last) := fun j inUse layer meets =>
    apart (zoneOverlap_iff.2 ⟨j, inUse, layer, meets⟩)
  have zone : ∀ j, ((s.addRef d.strategy).setZone d.slot d.zone).zone j = if d.slot = j then d.zone else s.zone j := fun j => by
    rw [setZone_zone, addRef_zone]
  intro i j hij useI useJ same
  rw [zone] at useI same
  rw [zone] at useJ same
  rw [zone, zone]
  simp only [rangesOverlap, decide_eq_false_iff_not]
  by_cases atI : d.slot = i
  · have notJ : d.slot ≠ j := fun atJ => hij (atI.symm.trans atJ)
    rw [if_pos atI] at useI same
    rw [if_neg notJ] at useJ same
    rw [if_pos atI, if_neg notJ]
    exact clear j useJ same.symm
  · rw [if_neg atI] at useI same
    rw [if_neg atI]
    by_cases atJ : d.slot = j
    · rw [if_pos atJ] at useJ same
      rw [if_pos atJ]
      exact fun meets => clear i useI same meets.symm
    · rw [if_neg atJ] at useJ same
      rw [if_neg atJ]
      simpa [rangesOverlap] using hs i j hij useI useJ same

theorem Tables.zonesDisjoint (h : Tables s t) (hs : s.ZonesDisjoint) : t.ZonesDisjoint := by
  induction h with
  | edit h =>
    refine zonesDisjoint_of_places (fun j inUse => ?_) hs
    have edited := h.zones j
    exact ⟨edited.inUse inUse, edited.place⟩
  | free i named zones strategies =>
    refine zonesDisjoint_of_places (fun j inUse => ?_) hs
    rw [zone_congr zones] at inUse ⊢
    have same := freeZone_inUse inUse
    rw [same] at inUse ⊢
    exact ⟨inUse, rfl, rfl, rfl⟩
  | loadZone d free apart serves => exact zonesDisjoint_loadZone apart hs
  | loadStrategy k r free => exact hs
  | releaseStrategy k unnamed => exact hs
  | clear zones strategies => exact fun i j _ inUse => by rw [zones] at inUse; cases inUse
  | trans first second ih₁ ih₂ => exact ih₂ (ih₁ hs)

/-- The trims and auto-trim settings of all descriptors are in their ranges (R14, R23). -/
theorem Tables.inRange (h : Tables s t) (hs : ∀ i, ZoneInRange (s.zone i)) : ∀ i, ZoneInRange (t.zone i) := by
  have free : ZoneInRange Zone.freeContent := by unfold ZoneInRange; decide
  induction h with
  | edit h => exact fun i => (h.zones i).range (hs i)
  | free i named zones strategies =>
    intro j
    rw [zone_congr zones, freeZone_zone]
    split
    · exact free
    · exact hs j
  | loadZone d _ apart serves =>
    intro j
    rw [setZone_zone, addRef_zone]
    split
    · exact free
    · exact hs j
  | loadStrategy k r free => exact hs
  | releaseStrategy k unnamed => exact hs
  | clear zones strategies => exact fun i => by rw [zones]; exact free
  | trans first second ih₁ ih₂ => exact ih₂ (ih₁ hs)

/-! ### Reference counts (R49) -/

/-- The descriptor names the strategy. -/
def Zone.names (z : Zone) (k : StrategySlot) : Bool := decide (z.state ≠ .free ∧ z.strategy = some k)

theorem namedBy_eq (s : State) (k : StrategySlot) : s.namedBy k = zoneSlots.countP fun i => Zone.names (s.zone i) k := by
  rw [List.countP_eq_length_filter]
  rfl

theorem namedBy_congr {k : StrategySlot} (h : ∀ j, Zone.names (t.zone j) k = Zone.names (s.zone j) k) :
    t.namedBy k = s.namedBy k := by
  simp only [namedBy_eq, h]

/-- Two predicates that agree but at one element of a list without duplicates count alike but for that element. -/
theorem countP_add_of_agree {α : Type} {p q : α → Bool} {a : α} {l : List α} (nodup : l.Nodup) (mem : a ∈ l)
    (agree : ∀ b ∈ l, b ≠ a → p b = q b) : l.countP p + (q a).toNat = l.countP q + (p a).toNat := by
  induction l with
  | nil => cases mem
  | cons b l ih =>
    obtain ⟨notMem, nodup⟩ := List.nodup_cons.1 nodup
    have head : ∀ r : α → Bool, (b :: l).countP r = l.countP r + (r b).toNat := fun r => by
      rw [List.countP_cons]; cases r b <;> rfl
    rw [head, head]
    rcases List.mem_cons.1 mem with rfl | mem
    · have tail : l.countP p = l.countP q :=
        List.countP_congr fun c hc => by
          rw [agree c (List.mem_cons_of_mem _ hc) fun same => notMem (same ▸ hc)]
      omega
    · have atHead := agree b List.mem_cons_self fun same => notMem (same ▸ mem)
      have := ih nodup mem fun c hc => agree c (List.mem_cons_of_mem _ hc)
      rw [atHead]
      omega

/-- The count of the descriptors naming a strategy, when one slot changes. -/
theorem namedBy_add_of_slot {i : ZoneSlot} {k : StrategySlot} (h : ∀ j, i ≠ j → t.zone j = s.zone j) :
    t.namedBy k + (Zone.names (s.zone i) k).toNat = s.namedBy k + (Zone.names (t.zone i) k).toNat := by
  rw [namedBy_eq, namedBy_eq]
  exact countP_add_of_agree (p := fun j => Zone.names (t.zone j) k) (q := fun j => Zone.names (s.zone j) k)
    (List.nodup_finRange 128) (List.mem_finRange i) fun j _ hj => by rw [h j hj.symm]

theorem dropRef_strategy_eq (s : State) (named : Option StrategySlot) (k : StrategySlot) :
    (s.dropRef named).strategy k =
      if named = some k then { s.strategy k with refs := (s.strategy k).refs - 1 } else s.strategy k := by
  cases named with
  | none => rfl
  | some j =>
    simp only [State.dropRef, setStrategy_strategy, Option.some.injEq]
    split
    · next h => rw [h]
    · rfl

theorem freeZone_strategy (s : State) (i : ZoneSlot) (k : StrategySlot) :
    (s.freeZone i).strategy k = (s.dropRef (s.zone i).strategy).strategy k := rfl

/-- A slot made Free takes its name and its count away together (R49). -/
theorem refsCount_freeZone {i : ZoneSlot} (named : (s.zone i).state ≠ .free) (hs : s.RefsCount) : (s.freeZone i).RefsCount := by
  intro k
  obtain ⟨count, loaded⟩ := hs k
  have others : ∀ j, i ≠ j → (s.freeZone i).zone j = s.zone j := fun j hj => by rw [freeZone_zone, if_neg hj]
  have slots := namedBy_add_of_slot (k := k) others
  have freed : Zone.names ((s.freeZone i).zone i) k = false := by rw [freeZone_zone, if_pos rfl]; rfl
  rw [freed] at slots
  rw [freeZone_strategy, dropRef_strategy_eq]
  by_cases hk : (s.zone i).strategy = some k
  · have names : Zone.names (s.zone i) k = true := by simp [Zone.names, named, hk]
    rw [names] at slots
    simp only [Bool.toNat_true, Bool.toNat_false] at slots
    rw [if_pos hk]
    exact ⟨show (s.strategy k).refs - 1 = _ by omega, fun pos => loaded (show 0 < (s.strategy k).refs by dsimp only at pos; omega)⟩
  · have names : Zone.names (s.zone i) k = false := by simp [Zone.names, hk]
    rw [names] at slots
    simp only [Bool.toNat_false] at slots
    rw [if_neg hk]
    exact ⟨by omega, loaded⟩

/-- A slot loaded brings its name and its count together, for a strategy that is Loaded (R9, R10). -/
theorem refsCount_loadZone {d : ZoneLoad} (free : (s.zone d.slot).state = .free) (serves : s.strategyServes d = true)
    (hs : s.RefsCount) : ((s.addRef d.strategy).setZone d.slot d.zone).RefsCount := by
  intro k
  obtain ⟨count, loaded⟩ := hs k
  have others : ∀ j, d.slot ≠ j → ((s.addRef d.strategy).setZone d.slot d.zone).zone j = s.zone j := fun j hj => by
    rw [setZone_zone_ne _ _ _ _ hj, addRef_zone]
  have slots := namedBy_add_of_slot (k := k) others
  have unnamed : Zone.names (s.zone d.slot) k = false := by simp [Zone.names, free]
  have names : Zone.names (((s.addRef d.strategy).setZone d.slot d.zone).zone d.slot) k = decide (d.strategy = some k) := by
    rw [setZone_zone_self]
    simp [Zone.names, ZoneLoad.zone]
  rw [unnamed, names] at slots
  rw [setZone_strategy, addRef_strategy]
  by_cases hk : d.strategy = some k
  · simp only [hk, decide_true, Bool.toNat_true, Bool.toNat_false] at slots
    rw [if_pos hk]
    refine ⟨?_, fun _ => ?_⟩
    · simp only [hk]
      omega
    · simpa [State.strategyServes, hk] using serves
  · simp only [hk, decide_false, Bool.toNat_false] at slots
    rw [if_neg hk]
    exact ⟨by omega, loaded⟩

theorem refsCount_of_zones (zones : ∀ j k, Zone.names (t.zone j) k = Zone.names (s.zone j) k)
    (strategies : ∀ k, (t.strategy k).refs = (s.strategy k).refs ∧ (0 < (s.strategy k).refs → (t.strategy k).loaded = true))
    (hs : s.RefsCount) : t.RefsCount := fun k => by
  obtain ⟨refs, loaded⟩ := strategies k
  rw [namedBy_congr fun j => zones j k, refs]
  exact ⟨(hs k).1, loaded⟩

theorem Tables.refsCount (h : Tables s t) (hs : s.RefsCount) : t.RefsCount := by
  induction h with
  | edit h =>
    refine refsCount_of_zones (fun j k => ?_) (fun k => ?_) hs
    · have edited := h.zones j
      simp only [Zone.names, edited.strategy, ne_eq, edited.free]
    · rw [strategy_congr h.strategies]
      exact ⟨rfl, (hs k).2⟩
  | free i named zones strategies =>
    refine refsCount_of_zones (fun j k => ?_) (fun k => ?_) (refsCount_freeZone named hs)
    · rw [zone_congr zones]
    · rw [strategy_congr strategies]
      exact ⟨rfl, (refsCount_freeZone named hs k).2⟩
  | loadZone d free apart serves => exact refsCount_loadZone free serves hs
  | @loadStrategy s i r free =>
    refine refsCount_of_zones (s := s) (fun _ _ => rfl) (fun k => ?_) hs
    rw [setStrategy_strategy]
    split
    · next same =>
      rw [same] at free
      have unnamed : (s.strategy k).refs = 0 := Nat.eq_zero_of_not_pos fun pos => by simp [(hs k).2 pos] at free
      exact ⟨unnamed.symm, fun _ => rfl⟩
    · exact ⟨rfl, (hs k).2⟩
  | @releaseStrategy s i unnamed =>
    refine refsCount_of_zones (s := s) (fun _ _ => rfl) (fun k => ?_) hs
    rw [setStrategy_strategy]
    split
    · next same =>
      rw [← same, unnamed]
      exact ⟨rfl, fun pos => absurd pos (by decide)⟩
    · exact ⟨rfl, (hs k).2⟩
  | clear zones strategies =>
    intro k
    have none : ∀ j, Zone.names (State.zone _ j) k = false := fun j => by rw [zones j]; rfl
    rw [strategies, namedBy_eq]
    simp only [none]
    exact ⟨by simp [Strategy.freeContent], fun pos => absurd pos (by decide)⟩
  | trans first second ih₁ ih₂ => exact ih₂ (ih₁ hs)

end

end Sys2Proof.Laws

/-!
PROOFS. The statements settled: O56 and O57.
-/

namespace Sys2Proof.Settled

open Sys2Proof Sys2Proof.Machine Sys2Proof.Laws

/-- Settles O56: every change writes the tables by `Tables`, and each write keeps the descriptors apart. -/
theorem zonesDisjointKept : Obligations.ZonesDisjointKept := by
  unfold Obligations.ZonesDisjointKept
  intro s t hs h
  refine step_keeps (P := State.ZonesDisjoint) (fun _ _ hs => hs) (fun _ _ hs => hs) (fun s hs => ?_)
    (fun _ _ effect => effect.tables.zonesDisjoint) h hs
  exact (Tables.same (tick_zones s) (tick_strategies s)).zonesDisjoint hs

/-- Settles O57: every change writes the tables by `Tables`, and each write moves names and counts together. -/
theorem refsCountKept : Obligations.RefsCountKept := by
  unfold Obligations.RefsCountKept
  intro s t hs h
  refine step_keeps (P := State.RefsCount) (fun _ _ hs => hs) (fun _ _ hs => hs) (fun s hs => ?_)
    (fun _ _ effect => effect.tables.refsCount) h hs
  exact (Tables.same (tick_zones s) (tick_strategies s)).refsCount hs

end Sys2Proof.Settled

/-!
PROOFS. What a change does to the announce queue (R60, R61, R63, R81): entries leave, entries are edited in place, one joins the tail, one is
accepted, the oldest is taken by a rise.
-/

namespace Sys2Proof.Laws

open Sys2Proof Sys2Proof.Machine

/-! ### Entries that leave and entries edited in place -/

/-- From e to e' an entry keeps its tag, its state and where it stands in its run. -/
structure EntryEdited (e e' : Entry) : Prop where
  tag : e'.tag = e.tag
  state : e'.state = e.state
  start : e'.start = e.start
  next : e'.next = e.next

/-- From q to q' entries have left and the others have been edited, each in its place. -/
inductive Thinned : List Entry → List Entry → Prop
  | refl (q : List Entry) : Thinned q q
  | leave {q : List Entry} (p : Entry → Bool) : Thinned q (q.filter p)
  | edit {q : List Entry} (f : Entry → Entry) (keeps : ∀ e, EntryEdited e (f e)) : Thinned q (q.map f)
  | replace {q : List Entry} (e e' : Entry) (mem : e ∈ q) (keeps : EntryEdited e e') :
      Thinned q (q.map fun f => if f.tag = e'.tag then e' else f)
  | trans {q q' q'' : List Entry} (first : Thinned q q') (second : Thinned q' q'') : Thinned q q''

theorem Thinned.length_le {q q' : List Entry} (h : Thinned q q') : q'.length ≤ q.length := by
  induction h with
  | refl q => exact le_rfl
  | leave p => exact List.length_filter_le _ _
  | edit f keeps => exact (List.length_map _).le
  | replace e e' mem keeps => exact (List.length_map _).le
  | trans first second ih₁ ih₂ => exact ih₂.trans ih₁

/-- The queue's part of `QueueOrdered`. -/
structure Ordered (q : List Entry) : Prop where
  tags : (q.map Entry.tag).Nodup
  runs : ∀ e ∈ q, e.start ≤ e.next
  order : q.Pairwise fun a b => b.state ≠ .current ∧ (a.state = .waiting → b.state = .waiting)

theorem queueOrdered_iff {s : State} : s.QueueOrdered ↔
    Ordered s.queue ∧ s.translating = (s.queue.find? fun e => decide (e.state = .waiting)).map Entry.tag :=
  ⟨fun h => ⟨⟨h.tags, h.runs, h.order⟩, h.translator⟩, fun ⟨o, translator⟩ => ⟨o.tags, o.runs, o.order, translator⟩⟩

section
variable {q q' : List Entry}

theorem Ordered.nil : Ordered [] := ⟨List.nodup_nil, by simp, .nil⟩

theorem Ordered.filter (h : Ordered q) (p : Entry → Bool) : Ordered (q.filter p) where
  tags := h.tags.sublist (List.filter_sublist.map _)
  runs e he := h.runs e (List.mem_of_mem_filter he)
  order := h.order.sublist List.filter_sublist

/-- Edited entry by entry, a queue stays ordered. -/
theorem Ordered.map (h : Ordered q) {f : Entry → Entry} (keeps : ∀ e ∈ q, EntryEdited e (f e)) : Ordered (q.map f) where
  tags := by
    rw [List.map_map, List.map_congr_left fun e he => show (Entry.tag ∘ f) e = e.tag from (keeps e he).tag]
    exact h.tags
  runs e he := by
    obtain ⟨e, mem, rfl⟩ := List.mem_map.1 he
    rw [(keeps e mem).start, (keeps e mem).next]
    exact h.runs e mem
  order := by
    rw [List.pairwise_map]
    refine h.order.imp_of_mem fun {a b} ha hb hab => ?_
    rwa [(keeps a ha).state, (keeps b hb).state]

/-- In an ordered queue a tag is of one entry. -/
theorem replace_congr (h : (q.map Entry.tag).Nodup) {e e' : Entry} (mem : e ∈ q) (tag : e'.tag = e.tag) {f : Entry}
    (hf : f ∈ q) : (if f.tag = e'.tag then e' else f) = if f = e then e' else f := by
  by_cases same : f = e
  · rw [if_pos same, if_pos (by rw [same, tag])]
  · rw [if_neg same, if_neg fun ht => same (eq_of_tag h hf mem (ht.trans tag))]

theorem Thinned.ordered (h : Thinned q q') (hq : Ordered q) : Ordered q' := by
  induction h with
  | refl q => exact hq
  | leave p => exact hq.filter p
  | edit f keeps => exact hq.map fun e _ => keeps e
  | replace e e' mem keeps =>
    refine hq.map fun f hf => ?_
    rw [replace_congr hq.tags mem keeps.tag hf]
    split
    · next same => exact same ▸ keeps
    · exact ⟨rfl, rfl, rfl, rfl⟩
  | trans first second ih₁ ih₂ => exact ih₂ (ih₁ hq)

end

/-- What a fall makes of the entry of the block in service (R91 to R93). -/
def entryEnded (s : State) (r : BlockRecord) : State :=
  match s.servedEntry r with
  | some e => (s.removeDeferred e).endEntry e r.ended
  | none => s

theorem fallOn_eq (s : State) (r : BlockRecord) :
    s.fallOn r = ((entryEnded s.returnToIdle r).withGate { high := false, record := none }).queueChanged := rfl

/-- The oldest Waiting entry's tag (R63). -/
def oldestWaiting (q : List Entry) : Option Byte := (q.find? fun e => decide (e.state = .waiting)).map Entry.tag

/-- From s to t the queue is as it was, or has been thinned and the translator looked at it. -/
def Requeued (s t : State) : Prop :=
  (t.queue = s.queue ∧ t.translating = s.translating) ∨ (Thinned s.queue t.queue ∧ t.translating = oldestWaiting t.queue)

section
variable {s t u : State}

theorem Requeued.same (queue : t.queue = s.queue) (translating : t.translating = s.translating) : Requeued s t :=
  .inl ⟨queue, translating⟩

theorem Requeued.refl (s : State) : Requeued s s := .same rfl rfl

/-- What comes before the queue's change. -/
theorem Requeued.after (queue : t.queue = s.queue) (translating : t.translating = s.translating) (h : Requeued t u) :
    Requeued s u := by
  unfold Requeued at *
  rwa [queue, translating] at h

theorem Requeued.trans (h₁ : Requeued s t) (h₂ : Requeued t u) : Requeued s u := by
  rcases h₂ with ⟨queue, translating⟩ | ⟨thinned, translating⟩
  · rcases h₁ with ⟨queue', translating'⟩ | ⟨thinned', translating'⟩
    · exact .inl ⟨queue.trans queue', translating.trans translating'⟩
    · rw [← queue] at thinned' translating'
      exact .inr ⟨thinned', translating.trans translating'⟩
  · refine .inr ⟨?_, translating⟩
    rcases h₁ with ⟨queue', -⟩ | ⟨thinned', -⟩
    · rwa [queue'] at thinned
    · exact thinned'.trans thinned

/-- A queue thinned on the way to t, where its change is seen to the end. -/
theorem requeued_queueChanged (h : Thinned s.queue t.queue) : Requeued s t.queueChanged :=
  .inr ⟨by rwa [queueChanged_queue], by rw [queueChanged_translating, queueChanged_queue]; rfl⟩

theorem cutEntry_edited (cut : Entry → Option Nat) (e : Entry) : EntryEdited e (cutEntry cut e) :=
  ⟨cutEntry_tag, cutEntry_state, by rw [cutEntry_eq], cutEntry_next⟩

theorem withoutSlot_edited (i : ZoneSlot) (e : Entry) : EntryEdited e (e.withoutSlot i) := ⟨rfl, rfl, rfl, rfl⟩

theorem deferSlot_edited (i : ZoneSlot) (e : Entry) : EntryEdited e (e.deferSlot i) := by
  unfold Entry.deferSlot
  split <;> exact ⟨rfl, rfl, rfl, rfl⟩

theorem EntryEdited.refl (e : Entry) : EntryEdited e e := ⟨rfl, rfl, rfl, rfl⟩

theorem foldl_withoutSlot_edited (is : List ZoneSlot) (e : Entry) : EntryEdited e (is.foldl Entry.withoutSlot e) := by
  induction is generalizing e with
  | nil => exact .refl e
  | cons i is ih => exact ⟨(ih _).tag, (ih _).state, (ih _).start, (ih _).next⟩

theorem removeEntries_thinned (h : Thinned s.queue t.queue) (p : Entry → Bool) :
    Thinned s.queue (t.removeEntries p).queue := by
  rw [removeEntries_queue]
  exact h.trans (.leave _)

theorem revoke_thinned (s : State) (reason : RevokeReason) (cut : Entry → Option Nat) :
    Thinned s.queue (s.revoke reason cut).queue := by
  rw [revoke_eq]
  exact removeEntries_thinned (.edit _ (cutEntry_edited cut)) _

theorem dropSlot_thinned (s : State) (i : ZoneSlot) (considered : Entry → Bool) :
    Thinned s.queue (s.dropSlot i considered).queue := by
  unfold State.dropSlot
  dsimp only
  rw [unpinAll_queue, withQueue_queue]
  refine .edit _ fun e => ?_
  split
  · split
    · exact deferSlot_edited i e
    · exact withoutSlot_edited i e
  · exact .refl e

theorem entryTrigger_requeued (s : State) (reason : RevokeReason) (m : Entry → Bool) : Requeued s (s.entryTrigger reason m) :=
  requeued_queueChanged (revoke_thinned s reason _)

theorem guardTrigger_requeued (s : State) (g : Guard) : Requeued s (s.guardTrigger g) :=
  requeued_queueChanged (revoke_thinned s _ _)

theorem zoneTrigger_requeued (s : State) (i : ZoneSlot) (reason : RevokeReason) (considered : Entry → Bool) :
    Requeued s (s.zoneTrigger i reason considered) :=
  requeued_queueChanged ((revoke_thinned s reason _).trans (dropSlot_thinned _ i _))

theorem flush_requeued (s : State) (reason : RevokeReason) : Requeued s (s.flush reason) := by
  refine requeued_queueChanged (removeEntries_thinned ?_ _)
  rw [produceRevokes_queue]
  exact .refl _

theorem turnOff_requeued (s : State) (reason : RevokeReason) : Requeued s (s.turnOff reason) := by
  unfold State.turnOff
  split
  · exact (Requeued.same (darken_queue ..) (darken_translating ..)).trans (flush_requeued _ reason)
  · exact .refl s

theorem enterFault_requeued (s : State) (cause : FaultCause) : Requeued s (s.enterFault cause) := by
  have darkened : ∀ l : Laser, Requeued s ((s.withLaser l).darken .fault) := fun l => .same (by simp) (by simp)
  unfold State.enterFault
  exact ((darkened _).trans (flush_requeued _ .fault)).trans (.same (raise_queue ..) (raise_translating ..))

theorem furtherFault_requeued (s : State) : Requeued s s.furtherFault := .same (by simp) (by simp)

theorem faultCondition_requeued (s : State) (cause : FaultCause) : Requeued s (s.faultCondition cause) := by
  unfold State.faultCondition
  split
  · exact enterFault_requeued s cause
  · split
    · exact furtherFault_requeued s
    · exact .refl s

theorem sampled_requeued (temp : Int) (s : State) : Requeued s (sampled temp s) := by
  have taken : Requeued s (s.takeSample temp).warn := .same (by simp) (by simp)
  unfold sampled
  dsimp only
  split
  · refine (taken.trans ?_).trans (.same (refreshIdle_queue _) (refreshIdle_translating _))
    unfold State.overLimitAct
    split
    · exact enterFault_requeued _ _
    · split
      · exact furtherFault_requeued _
      · exact .refl _
  · exact taken.trans (.same (refreshIdle_queue _) (refreshIdle_translating _))

theorem unlockRevoke_requeued (s : State) : Requeued s s.unlockRevoke := by
  unfold State.unlockRevoke
  dsimp only
  refine requeued_queueChanged ?_
  rw [withLevels_queue]
  split
  · split
    · refine removeEntries_thinned ?_ _
      rw [produceRevokes_queue]
      exact .refl _
    · exact .refl _
  · exact .refl _

theorem enterUnlocked_requeued (s : State) : Requeued s s.enterUnlocked := by
  unfold State.enterUnlocked
  dsimp only
  split
  · have idle : ∀ l : Laser, Requeued s ((s.withLaser l).raise .unlock).enterIdle := fun l => .same (by simp) (by simp)
    exact (idle _).trans (unlockRevoke_requeued _)
  · exact .same (by simp) (by simp)

theorem loseLock_requeued (s : State) : Requeued s s.loseLock := by
  unfold State.loseLock
  split
  · split
    · exact enterUnlocked_requeued s
    · exact .same (by simp) (by simp)
  · exact .refl s
  · exact .refl s

theorem completeConversion_requeued (s : State) (c : Conversion) : Requeued s (s.completeConversion c) := by
  have compared : Requeued s ((s.withMonitor { s.monitor with conversion := none }).compare c) := by
    unfold State.compare
    dsimp only
    split
    · have counted : ∀ m : Monitor, Requeued s ((s.withMonitor { s.monitor with conversion := none }).withMonitor m) :=
        fun m => .same (by simp) (by simp)
      exact (counted _).trans (faultCondition_requeued _ _)
    · exact .same (by simp) (by simp)
  unfold State.completeConversion
  dsimp only
  split
  · exact compared.trans (.same (apcStep_queue ..) (apcStep_translating ..))
  · split
    · exact compared
    · exact .same (by simp) (by simp)

theorem complete_queue (s : State) (e : Entry) : (s.complete e).queue = s.queue.filter fun f => f.tag != e.tag := by
  unfold State.complete
  rw [removeEntries_queue, produce_queue]
  rfl

theorem endEntry_thinned (s : State) (e : Entry) (ended : Bool) : Thinned s.queue (s.endEntry e ended).queue := by
  unfold State.endEntry
  split
  · exact removeEntries_thinned (.refl _) _
  · split
    · rw [complete_queue]
      exact .leave _
    · exact .refl _

theorem entryEnded_thinned (s : State) (r : BlockRecord) : Thinned s.queue (entryEnded s r).queue := by
  unfold entryEnded
  split
  · next e found =>
    refine Thinned.trans ?_ (endEntry_thinned _ e r.ended)
    rw [State.removeDeferred, unpinAll_queue, State.replaceEntry, withQueue_queue]
    exact .replace e _ (List.mem_of_find?_eq_some found) (foldl_withoutSlot_edited e.deferred e)
  · exact .refl _

theorem fallOn_requeued (s : State) (r : BlockRecord) : Requeued s (s.fallOn r) := by
  have ended := entryEnded_thinned s.returnToIdle r
  rw [returnToIdle_queue] at ended
  rw [fallOn_eq]
  exact requeued_queueChanged (by rwa [withGate_queue])

end

/-! ### The translation of the oldest Waiting entry (R63 to R68) -/

section
variable {s : State} {q : List Entry} {e : Entry}

theorem waiting_of_oldest (h : q.find? (fun f => decide (f.state = .waiting)) = some e) : e ∈ q ∧ e.state = .waiting :=
  ⟨List.mem_of_find?_eq_some h, by simpa using List.find?_some h⟩

/-- The entry a completing translation works on is the oldest Waiting one. -/
theorem oldest_of_translating (ordered : s.QueueOrdered) {tag : Byte} (inFlight : s.translating = some tag)
    (found : (s.queue.find? fun e => decide (e.tag = tag ∧ e.state = .waiting)) = some e) :
    s.queue.find? (fun f => decide (f.state = .waiting)) = some e := by
  rw [ordered.translator] at inFlight
  obtain ⟨f, oldest, rfl⟩ := Option.map_eq_some_iff.1 inFlight
  have same : e.tag = f.tag := by
    have := List.find?_some found
    simp only [decide_eq_true_eq] at this
    exact this.1
  rw [oldest, eq_of_tag ordered.tags (List.mem_of_find?_eq_some oldest) (List.mem_of_find?_eq_some found) same.symm]

/-- The oldest Waiting entry becomes Accepted: those before it are translated, those after it Waiting (R61). -/
theorem ordered_accept (h : Ordered q) (oldest : q.find? (fun f => decide (f.state = .waiting)) = some e) {e' : Entry}
    (tag : e'.tag = e.tag) (state : e'.state = .accepted) (start : e'.start = e.start) (next : e'.next = e.next) :
    Ordered (q.map fun f => if f.tag = e'.tag then e' else f) := by
  obtain ⟨mem, waiting⟩ := waiting_of_oldest oldest
  have replaced : ∀ f ∈ q, (if f.tag = e'.tag then e' else f) = if f = e then e' else f :=
    fun f hf => replace_congr h.tags mem tag hf
  have sameTag : ∀ f ∈ q, (if f.tag = e'.tag then e' else f).tag = f.tag := fun f hf => by
    rw [replaced f hf]
    split
    · next same => rw [tag, same]
    · rfl
  refine ⟨?_, fun f hf => ?_, ?_⟩
  · rw [List.map_map, show q.map (Entry.tag ∘ _) = q.map Entry.tag from List.map_congr_left sameTag]
    exact h.tags
  · obtain ⟨g, hg, rfl⟩ := List.mem_map.1 hf
    rw [replaced g hg]
    split
    · rw [start, next]
      exact h.runs e mem
    · exact h.runs g hg
  · obtain ⟨-, before, after, rfl, notBefore⟩ := List.find?_eq_some_iff_append.1 oldest
    have translated : ∀ f ∈ before, f.state ≠ .waiting := fun f hf => by simpa using notBefore f hf
    have split := List.pairwise_append.1 h.order
    rw [List.pairwise_map]
    refine List.pairwise_append.2 ⟨?_, ?_, ?_⟩
    · refine split.1.imp_of_mem fun {a b} ha hb hab => ?_
      have notE : ∀ f ∈ before, f ≠ e := fun f hf same => translated f hf (same ▸ waiting)
      rw [replaced a (by simp [ha]), replaced b (by simp [hb]), if_neg (notE a ha), if_neg (notE b hb)]
      exact hab
    · obtain ⟨fromE, rest⟩ := List.pairwise_cons.1 split.2.1
      have distinct := h.tags
      simp only [List.map_append, List.map_cons, List.nodup_append, List.nodup_cons] at distinct
      have notE : ∀ f ∈ after, f ≠ e := fun f hf same => distinct.2.1.1 (List.mem_map.2 ⟨f, hf, by rw [same]⟩)
      refine List.pairwise_cons.2 ⟨fun f hf => ?_, rest.imp_of_mem fun {a b} ha hb hab => ?_⟩
      · rw [replaced e mem, if_pos rfl, replaced f (by simp [hf]), if_neg (notE f hf), state]
        exact ⟨(fromE f hf).1, fun h => by cases h⟩
      · rw [replaced a (by simp [ha]), replaced b (by simp [hb]), if_neg (notE a ha), if_neg (notE b hb)]
        exact hab
    · intro a ha f hf
      have notE : a ≠ e := fun same => translated a ha (same ▸ waiting)
      rw [replaced a (by simp [ha]), if_neg notE]
      refine ⟨?_, fun h => absurd h (translated a ha)⟩
      rw [replaced f (List.mem_append_right _ hf)]
      split
      · rw [state]; decide
      · exact (split.2.2 a ha f hf).1

theorem acceptEntry_thinned (s : State) (e : Entry) (m : Translated) :
    Thinned (s.queue.map fun f => if f.tag = (e.accept m).tag then e.accept m else f) (s.acceptEntry e m).queue := by
  unfold State.acceptEntry
  dsimp only
  split
  · rw [complete_queue, produce_queue, State.replaceEntry, withQueue_queue, pins_queue]
    exact .leave _
  · rw [produce_queue, State.replaceEntry, withQueue_queue, pins_queue]
    exact .refl _

theorem completeTranslation_ordered (h : Ordered s.queue)
    (oldest : s.queue.find? (fun f => decide (f.state = .waiting)) = some e) : Ordered (s.completeTranslation e).queue := by
  unfold State.completeTranslation
  rw [queueChanged_queue]
  split
  · rw [produceRefuse_queue, removeEntries_queue]
    exact h.filter _
  · next m _ => exact (acceptEntry_thinned s e m).ordered (ordered_accept h oldest rfl rfl rfl rfl)

/-! ### The oldest entry, as a rise takes it (R81) -/

theorem takenEntry_eq_head (h : Ordered s.queue) : s.takenEntry = s.queue.head? := by
  unfold State.takenEntry
  cases hq : s.queue with
  | nil => rfl
  | cons e rest =>
    rw [hq] at h
    by_cases current : e.state = .current
    · simp [current]
    · have behind : ∀ f ∈ rest, f.state ≠ .current := fun f hf => ((List.pairwise_cons.1 h.order).1 f hf).1
      have notFound : rest.find? (fun f => decide (f.state = .current)) = none := by simpa using behind
      simp [current, notFound]

theorem replace_head {rest : List Entry} (h : Ordered (e :: rest)) {e' : Entry} (tag : e'.tag = e.tag) :
    ((e :: rest).map fun f => if f.tag = e'.tag then e' else f) = e' :: rest := by
  have others : ∀ f ∈ rest, f.tag ≠ e'.tag := fun f hf same =>
    (List.nodup_cons.1 h.tags).1 (List.mem_map.2 ⟨f, hf, same.trans tag⟩)
  rw [List.map_cons, if_pos tag.symm, List.map_congr_left fun f hf => if_neg (others f hf), List.map_id'']
  exact fun _ => rfl

/-- The head's next block is taken: Waiting it stays, else it is Current. -/
theorem ordered_taken {rest : List Entry} (h : Ordered (e :: rest)) {e' : Entry} (tag : e'.tag = e.tag)
    (start : e'.start = e.start) (next : e'.next = e.next + 1) (state : e'.state = .waiting ↔ e.state = .waiting) :
    Ordered (e' :: rest) where
  tags := by
    rw [List.map_cons, tag]
    exact h.tags
  runs f hf := by
    rcases List.mem_cons.1 hf with rfl | hf
    · rw [start, next]
      exact (h.runs e List.mem_cons_self).trans (Nat.le_succ _)
    · exact h.runs f (List.mem_cons_of_mem _ hf)
  order := by
    obtain ⟨fromE, rest⟩ := List.pairwise_cons.1 h.order
    exact List.pairwise_cons.2 ⟨fun f hf => ⟨(fromE f hf).1, fun waiting => (fromE f hf).2 (state.1 waiting)⟩, rest⟩

theorem taken_state : e.taken.state = .waiting ↔ e.state = .waiting := by
  unfold Entry.taken
  dsimp only
  split
  · next h => simp [h]
  · rfl

/-- The entry as a rise leaves it, at the head of the queue. -/
theorem riseOn_queue {rest : List Entry} (h : Ordered s.queue) (hq : s.queue = e :: rest) :
    ∃ e', (s.riseOn e).queue = e' :: rest ∧ e'.tag = e.tag ∧ e'.start = e.start ∧ e'.next = e.next + 1 ∧
      e'.state = e.taken.state := by
  rw [hq] at h
  have queue : ∀ (t : State) (e' : Entry), t.queue = s.queue → e'.tag = e.tag → (t.replaceEntry e').queue = e' :: rest :=
    fun t e' same tag => by rw [State.replaceEntry, withQueue_queue, same, hq, replace_head h tag]
  unfold State.riseOn
  rw [retarget_queue]
  split
  · refine ⟨{ e.taken with skipped := e.skipped + 1 }, ?_, rfl, rfl, rfl, rfl⟩
    unfold State.skipBlock
    dsimp only
    rw [produceSkip_queue, setStream_queue]
    exact queue _ _ rfl rfl
  · refine ⟨{ e.taken with served := e.served + 1 }, ?_, rfl, rfl, rfl, rfl⟩
    have risen : ∀ set, (clampsRaised (risen s e set) set).queue = { e.taken with served := e.served + 1 } :: rest :=
      fun set => by
        simp only [clampsRaised, raiseIf_queue, Laws.risen, withLevels_queue, setStream_queue]
        exact queue _ _ rfl rfl
    rw [serveBlock_eq]
    split
    · rw [startWriting_queue, withMonitor_queue, risen]
    · rw [startReading_queue, withMonitor_queue, risen]

theorem oldestWaiting_cons {rest : List Entry} {e e' : Entry} (tag : e'.tag = e.tag)
    (state : e'.state = .waiting ↔ e.state = .waiting) : oldestWaiting (e' :: rest) = oldestWaiting (e :: rest) := by
  unfold oldestWaiting
  rw [List.find?_cons, List.find?_cons]
  by_cases waiting : e.state = .waiting
  · simp [waiting, state.2 waiting, tag]
  · simp [waiting, mt state.1 waiting]

theorem riseOn_queueOrdered (h : s.QueueOrdered) (taken : s.takenEntry = some e) : (s.riseOn e).QueueOrdered := by
  obtain ⟨ordered, translator⟩ := queueOrdered_iff.1 h
  rw [takenEntry_eq_head ordered, List.head?_eq_some_iff] at taken
  obtain ⟨rest, hq⟩ := taken
  obtain ⟨e', queue, tag, start, next, state⟩ := riseOn_queue ordered hq
  rw [hq] at ordered translator
  have waits : e'.state = .waiting ↔ e.state = .waiting := by rw [state, taken_state]
  refine queueOrdered_iff.2 ⟨?_, ?_⟩
  · rw [queue]
    exact ordered_taken ordered tag start next waits
  · rw [queue, riseOn_translating, translator]
    exact (oldestWaiting_cons tag waits).symm

/-! ### An announcement joins the tail (R61) -/

theorem ordered_append (h : Ordered q) {a : Entry} (fresh : ∀ e ∈ q, e.tag ≠ a.tag) (run : a.start ≤ a.next)
    (waiting : a.state = .waiting) : Ordered (q ++ [a]) where
  tags := by
    rw [List.map_append, List.nodup_append]
    refine ⟨h.tags, by simp, fun x hx y hy => ?_⟩
    obtain ⟨e, he, rfl⟩ := List.mem_map.1 hx
    obtain rfl : y = a.tag := by simpa using hy
    exact fresh e he
  runs e he := by
    rcases List.mem_append.1 he with he | he
    · exact h.runs e he
    · obtain rfl := List.mem_singleton.1 he
      exact run
  order := by
    refine List.pairwise_append.2 ⟨h.order, by simp, fun x _ y hy => ?_⟩
    obtain rfl := List.mem_singleton.1 hy
    rw [waiting]
    exact ⟨by decide, fun _ => rfl⟩

theorem admission_eq_none {a : Announcement} (h : s.admission a = none) :
    s.queue.length < Config.queueDepth ∧ (∀ e ∈ s.queue, e.tag ≠ a.tag) ∧ s.laser.state.emits = true := by
  unfold State.admission at h
  split at h
  · cases h
  · next room =>
    split at h
    · cases h
    · next unique =>
      split at h
      · cases h
      · next lit =>
        refine ⟨Nat.not_le.1 room, fun e he same => unique ?_, not_not.1 lit⟩
        exact List.any_eq_true.2 ⟨e, he, by simpa using same⟩

end

/-! ### Every change -/

/-- What a change makes of the queue, but for an announcement, a translation and a rise. -/
theorem Effect.requeued {s u : State} (h : Effect s u) :
    Requeued s u ∨ (u.queue = [] ∧ u.translating = none) ∨
      (∃ a, s.admission a = none ∧ u = (s.withQueue (s.queue ++ [announcedEntry a])).queueChanged) ∨
      (∃ tag e, s.translating = some tag ∧
        (s.queue.find? fun e => decide (e.tag = tag ∧ e.state = .waiting)) = some e ∧ u = s.completeTranslation e) ∨
      ∃ e, s.takenEntry = some e ∧ u = s.riseOn e := by
  cases h with
  | atReset | holdInReset | resetCommand => exact .inr (.inl ⟨rfl, rfl⟩)
  | enroll a admitted => exact .inr (.inr (.inl ⟨a, admitted, rfl⟩))
  | translation tag e inFlight found => exact .inr (.inr (.inr (.inl ⟨tag, e, inFlight, found, rfl⟩)))
  | rise e low taken => exact .inr (.inr (.inr (.inr ⟨e, taken, rfl⟩)))
  | unmount => exact .inr (.inl (by rw [unmounted_eq]; exact ⟨flush_queue .., flush_translating ..⟩))
  | markAbsent i loaded => exact .inl (.after (setZone_queue ..) (setZone_translating ..) (zoneTrigger_requeued ..))
  | closeZone i loaded => exact .inl (.after (setZone_queue ..) (setZone_translating ..) (zoneTrigger_requeued ..))
  | releaseFree i inUse unpinned =>
    exact .inl ((zoneTrigger_requeued s i _ _).trans (.same (freeZone_queue ..) (freeZone_translating ..)))
  | releaseRetiring i inUse pinned =>
    exact .inl ((zoneTrigger_requeued s i _ _).trans (.same (setZone_queue ..) (setZone_translating ..)))
  | closeStream n => exact .inl (.after (by simp) (by simp) (entryTrigger_requeued ..))
  | addGuard g room => exact .inl (.after (by simp) (by simp) (guardTrigger_requeued ..))
  | laserOnHot off =>
    exact .inl (.after (by simp [State.enterStandby]) (by simp [State.enterStandby]) (enterFault_requeued ..))
  | laserOff => exact .inl (turnOff_requeued s _)
  | allStop p => exact .inl (.after (by simp) (by simp) (turnOff_requeued ..))
  | abort m => exact .inl (entryTrigger_requeued s _ m)
  | fall r high record => exact .inl (fallOn_requeued s r)
  | loffAsserted => exact .inl (.after (by simp) (by simp) (turnOff_requeued ..))
  | temperature temp => exact .inl (sampled_requeued temp s)
  | gateLimit writing => exact .inl (enterFault_requeued s _)
  | pllLost => exact .inl (.after (by simp) (by simp) (loseLock_requeued _))
  | lossTimer => exact .inl (enterUnlocked_requeued s)
  | conversion c inFlight => exact .inl (completeConversion_requeued s c)
  | nothing | loadZone | setPowers | setTrim | setAutotrim | reload | sweep | loadStrategy | releaseStrategy | openStream
  | removeGuard | setLayer | resettle | loadLaserModel | loadCeilings | laserOn | clearFault | ackEvents | setPermissions
  | setAlertMode | busTimeout | staleFrame | malformed | refuse | trimStep | replySend | levelComputation | idleComputation
  | riseEmpty | fallEmpty | transition | markStart | stepEnd | settleEnd | warmUp | loffReleased | pllRegained | blockSample
  | idleSample | pulseEnd =>
    refine .inl (.same ?_ ?_) <;> simp [State.setLayer, State.enterStandby, State.leaveFault, State.setZoneState]

theorem Effect.queueOrdered {s u : State} (h : Effect s u) (hs : s.QueueOrdered) : u.QueueOrdered := by
  obtain ⟨ordered, translator⟩ := queueOrdered_iff.1 hs
  rcases h.requeued with (⟨queue, translating⟩ | ⟨thinned, translating⟩) | ⟨queue, translating⟩ | ⟨a, admitted, rfl⟩ |
    ⟨tag, e, inFlight, found, rfl⟩ | ⟨e, taken, rfl⟩
  · exact queueOrdered_iff.2 ⟨queue ▸ ordered, by rw [translating, queue, translator]⟩
  · exact queueOrdered_iff.2 ⟨thinned.ordered ordered, translating⟩
  · exact queueOrdered_iff.2 ⟨queue ▸ .nil, by rw [translating, queue]; rfl⟩
  · have fresh := (admission_eq_none admitted).2.1
    refine queueOrdered_iff.2 ⟨?_, by rw [queueChanged_translating, queueChanged_queue]⟩
    rw [queueChanged_queue, withQueue_queue]
    exact ordered_append ordered fresh le_rfl rfl
  · refine queueOrdered_iff.2 ⟨completeTranslation_ordered ordered (oldest_of_translating hs inFlight found), ?_⟩
    rw [State.completeTranslation, queueChanged_translating, queueChanged_queue]
  · exact riseOn_queueOrdered hs taken

end Sys2Proof.Laws

/-!
PROOFS. The statement settled: O59.
-/

namespace Sys2Proof.Settled

open Sys2Proof Sys2Proof.Machine Sys2Proof.Laws

/-- Settles O59: a change thins the queue, appends a Waiting entry, accepts the oldest Waiting one, or takes the head's next block. -/
theorem queueOrderKept : Obligations.QueueOrderKept := by
  unfold Obligations.QueueOrderKept
  intro s t hs h
  refine step_keeps (P := State.QueueOrdered) (fun _ _ hs => ⟨hs.tags, hs.runs, hs.order, hs.translator⟩)
    (fun _ _ hs => ⟨hs.tags, hs.runs, hs.order, hs.translator⟩) (fun s hs => ?_) (fun _ _ effect => effect.queueOrdered) h hs
  rw [queueOrdered_iff, tick_queue, tick_translating]
  exact queueOrdered_iff.1 hs

end Sys2Proof.Settled

/-!
PROOFS. The capacities and ranges of the state, block by block: the reply store and the flags, the queue, the guard list, the monitor, the
streams (R59, R61, R101, R106, R149, R151; the descriptors' ranges stand with the tables).
-/

namespace Sys2Proof.Laws

open Sys2Proof Sys2Proof.Machine

/-! ### Reply store and request flags -/

/-- The reply store, the reply part-way out and the flag masks are within their capacities (R59, section 12.1). -/
structure ReportsInRange (s : State) : Prop where
  replies : s.link.replies.length ≤ Config.replyStoreDepth
  sending : s.link.sending.length ≤ 7
  requests : s.alert.requests &&& unusedFlags = 0#16
  permissions : s.alert.permissions &&& unusedFlags = 0#16

theorem requests_raise {a : Alert} (f : RequestFlag) (h : a.requests &&& unusedFlags = 0#16) :
    (a.raise f).requests &&& unusedFlags = 0#16 := by
  rw [alert_raise_requests, or_and_eq_zero]
  exact ⟨h, mask_unused f⟩

theorem unpin_alert_cases (s : State) (i : ZoneSlot) :
    (s.unpin i).alert = s.alert ∨ (s.unpin i).alert = s.alert.raise .freed := by
  unfold State.unpin
  split
  · exact .inr (by simp [State.raise])
  · exact .inl (by simp)

theorem ReportsInRange.congr {s t : State} (h : ReportsInRange s) (link : t.link = s.link) (alert : t.alert = s.alert) :
    ReportsInRange t :=
  ⟨link ▸ h.replies, link ▸ h.sending, alert ▸ h.requests, alert ▸ h.permissions⟩

theorem reportsInRange_bookRule : BookRule ReportsInRange where
  frame zones strategies link alert h :=
    ⟨link ▸ h.replies, link ▸ h.sending, alert ▸ h.requests, alert ▸ h.permissions⟩
  raise f h := by
    refine ⟨by simpa using h.replies, by simpa using h.sending, requests_raise f h.requests, ?_⟩
    rw [raise_permissions]
    exact h.permissions
  produce {s} r h := by
    refine ⟨produce_bound s r h.replies, by rw [produce_link]; exact h.sending, ?_, by
      rw [produce_permissions]; exact h.permissions⟩
    unfold State.produce
    split
    · exact h.requests
    · exact requests_raise .linkerr h.requests
  unpin {s} i h := by
    refine ⟨by simpa using h.replies, by simpa using h.sending, ?_, ?_⟩
    · rcases unpin_alert_cases s i with same | raised
      · rw [same]; exact h.requests
      · rw [raised]; exact requests_raise .freed h.requests
    · rcases unpin_alert_cases s i with same | raised
      · rw [same]; exact h.permissions
      · rw [raised, alert_raise_permissions]; exact h.permissions

theorem nextByte_inRange {l : Link} (replies : l.replies.length ≤ Config.replyStoreDepth) (sending : l.sending.length ≤ 7) :
    l.nextByte.replies.length ≤ Config.replyStoreDepth ∧ l.nextByte.sending.length ≤ 7 := by
  obtain ⟨b, left, partWay, h⟩ | ⟨r, rest, -, stored, h⟩ | ⟨idle, empty, h⟩ := nextByte_cases l <;> rw [h]
  · rw [partWay] at sending
    exact ⟨replies, (Nat.le_succ _).trans sending⟩
  · obtain ⟨b, left, bytes, short⟩ := reply_bytes r
    rw [stored] at replies
    rw [bytes]
    exact ⟨(Nat.le_succ _).trans replies, short⟩
  · exact ⟨replies, sending⟩

theorem grant_requests (a : Alert) (mask : BitVec 16) :
    (a.grant mask).requests = a.requests ∧ (a.grant mask).permissions = mask := by
  unfold Alert.grant
  dsimp only
  split <;> simp

theorem setMode_flags (a : Alert) (m : AlertMode) :
    (a.setMode m).requests = a.requests ∧ (a.setMode m).permissions = a.permissions := by
  unfold Alert.setMode
  split <;> exact ⟨rfl, rfl⟩

theorem Effect.reportsInRange {s u : State} (h : Effect s u) (hs : ReportsInRange s) : ReportsInRange u := by
  have rule := reportsInRange_bookRule
  have fresh : ∀ {t : State}, t.link.replies = [] → t.link.sending = [] → t.alert = State.reset.alert → ReportsInRange t :=
    fun replies sending alert => ⟨by simp [replies], by simp [sending], by rw [alert]; decide, by rw [alert]; decide⟩
  cases h with
  | atReset | holdInReset | resetCommand => exact fresh rfl rfl rfl
  | markAbsent | closeZone => exact rule.zoneTrigger (hs.congr (setZone_link ..) (setZone_alert ..)) ..
  | releaseFree i => exact (rule.zoneTrigger hs i .released _).congr (freeZone_link ..) (freeZone_alert ..)
  | releaseRetiring i => exact (rule.zoneTrigger hs i .released _).congr (setZone_link ..) (setZone_alert ..)
  | closeStream n => exact rule.entryTrigger (hs.congr (setStream_link ..) (setStream_alert ..)) ..
  | addGuard g => exact rule.guardTrigger (hs.congr (withGuards_link ..) (withGuards_alert ..)) _
  | laserOnHot => exact rule.enterFault (hs.congr (by simp [State.enterStandby]) (by simp [State.enterStandby])) _
  | laserOff => exact rule.turnOff hs _
  | ackEvents mask =>
    refine ⟨hs.replies, hs.sending, ?_, hs.permissions⟩
    have known := hs.requests
    rw [withAlert_alert, Alert.ack, BitVec.and_assoc, BitVec.and_comm (~~~mask), ← BitVec.and_assoc, known, BitVec.zero_and]
  | setPermissions mask known =>
    obtain ⟨requests, permissions⟩ := grant_requests s.alert mask
    exact ⟨hs.replies, hs.sending, by rw [withAlert_alert, requests]; exact hs.requests,
      by rw [withAlert_alert, permissions]; exact known⟩
  | setAlertMode m =>
    obtain ⟨requests, permissions⟩ := setMode_flags s.alert m
    exact ⟨hs.replies, hs.sending, by rw [withAlert_alert, requests]; exact hs.requests,
      by rw [withAlert_alert, permissions]; exact hs.permissions⟩
  | unmount =>
    rw [unmounted_eq]
    refine rule.flush (hs.congr ?_ ?_) _ <;> unfold tablesCleared <;> dsimp only <;> split <;> simp
  | allStop => exact rule.turnOff (hs.congr (withPort_link ..) (withPort_alert ..)) _
  | busTimeout => exact rule.raise _ (hs.congr (withPort_link ..) (withPort_alert ..))
  | staleFrame => exact ⟨hs.replies, hs.sending, hs.requests, hs.permissions⟩
  | malformed => exact rule.raise _ hs
  | refuse tag reason => exact rule.raise _ (rule.produce _ hs)
  | enroll a => exact rule.queueChanged (hs.congr (withQueue_link ..) (withQueue_alert ..))
  | abort m => exact rule.entryTrigger hs _ m
  | trimStep i d =>
    unfold State.trimStep
    dsimp only
    split
    · exact hs.congr (by simp) (by simp)
    · split
      · exact hs
      · exact rule.raise _ (hs.congr (setZone_link ..) (setZone_alert ..))
  | replySend =>
    obtain ⟨replies, sending⟩ := nextByte_inRange hs.replies hs.sending
    exact ⟨replies, sending, hs.requests, hs.permissions⟩
  | translation tag e =>
    refine rule.completeTranslation hs (fun t i ht => ?_) e
    exact ht.congr (pin_link ..) (pin_alert ..)
  | idleComputation i =>
    have computed : ∀ l, ReportsInRange (s.withLevels l) := fun l => hs.congr (withLevels_link ..) (withLevels_alert ..)
    unfold State.completeIdle State.useIdleSet
    split
    · exact rule.raiseIf ((computed _).congr (drive_link ..) (drive_alert ..)) _ _
    · split
      · exact rule.formReadDrive (computed _)
      · exact computed _
  | rise e =>
    refine rule.riseOn hs (fun t slot ht => ?_) e
    exact ht.congr (markWritten_link ..) (markWritten_alert ..)
  | riseEmpty =>
    have skipped : ReportsInRange ((s.withGate { high := true, record := none }).produceSkip none 0 .noEntry) :=
      rule.raise _ (rule.produce _ (hs.congr (withGate_link ..) (withGate_alert ..)))
    exact skipped.congr (retarget_link _) (retarget_alert _)
  | fall r => exact rule.fallOn hs r
  | warmUp => exact rule.raise _ (rule.raiseIf (rule.enterIdle (rule.withLaser hs _)) _ _)
  | loffAsserted => exact rule.turnOff (rule.withLaser hs _) _
  | temperature temp => exact rule.sampled hs temp
  | gateLimit => exact rule.enterFault hs _
  | pllLost => exact rule.loseLock (rule.withLaser hs _)
  | lossTimer => exact rule.enterUnlocked hs
  | conversion c => exact rule.completeConversion hs c
  | pulseEnd => exact ⟨hs.replies, hs.sending, hs.requests, hs.permissions⟩
  | nothing | loadZone | setPowers | setTrim | setAutotrim | reload | sweep | loadStrategy | releaseStrategy | openStream
  | removeGuard | setLayer | resettle | loadLaserModel | loadCeilings | laserOn | clearFault | levelComputation | fallEmpty
  | transition | markStart | stepEnd | settleEnd | loffReleased | pllRegained | blockSample | idleSample =>
    refine hs.congr ?_ ?_ <;> simp [State.setLayer, State.enterStandby, State.leaveFault, State.setZoneState]

/-! ### The monitor's counts (R149, R151) -/

/-- The mismatch count and the APC offset are in their ranges. -/
structure CountsInRange (m : Monitor) : Prop where
  mismatch : m.mismatch ≤ Config.mismatchLimit
  apc : -64 ≤ m.apc ∧ m.apc ≤ 63

/-- Both counts are as they were. -/
def SameCounts (m n : Monitor) : Prop := n.mismatch = m.mismatch ∧ n.apc = m.apc

section
variable {s : State}

theorem SameCounts.inRange {m n : Monitor} (h : SameCounts m n) (hm : CountsInRange m) : CountsInRange n := by
  obtain ⟨mismatch, apc⟩ := h
  exact ⟨mismatch ▸ hm.mismatch, apc ▸ hm.apc⟩

theorem darken_counts (s : State) (dest : LaserState) : SameCounts s.monitor (s.darken dest).monitor := by
  simp [SameCounts, State.darken, Monitor.killSamples]

theorem enterIdle_counts (s : State) : SameCounts s.monitor s.enterIdle.monitor := by
  simp [SameCounts, State.enterIdle, Monitor.killSamples]

theorem turnOff_counts (s : State) (reason : RevokeReason) : SameCounts s.monitor (s.turnOff reason).monitor := by
  unfold State.turnOff
  split
  · rw [flush_monitor]
    exact darken_counts s _
  · exact ⟨rfl, rfl⟩

theorem enterFault_counts (s : State) (cause : FaultCause) : SameCounts s.monitor (s.enterFault cause).monitor := by
  unfold State.enterFault
  rw [raise_monitor, flush_monitor]
  exact darken_counts (s.withLaser _) _

theorem faultCondition_counts (s : State) (cause : FaultCause) : SameCounts s.monitor (s.faultCondition cause).monitor := by
  unfold State.faultCondition
  split
  · exact enterFault_counts s cause
  · split
    · rw [furtherFault_monitor]
      exact ⟨rfl, rfl⟩
    · exact ⟨rfl, rfl⟩

theorem sampled_counts (temp : Int) (s : State) : SameCounts s.monitor (sampled temp s).monitor := by
  have taken : (s.takeSample temp).warn.monitor = s.monitor := by simp
  unfold sampled
  dsimp only
  rw [refreshIdle_monitor, ← taken]
  split
  · unfold State.overLimitAct
    split
    · exact enterFault_counts _ _
    · split
      · rw [furtherFault_monitor]
        exact ⟨rfl, rfl⟩
      · exact ⟨rfl, rfl⟩
  · exact ⟨rfl, rfl⟩

theorem enterUnlocked_counts (s : State) : SameCounts s.monitor s.enterUnlocked.monitor := by
  unfold State.enterUnlocked
  dsimp only
  split
  · rw [unlockRevoke_monitor]
    exact enterIdle_counts ((s.withLaser _).raise .unlock)
  · exact ⟨by simp, by simp⟩

theorem loseLock_counts (s : State) : SameCounts s.monitor s.loseLock.monitor := by
  unfold State.loseLock
  split
  · split
    · exact enterUnlocked_counts s
    · exact ⟨rfl, rfl⟩
  · exact ⟨rfl, rfl⟩
  · exact ⟨rfl, rfl⟩

theorem fallOn_counts (s : State) (r : BlockRecord) : SameCounts s.monitor (s.fallOn r).monitor := by
  have returned : SameCounts s.monitor s.returnToIdle.monitor := by
    unfold State.returnToIdle
    split
    · exact enterIdle_counts s
    · exact ⟨rfl, rfl⟩
  unfold State.fallOn
  dsimp only
  rw [queueChanged_monitor, withGate_monitor]
  split
  · rw [endEntry_monitor, removeDeferred_monitor]
    exact returned
  · exact returned

theorem riseOn_counts (s : State) (e : Entry) : SameCounts s.monitor (s.riseOn e).monitor := by
  unfold State.riseOn
  rw [retarget_monitor]
  split
  · rw [skipBlock_monitor]
    exact ⟨rfl, rfl⟩
  · rw [serveBlock_eq]
    split <;> simp [SameCounts, Monitor.atServe]

theorem observePeak_counts (s : State) (fmon : MonitorCode) : SameCounts s.monitor (s.observePeak fmon).monitor := by
  unfold State.observePeak
  split <;> exact ⟨rfl, rfl⟩

theorem SameCounts.trans {m n o : Monitor} (h₁ : SameCounts m n) (h₂ : SameCounts n o) : SameCounts m o :=
  ⟨h₂.1.trans h₁.1, h₂.2.trans h₁.2⟩

theorem dueBlockSample_counts (s : State) (fmon : MonitorCode) : SameCounts s.monitor (s.dueBlockSample fmon).monitor := by
  unfold State.dueBlockSample State.takeBlockSample State.sampleWrite State.sampleRead
  (repeat' split) <;> exact ⟨rfl, rfl⟩

theorem dueIdleSample_counts (s : State) (fmon : MonitorCode) : SameCounts s.monitor (s.dueIdleSample fmon).monitor := by
  unfold State.dueIdleSample State.sampleIdle
  (repeat' split) <;> exact ⟨rfl, rfl⟩

theorem stepApc_mem {apc : Int} (h : -64 ≤ apc ∧ apc ≤ 63) (measured target : Nat) :
    -64 ≤ stepApc apc measured target ∧ stepApc apc measured target ≤ 63 := by
  unfold stepApc
  split_ifs <;> omega

theorem setApc_monitor (s : State) (apc : Int) : (s.setApc apc).monitor = { s.monitor with apc := apc } := by
  unfold State.setApc
  dsimp only
  split
  · next same => rw [same]
  · split <;> simp

/-- A comparison counts up to 8 at most, and leaves the APC offset (R149). -/
theorem compare_inRange (c : Conversion) (h : CountsInRange s.monitor) : CountsInRange (s.compare c).monitor := by
  have counted : CountsInRange { s.monitor with mismatch := countAfter c.good s.laser.state.emits s.monitor.mismatch } := by
    refine ⟨?_, h.apc⟩
    have bound := h.mismatch
    unfold countAfter
    dsimp only
    split_ifs <;> omega
  unfold State.compare
  dsimp only
  split
  · exact (faultCondition_counts _ _).inRange counted
  · exact counted

theorem completeConversion_inRange (c : Conversion) (h : CountsInRange s.monitor) :
    CountsInRange (s.completeConversion c).monitor := by
  have compared := compare_inRange (s := s.withMonitor { s.monitor with conversion := none }) c ⟨h.mismatch, h.apc⟩
  unfold State.completeConversion
  dsimp only
  split
  · unfold State.apcStep
    split
    · rw [setApc_monitor]
      exact ⟨compared.mismatch, stepApc_mem compared.apc _ _⟩
    · exact compared
  · split
    · exact compared
    · exact ⟨h.mismatch, h.apc⟩

end

theorem Effect.countsInRange {s u : State} (h : Effect s u) (hs : CountsInRange s.monitor) : CountsInRange u.monitor := by
  have zero : ∀ {m : Monitor}, m.mismatch = 0 → m.apc = 0 → CountsInRange m := fun mismatch apc =>
    ⟨by rw [mismatch]; exact Nat.zero_le _, by rw [apc]; decide⟩
  cases h with
  | atReset | holdInReset | resetCommand => exact zero rfl rfl
  | laserOn => exact zero rfl rfl
  | laserOnHot => exact (enterFault_counts _ _).inRange (zero rfl rfl)
  | laserOff => exact (turnOff_counts s _).inRange hs
  | clearFault => exact (darken_counts (s.withLaser _) _).inRange hs
  | unmount =>
    rw [unmounted_eq, flush_monitor]
    unfold tablesCleared
    dsimp only
    split
    · exact (darken_counts s .off).inRange hs
    · exact hs
  | allStop p => exact (turnOff_counts (s.withPort p) _).inRange hs
  | fall r => exact (fallOn_counts s r).inRange hs
  | rise e => exact (riseOn_counts s e).inRange hs
  | markStart fmon =>
    rw [startMark_monitor]
    exact (observePeak_counts s fmon).inRange hs
  | stepEnd fmon =>
    rw [endStep_monitor]
    exact (observePeak_counts s fmon).inRange hs
  | warmUp =>
    unfold State.endWarmUp
    rw [raise_monitor, raiseIf_monitor]
    exact (enterIdle_counts (s.withLaser _)).inRange hs
  | loffAsserted => exact (turnOff_counts (s.withLaser _) _).inRange hs
  | temperature temp => exact (sampled_counts temp s).inRange hs
  | gateLimit => exact (enterFault_counts s _).inRange hs
  | pllLost => exact (loseLock_counts (s.reportPll false)).inRange hs
  | lossTimer => exact (enterUnlocked_counts s).inRange hs
  | blockSample fmon => exact ((observePeak_counts s fmon).trans (dueBlockSample_counts _ fmon)).inRange hs
  | idleSample fmon => exact ((observePeak_counts s fmon).trans (dueIdleSample_counts _ fmon)).inRange hs
  | conversion c => exact completeConversion_inRange c hs
  | nothing | loadZone | setPowers | setTrim | setAutotrim | reload | markAbsent | closeZone | releaseFree | releaseRetiring
  | sweep | loadStrategy | releaseStrategy | openStream | closeStream | addGuard | removeGuard | setLayer | resettle
  | loadLaserModel | loadCeilings | ackEvents | setPermissions | setAlertMode | busTimeout | staleFrame | malformed | refuse
  | enroll | abort | trimStep | replySend | translation | levelComputation | idleComputation | riseEmpty | fallEmpty
  | transition | settleEnd | loffReleased | pllRegained | pulseEnd =>
    simpa [State.setLayer, State.setZoneState] using hs

/-! ### Streams, guard list and queue (R61, R101, R106) -/

/-- The counters of a stream are at most 4,294,967,295 (R101). -/
def StreamInRange (t : Stream) : Prop := t.served ≤ Config.counterMax ∧ t.skipped ≤ Config.counterMax

theorem countUp_le (n : Nat) : countUp n ≤ Config.counterMax := min_le_left ..

theorem countSkip_inRange {t : Stream} (h : StreamInRange t) : StreamInRange t.countSkip := by
  unfold Stream.countSkip
  split
  · exact h
  · exact ⟨h.1, countUp_le _⟩

theorem countServe_inRange {t : Stream} (h : StreamInRange t) (layer : LayerNo) (block : Nat) :
    StreamInRange (t.countServe layer block) := by
  unfold Stream.countServe
  split
  · exact h
  · exact ⟨countUp_le _, h.2⟩

theorem stream_congr {s t : State} (h : t.streams = s.streams) (n : StreamNo) : t.stream n = s.stream n := by
  simp [State.stream, h]

section
variable {s : State}

theorem setStream_inRange (h : ∀ n, StreamInRange (s.stream n)) (i : StreamNo) {t : Stream} (ht : StreamInRange t) :
    ∀ n, StreamInRange ((s.setStream i t).stream n) := fun n => by
  rw [setStream_stream]
  split
  · exact ht
  · exact h n

theorem riseOn_streamsInRange (e : Entry) (h : ∀ n, StreamInRange (s.stream n)) :
    ∀ n, StreamInRange ((s.riseOn e).stream n) := by
  unfold State.riseOn
  intro n
  rw [stream_congr (retarget_streams _)]
  split
  · unfold State.skipBlock
    dsimp only
    rw [stream_congr (produceSkip_streams ..)]
    exact setStream_inRange h _ (countSkip_inRange (h e.stream)) n
  · next set _ =>
    have served : StreamInRange ((risen s e set).stream n) :=
      setStream_inRange h _ (countServe_inRange (h e.stream) e.layer e.next) n
    rw [serveBlock_eq]
    split
    · rw [stream_congr (startWriting_streams ..), stream_congr (withMonitor_streams ..)]
      simpa [clampsRaised, State.stream] using served
    · rw [stream_congr (startReading_streams ..), stream_congr (withMonitor_streams ..)]
      simpa [clampsRaised, State.stream] using served

theorem unmounted_streams (s : State) (n : StreamNo) : (unmounted s).stream n = { s.stream n with mode := .closed } := by
  have cleared : (tablesCleared s).streams = mapTable s.streams Stream.unmounted := by
    unfold tablesCleared
    dsimp only
    split <;> simp
  rw [unmounted_eq, stream_congr (flush_streams ..), State.stream, cleared]
  exact mapTable_get ..

end

theorem Effect.streamsInRange {s u : State} (h : Effect s u) (hs : ∀ n, StreamInRange (s.stream n)) :
    ∀ n, StreamInRange (u.stream n) := by
  have zero : ∀ mode owner, StreamInRange ⟨mode, owner, 0, 0, none⟩ := fun _ _ => ⟨Nat.zero_le _, Nat.zero_le _⟩
  have frame : ∀ {t : State}, t.streams = s.streams → ∀ n, StreamInRange (t.stream n) := fun streams n => by
    rw [stream_congr streams]; exact hs n
  cases h with
  | atReset | holdInReset | resetCommand =>
    intro n
    have fresh : ∀ {t : State}, t.streams = Vector.replicate 4 Stream.resetContent → t.stream n = Stream.resetContent :=
      fun streams => by simp [State.stream, streams]
    rw [fresh rfl]
    exact zero _ _
  | openStream i mode owner => exact setStream_inRange hs i (zero mode owner)
  | closeStream i =>
    intro n
    have kept : StreamInRange { s.stream i with mode := .closed } := hs i
    rw [stream_congr (entryTrigger_streams ..)]
    exact setStream_inRange hs i kept n
  | unmount =>
    intro n
    rw [unmounted_streams]
    exact hs n
  | rise e => exact riseOn_streamsInRange e hs
  | temperature temp =>
    refine frame ?_
    unfold sampled
    dsimp only
    split <;> simp
  | nothing | loadZone | setPowers | setTrim | setAutotrim | reload | markAbsent | closeZone | releaseFree | releaseRetiring
  | sweep | loadStrategy | releaseStrategy | addGuard | removeGuard | setLayer | resettle | loadLaserModel | loadCeilings
  | laserOn | laserOnHot | laserOff | clearFault | ackEvents | setPermissions | setAlertMode | allStop | busTimeout
  | staleFrame | malformed | refuse | enroll | abort | trimStep | replySend | translation | levelComputation
  | idleComputation | riseEmpty | fall | fallEmpty | transition | markStart | stepEnd | settleEnd | warmUp | loffAsserted
  | loffReleased | gateLimit | pllLost | pllRegained | lossTimer | blockSample | idleSample | conversion | pulseEnd =>
    exact frame (by simp [State.setLayer, State.setZoneState, State.enterStandby, State.leaveFault])

theorem insertGuard_length (g : Guard) (gs : List Guard) : (insertGuard g gs).length = gs.length + 1 := by
  induction gs with
  | nil => rfl
  | cons h rest ih =>
    unfold insertGuard
    split
    · rw [List.length_cons, ih, List.length_cons]
    · rfl

theorem Effect.guards_le {s u : State} (h : Effect s u) (hs : s.guards.length ≤ Config.guardCapacity) :
    u.guards.length ≤ Config.guardCapacity := by
  cases h with
  | atReset | holdInReset | resetCommand => exact Nat.zero_le _
  | addGuard g room =>
    rw [guardTrigger_guards, withGuards_guards, insertGuard_length]
    exact room
  | removeGuard g => exact (List.length_erase_le ..).trans hs
  | unmount =>
    rw [unmounted_eq, flush_guards]
    exact Nat.zero_le _
  | temperature temp =>
    unfold sampled
    dsimp only
    split <;> simpa using hs
  | nothing | loadZone | setPowers | setTrim | setAutotrim | reload | markAbsent | closeZone | releaseFree | releaseRetiring
  | sweep | loadStrategy | releaseStrategy | openStream | closeStream | setLayer | resettle | loadLaserModel | loadCeilings
  | laserOn | laserOnHot | laserOff | clearFault | ackEvents | setPermissions | setAlertMode | allStop | busTimeout
  | staleFrame | malformed | refuse | enroll | abort | trimStep | replySend | translation | levelComputation
  | idleComputation | rise | riseEmpty | fall | fallEmpty | transition | markStart | stepEnd | settleEnd | warmUp
  | loffAsserted | loffReleased | gateLimit | pllLost | pllRegained | lossTimer | blockSample | idleSample | conversion
  | pulseEnd =>
    simpa [State.setLayer, State.setZoneState, State.enterStandby, State.leaveFault] using hs

theorem completeTranslation_length_le (s : State) (e : Entry) : (s.completeTranslation e).queue.length ≤ s.queue.length := by
  unfold State.completeTranslation
  rw [queueChanged_queue]
  split
  · rw [produceRefuse_queue, removeEntries_queue]
    exact List.length_filter_le ..
  · next m _ => exact (acceptEntry_thinned s e m).length_le.trans (List.length_map _).le

theorem riseOn_length (s : State) (e : Entry) : (s.riseOn e).queue.length = s.queue.length := by
  unfold State.riseOn
  rw [retarget_queue]
  split
  · simp [State.skipBlock, State.replaceEntry]
  · rw [serveBlock_eq]
    split <;> simp [clampsRaised, risen, State.replaceEntry]

theorem Effect.queue_le {s u : State} (h : Effect s u) (hs : s.queue.length ≤ Config.queueDepth) :
    u.queue.length ≤ Config.queueDepth := by
  rcases h.requeued with (⟨queue, -⟩ | ⟨thinned, -⟩) | ⟨queue, -⟩ | ⟨a, admitted, rfl⟩ | ⟨tag, e, -, -, rfl⟩ | ⟨e, -, rfl⟩
  · rwa [queue]
  · exact thinned.length_le.trans hs
  · simp [queue]
  · rw [queueChanged_queue, withQueue_queue, List.length_append]
    exact (admission_eq_none admitted).1
  · exact (completeTranslation_length_le s e).trans hs
  · rwa [riseOn_length]

/-! ### All of them -/

theorem withinRanges_iff {s : State} : s.WithinRanges ↔ ReportsInRange s ∧ s.queue.length ≤ Config.queueDepth ∧
    s.guards.length ≤ Config.guardCapacity ∧ CountsInRange s.monitor ∧ (∀ i, ZoneInRange (s.zone i)) ∧
    ∀ n, StreamInRange (s.stream n) := by
  constructor
  · intro h
    exact ⟨⟨h.replies.1, h.replies.2, h.requests, h.permissions⟩, h.queue, h.guards, ⟨h.mismatch, h.apc⟩,
      fun i => ⟨h.trim i, h.autotrim i⟩, h.counters⟩
  · rintro ⟨reports, queue, guards, counts, zones, streams⟩
    exact ⟨⟨reports.replies, reports.sending⟩, queue, guards, counts.mismatch, counts.apc, reports.requests,
      reports.permissions, fun i => (zones i).1, fun i => (zones i).2, streams⟩

theorem Effect.withinRanges {s u : State} (h : Effect s u) (hs : s.WithinRanges) : u.WithinRanges := by
  obtain ⟨reports, queue, guards, counts, zones, streams⟩ := withinRanges_iff.1 hs
  exact withinRanges_iff.2 ⟨h.reportsInRange reports, h.queue_le queue, h.guards_le guards, h.countsInRange counts,
    h.tables.inRange zones, h.streamsInRange streams⟩

theorem tick_withinRanges {s : State} (hs : s.WithinRanges) : s.tick.WithinRanges := by
  obtain ⟨reports, queue, guards, counts, zones, streams⟩ := withinRanges_iff.1 hs
  have alert : s.tick.alert.requests = s.alert.requests ∧ s.tick.alert.permissions = s.alert.permissions := by
    unfold State.tick
    split <;> exact ⟨rfl, rfl⟩
  have monitor : SameCounts s.monitor s.tick.monitor := by
    unfold State.tick
    split <;> exact ⟨rfl, rfl⟩
  refine withinRanges_iff.2 ⟨⟨?_, ?_, ?_, ?_⟩, ?_, ?_, monitor.inRange counts, fun i => ?_, fun n => ?_⟩
  · rw [tick_link]; exact reports.replies
  · rw [tick_link]; exact reports.sending
  · rw [alert.1]; exact reports.requests
  · rw [alert.2]; exact reports.permissions
  · rwa [tick_queue]
  · rwa [tick_guards]
  · rw [zone_congr (tick_zones s)]; exact zones i
  · rw [stream_congr (tick_streams s)]; exact streams n

end Sys2Proof.Laws

/-!
PROOFS. The statement settled: O60.
-/

namespace Sys2Proof.Settled

open Sys2Proof Sys2Proof.Machine Sys2Proof.Laws

/-- Settles O60, block by block. -/
theorem rangesKept : Obligations.RangesKept := by
  unfold Obligations.RangesKept
  intro s t hs h
  have congr : ∀ {s t : State}, t.link = s.link → t.alert = s.alert → t.queue = s.queue → t.guards = s.guards →
      t.monitor = s.monitor → t.zones = s.zones → t.streams = s.streams → s.WithinRanges → t.WithinRanges := by
    intro s t link alert queue guards monitor zones streams hs
    obtain ⟨reports, queueLe, guardsLe, counts, inRange, counters⟩ := withinRanges_iff.1 hs
    exact withinRanges_iff.2 ⟨reports.congr link alert, queue ▸ queueLe, guards ▸ guardsLe, monitor ▸ counts,
      fun i => zone_congr zones i ▸ inRange i, fun n => stream_congr streams n ▸ counters n⟩
  exact step_keeps (P := State.WithinRanges) (fun _ _ => congr rfl rfl rfl rfl rfl rfl rfl)
    (fun _ _ => congr rfl rfl rfl rfl rfl rfl rfl) (fun _ => tick_withinRanges) (fun _ _ effect => effect.withinRanges) h hs

end Sys2Proof.Settled

/-!
PROOFS. The pin counts (R5, R6): each slot's pins are the translations of the queue that name it, through every pin added, every translation
removed and every entry that leaves.
-/

namespace Sys2Proof.Laws

open Sys2Proof Sys2Proof.Machine

/-! ### The counts and the entries apart -/

/-- How many translations of the entries name a slot. -/
def translations (q : List Entry) (i : ZoneSlot) : Nat := (q.map fun e => e.slots.count i).sum

/-- The pins of the slots are n; a Free slot has none and a Retiring one has some left. -/
def Accounts (n : ZoneSlot → Nat) (s : State) : Prop :=
  ∀ i, (s.zone i).pins = n i ∧ ((s.zone i).state = .free → (s.zone i).pins = 0) ∧
    ((s.zone i).state = .retiring → 0 < (s.zone i).pins)

/-- What `PinsCount` asks of an entry. -/
structure EntryPinned (e : Entry) : Prop where
  waiting : e.state = .waiting → e.slots = []
  distinct : e.slots.Nodup
  deferred : e.deferred.Nodup ∧ ∀ i ∈ e.deferred, e.names i = true

theorem pinsCount_iff {s : State} :
    s.PinsCount ↔ Accounts (translations s.queue) s ∧ ∀ e ∈ s.queue, EntryPinned e :=
  ⟨fun h => ⟨fun i => ⟨h.pins i, h.free i, h.retiring i⟩, fun e he => ⟨h.waiting e he, h.distinct e he, h.deferred e he⟩⟩,
    fun ⟨counts, entries⟩ => ⟨fun i => (counts i).1, fun i => (counts i).2.1, fun i => (counts i).2.2,
      fun e he => (entries e he).waiting, fun e he => (entries e he).distinct, fun e he => (entries e he).deferred⟩⟩

section
variable {s t : State} {n m : ZoneSlot → Nat} {q : List Entry} {e : Entry} {i : ZoneSlot}

theorem Accounts.congr (h : Accounts n s) (zones : ∀ i, (t.zone i).pins = (s.zone i).pins ∧ (t.zone i).state = (s.zone i).state) :
    Accounts n t := fun i => by
  obtain ⟨pins, state⟩ := zones i
  rw [pins, state]
  exact h i

theorem Accounts.of_eq (h : Accounts n s) (same : ∀ i, m i = n i) : Accounts m s := fun i => (same i).symm ▸ h i

theorem Accounts.of_zones (h : Accounts n s) (zones : t.zones = s.zones) : Accounts n t :=
  h.congr fun i => by rw [zone_congr zones]; exact ⟨rfl, rfl⟩

/-- Every slot Free: no pins. -/
theorem accounts_of_free (free : ∀ i, s.zone i = Zone.freeContent) : Accounts (fun _ => 0) s := fun i => by
  rw [free i]
  exact ⟨rfl, fun _ => rfl, fun h => by cases h⟩

/-! ### Pins added and removed -/

theorem Accounts.unpin (h : Accounts n s) (i : ZoneSlot) : Accounts (fun j => n j - [i].count j) (s.unpin i) := by
  intro j
  obtain ⟨pins, free, retiring⟩ := h j
  by_cases last : (s.zone i).state = .retiring ∧ (s.zone i).pins ≤ 1
  · rw [unpin_of_freed s i last, zone_congr (raise_zones ..), freeZone_zone]
    split
    · next same =>
      subst same
      refine ⟨?_, fun _ => rfl, fun h => by cases h⟩
      have few := last.2
      simp only [List.count_singleton_self, Zone.freeContent]
      omega
    · next other => simpa [List.count_singleton, other] using h j
  · rw [unpin_of_kept s i last, setZone_zone]
    split
    · next same =>
      subst same
      simp only [List.count_singleton_self]
      refine ⟨by rw [pins], fun isFree => by rw [free isFree], fun isRetiring => ?_⟩
      have some := retiring isRetiring
      have more : ¬ (s.zone i).pins ≤ 1 := fun few => last ⟨isRetiring, few⟩
      omega
    · next other => simpa [List.count_singleton, other] using h j

theorem Accounts.unpinAll (h : Accounts n s) (is : List ZoneSlot) : Accounts (fun j => n j - is.count j) (s.unpinAll is) := by
  unfold State.unpinAll
  induction is generalizing s n with
  | nil => exact h.of_eq fun j => by simp
  | cons i is ih =>
    refine (ih (h.unpin i)).of_eq fun j => ?_
    rw [Nat.sub_sub, ← List.count_append]
    rfl

theorem Accounts.pin (h : Accounts n s) (notFree : (s.zone i).state ≠ .free) :
    Accounts (fun j => n j + [i].count j) (s.pin i) := by
  intro j
  have before := h j
  unfold State.pin
  rw [setZone_zone]
  split
  · next same =>
    subst same
    simp only [List.count_singleton_self]
    exact ⟨by rw [before.1], fun isFree => absurd isFree notFree, fun _ => Nat.succ_pos _⟩
  · next other => simpa [List.count_singleton, other] using before

theorem pin_zone_state (s : State) (i j : ZoneSlot) : ((s.pin i).zone j).state = (s.zone j).state := by
  unfold State.pin
  rw [setZone_zone]
  split
  · next same => rw [same]
  · rfl

theorem Accounts.pins (is : List ZoneSlot) (h : Accounts n s) (notFree : ∀ i ∈ is, (s.zone i).state ≠ .free) :
    Accounts (fun j => n j + is.count j) (is.foldl State.pin s) := by
  induction is generalizing s n with
  | nil => exact h
  | cons i is ih =>
    have rest : ∀ j ∈ is, ((s.pin i).zone j).state ≠ .free := fun j hj => by
      rw [pin_zone_state]
      exact notFree j (List.mem_cons_of_mem _ hj)
    refine (ih (h.pin (notFree i List.mem_cons_self)) rest).of_eq fun j => ?_
    rw [Nat.add_assoc, ← List.count_append]
    rfl

/-! ### The translations of a changed queue -/

@[simp] theorem translations_nil : translations [] i = 0 := rfl

@[simp] theorem translations_cons : translations (e :: q) i = e.slots.count i + translations q i := by simp [translations]

theorem translations_flatMap (q : List Entry) (i : ZoneSlot) : (q.flatMap Entry.slots).count i = translations q i := by
  induction q with
  | nil => rfl
  | cons e q ih => rw [List.flatMap_cons, List.count_append, ih, translations_cons]

/-- The entries that leave and those that stay. -/
theorem translations_filter (q : List Entry) (p : Entry → Bool) (i : ZoneSlot) :
    translations (q.filter fun e => !p e) i + translations (q.filter p) i = translations q i := by
  induction q with
  | nil => rfl
  | cons e q ih => cases h : p e <;> simp [h] <;> omega

theorem translations_map {f : Entry → Entry} (same : ∀ e ∈ q, (f e).slots = e.slots) (i : ZoneSlot) :
    translations (q.map f) i = translations q i := by
  unfold translations
  rw [List.map_map]
  exact congrArg List.sum (List.map_congr_left fun e he => congrArg (List.count i) (same e he))

/-- One entry of the queue is replaced. -/
theorem translations_replace (tags : (q.map Entry.tag).Nodup) (mem : e ∈ q) {e' : Entry} (tag : e'.tag = e.tag) (i : ZoneSlot) :
    translations (q.map fun f => if f.tag = e'.tag then e' else f) i + e.slots.count i =
      translations q i + e'.slots.count i := by
  induction q with
  | nil => cases mem
  | cons f q ih =>
    obtain ⟨fresh, tags⟩ := List.nodup_cons.1 tags
    rw [List.map_cons, translations_cons, translations_cons]
    rcases List.mem_cons.1 mem with rfl | mem
    · have others : q.map (fun f => if f.tag = e'.tag then e' else f) = q := by
        refine (List.map_congr_left fun g hg => if_neg fun same => fresh ?_).trans (List.map_id q)
        exact List.mem_map.2 ⟨g, hg, same.trans tag⟩
      rw [others, if_pos tag.symm]
      omega
    · have other : f.tag ≠ e'.tag := fun same => fresh (List.mem_map.2 ⟨e, mem, (same.trans tag).symm⟩)
      rw [if_neg other]
      have := ih tags mem
      omega

/-! ### Entries changed -/

theorem EntryPinned.congr (h : EntryPinned e) {e' : Entry} (slots : e'.slots = e.slots) (deferred : e'.deferred = e.deferred)
    (state : e'.state = .waiting → e.state = .waiting) : EntryPinned e' where
  waiting w := slots.trans (h.waiting (state w))
  distinct := slots ▸ h.distinct
  deferred := by
    unfold Entry.names
    rw [slots, deferred]
    exact h.deferred

theorem withoutSlot_slots (e : Entry) (i : ZoneSlot) : (e.withoutSlot i).slots = e.slots.filter (· ≠ i) := by
  unfold Entry.slots Entry.withoutSlot
  rw [List.filter_append]
  congr 1
  · cases e.primary with
    | none => rfl
    | some j => by_cases h : j = i <;> simp [Option.filter, h]
  · cases e.secondary with
    | none => rfl
    | some p => by_cases h : p.1 = i <;> simp [Option.filter, h]

theorem EntryPinned.withoutSlot (h : EntryPinned e) (i : ZoneSlot) : EntryPinned (e.withoutSlot i) where
  waiting w := by rw [withoutSlot_slots, h.waiting w]; rfl
  distinct := by rw [withoutSlot_slots]; exact h.distinct.filter _
  deferred := by
    refine ⟨h.deferred.1.filter _, fun j hj => ?_⟩
    obtain ⟨mem, other⟩ := List.mem_filter.1 hj
    have named : j ∈ e.slots := by simpa [Entry.names] using h.deferred.2 j mem
    rw [Entry.names, withoutSlot_slots]
    exact List.contains_iff_mem.2 (List.mem_filter.2 ⟨named, other⟩)

theorem EntryPinned.deferSlot (h : EntryPinned e) (named : e.names i = true) : EntryPinned (e.deferSlot i) := by
  unfold Entry.deferSlot
  split
  · exact h
  · next fresh =>
    refine ⟨h.waiting, h.distinct, ?_, fun j hj => ?_⟩
    · have fresh : i ∉ e.deferred := by simpa using fresh
      exact List.nodup_append.2 ⟨h.deferred.1, List.nodup_singleton i, fun a ha b hb same =>
        fresh (List.mem_singleton.1 hb ▸ same ▸ ha)⟩
    · rcases List.mem_append.1 hj with mem | mem
      · exact h.deferred.2 j mem
      · exact List.mem_singleton.1 mem ▸ named

theorem deferSlot_slots (e : Entry) (i : ZoneSlot) : (e.deferSlot i).slots = e.slots := by
  unfold Entry.deferSlot
  split <;> rfl

theorem withoutSlots_slots (is : List ZoneSlot) (e : Entry) :
    (is.foldl Entry.withoutSlot e).slots = e.slots.filter (· ∉ is) := by
  induction is generalizing e with
  | nil => simp
  | cons i is ih =>
    rw [List.foldl_cons, ih, withoutSlot_slots, List.filter_filter]
    refine List.filter_congr fun j _ => ?_
    simp [Bool.and_comm]

theorem EntryPinned.withoutSlots (is : List ZoneSlot) (h : EntryPinned e) : EntryPinned (is.foldl Entry.withoutSlot e) := by
  induction is generalizing e with
  | nil => exact h
  | cons i is ih => exact ih (h.withoutSlot i)

/-- Slots taken from a list without duplicates that has them all. -/
theorem count_filter_add {slots is : List ZoneSlot} (distinct : slots.Nodup) (nodup : is.Nodup) (has : ∀ i ∈ is, i ∈ slots)
    (j : ZoneSlot) : (slots.filter (· ∉ is)).count j + is.count j = slots.count j := by
  have count : ∀ {l : List ZoneSlot}, l.Nodup → l.count j = if j ∈ l then 1 else 0 := fun hl => by
    split
    · next mem => exact List.count_eq_one_of_mem hl mem
    · next notMem => exact List.count_eq_zero_of_not_mem notMem
  rw [count (distinct.filter _), count nodup, count distinct]
  by_cases taken : j ∈ is
  · simp [taken, has j taken]
  · simp [taken]

end

/-! ### What the shared operations keep -/

namespace Pins

variable {s t : State}

theorem frame (h : s.PinsCount) (zones : t.zones = s.zones) (queue : t.queue = s.queue) : t.PinsCount := by
  obtain ⟨counts, entries⟩ := pinsCount_iff.1 h
  rw [pinsCount_iff, queue]
  exact ⟨counts.of_zones zones, entries⟩

/-- A descriptor changes without its pins, and comes neither to Free nor to Retiring. -/
theorem setZone (h : s.PinsCount) {i : ZoneSlot} {z : Zone} (pins : z.pins = (s.zone i).pins)
    (state : z.state = (s.zone i).state ∨ z.inUse = true) : (s.setZone i z).PinsCount := by
  obtain ⟨counts, entries⟩ := pinsCount_iff.1 h
  refine pinsCount_iff.2 ⟨fun j => ?_, entries⟩
  rw [setZone_zone]
  split
  · next same =>
    subst same
    rw [pins]
    rcases state with state | inUse
    · rw [state]
      exact counts i
    · obtain ⟨notFree, notRetiring⟩ := inUse_iff.1 inUse
      exact ⟨(counts i).1, fun free => absurd free notFree, fun retiring => absurd retiring notRetiring⟩
  · exact counts j

theorem removeEntries (h : s.PinsCount) (p : Entry → Bool) : (s.removeEntries p).PinsCount := by
  obtain ⟨counts, entries⟩ := pinsCount_iff.1 h
  rw [pinsCount_iff, removeEntries_queue]
  refine ⟨?_, fun e he => entries e (List.mem_of_mem_filter he)⟩
  refine ((counts.unpinAll ((s.queue.filter p).flatMap Entry.slots)).of_zones (removeEntries_tables s p).1).of_eq fun i => ?_
  have := translations_filter s.queue p i
  rw [translations_flatMap]
  omega

theorem queueChanged (h : s.PinsCount) : s.queueChanged.PinsCount := frame h (queueChanged_zones _) (queueChanged_queue _)

theorem revoke (h : s.PinsCount) (reason : RevokeReason) (cut : Entry → Option Nat) : (s.revoke reason cut).PinsCount := by
  obtain ⟨counts, entries⟩ := pinsCount_iff.1 h
  rw [revoke_eq]
  refine removeEntries (pinsCount_iff.2 ⟨?_, fun e he => ?_⟩) _
  · refine (counts.of_zones (t := cutState s reason cut) ?_).of_eq fun i => ?_
    · simp [cutState]
    · have cuts : ∀ e ∈ s.queue, (cutEntry cut e).slots = e.slots := fun e _ => by rw [cutEntry_eq]; rfl
      rw [show (cutState s reason cut).queue = s.queue.map (cutEntry cut) by simp [cutState], translations_map cuts]
  · obtain ⟨e, mem, rfl⟩ := List.mem_map.1 (show e ∈ s.queue.map (cutEntry cut) by simpa [cutState] using he)
    exact (entries e mem).congr (by rw [cutEntry_eq]; rfl) (by rw [cutEntry_eq]) fun w => by rwa [cutEntry_state] at w

theorem entryTrigger (h : s.PinsCount) (reason : RevokeReason) (m : Entry → Bool) : (s.entryTrigger reason m).PinsCount :=
  queueChanged (revoke h reason _)

theorem guardTrigger (h : s.PinsCount) (g : Guard) : (s.guardTrigger g).PinsCount := queueChanged (revoke h _ _)

/-- Where a translation is removed at once, a pin goes with it (R6). -/
theorem dropSlot (h : s.PinsCount) (i : ZoneSlot) (considered : Entry → Bool) : (s.dropSlot i considered).PinsCount := by
  obtain ⟨counts, entries⟩ := pinsCount_iff.1 h
  unfold State.dropSlot
  dsimp only
  rw [pinsCount_iff, unpinAll_queue, withQueue_queue]
  refine ⟨?_, fun e he => ?_⟩
  · refine (Accounts.unpinAll (Accounts.of_zones counts (t := s.withQueue _) (withQueue_zones ..)) _).of_eq fun j => ?_
    refine Nat.eq_sub_of_add_eq ?_
    generalize s.queue = q at entries
    induction q with
    | nil => rfl
    | cons e q ih =>
      have ih := ih fun f hf => entries f (List.mem_cons_of_mem _ hf)
      have pinned := entries e List.mem_cons_self
      rw [List.map_cons, translations_cons, translations_cons]
      by_cases named : (considered e && e.names i) = true
      · by_cases serves : s.servesIn e (s.zone i).first (s.zone i).last = true
        · rw [if_pos named, if_pos serves, deferSlot_slots, List.filter_cons_of_neg (by simp [serves])]
          omega
        · have mem : i ∈ e.slots := by simpa [Entry.names] using (Bool.and_eq_true_iff.1 named).2
          have one : (e.slots.filter (· ≠ i)).count j + [i].count j = e.slots.count j := by
            simpa only [List.mem_singleton] using
              count_filter_add pinned.distinct (List.nodup_singleton i) (by simpa using mem) j
          rw [if_pos named, if_neg serves, withoutSlot_slots, List.filter_cons_of_pos (by simp [named, serves]), List.map_cons,
            ← List.singleton_append, List.count_append]
          omega
      · rw [if_neg named, List.filter_cons_of_neg (by simp [named])]
        omega
  · obtain ⟨f, mem, rfl⟩ := List.mem_map.1 he
    have pinned := entries f mem
    split
    · next named =>
      split
      · exact pinned.deferSlot (Bool.and_eq_true_iff.1 named).2
      · exact pinned.withoutSlot i
    · exact pinned

theorem zoneTrigger (h : s.PinsCount) (i : ZoneSlot) (reason : RevokeReason) (considered : Entry → Bool) :
    (s.zoneTrigger i reason considered).PinsCount :=
  queueChanged (dropSlot (revoke h reason _) i _)

theorem flush (h : s.PinsCount) (reason : RevokeReason) : (s.flush reason).PinsCount :=
  queueChanged (removeEntries (frame h (produceRevokes_zones ..) (produceRevokes_queue ..)) _)

theorem turnOff (h : s.PinsCount) (reason : RevokeReason) : (s.turnOff reason).PinsCount := by
  unfold State.turnOff
  split
  · exact flush (frame h (by simp) (by simp)) reason
  · exact h

theorem enterFault (h : s.PinsCount) (cause : FaultCause) : (s.enterFault cause).PinsCount := by
  unfold State.enterFault
  refine frame (flush (s := State.darken _ .fault) (frame h ?_ ?_) .fault) (raise_zones ..) (raise_queue ..) <;> simp

theorem faultCondition (h : s.PinsCount) (cause : FaultCause) : (s.faultCondition cause).PinsCount := by
  unfold State.faultCondition
  split
  · exact enterFault h cause
  · split
    · exact frame h (by simp) (by simp)
    · exact h

theorem sampled (h : s.PinsCount) (temp : Int) : (sampled temp s).PinsCount := by
  have taken : (s.takeSample temp).warn.PinsCount := frame h (by simp) (by simp)
  unfold Laws.sampled
  dsimp only
  split
  · refine frame ?_ (refreshIdle_zones _) (refreshIdle_queue _)
    unfold State.overLimitAct
    split
    · exact enterFault taken _
    · split
      · exact frame taken (by simp) (by simp)
      · exact taken
  · exact frame taken (refreshIdle_zones _) (refreshIdle_queue _)

theorem enterUnlocked (h : s.PinsCount) : s.enterUnlocked.PinsCount := by
  have revoked : ∀ {u : State}, u.PinsCount → u.unlockRevoke.PinsCount := fun hu => by
    unfold State.unlockRevoke
    dsimp only
    refine queueChanged (frame ?_ (withLevels_zones ..) (withLevels_queue ..))
    split
    · split
      · exact removeEntries (frame hu (produceRevokes_zones ..) (produceRevokes_queue ..)) _
      · exact hu
    · exact hu
  unfold State.enterUnlocked
  dsimp only
  split
  · exact revoked (frame h (by simp) (by simp))
  · exact frame h (by simp) (by simp)

theorem loseLock (h : s.PinsCount) : s.loseLock.PinsCount := by
  unfold State.loseLock
  split
  · split
    · exact enterUnlocked h
    · exact frame h (by simp) (by simp)
  · exact h
  · exact h

theorem completeConversion (h : s.PinsCount) (c : Conversion) : (s.completeConversion c).PinsCount := by
  have compared : ((s.withMonitor { s.monitor with conversion := none }).compare c).PinsCount := by
    unfold State.compare
    dsimp only
    split
    · exact faultCondition (frame h (by simp) (by simp)) _
    · exact frame h (by simp) (by simp)
  unfold State.completeConversion
  dsimp only
  split
  · exact frame compared (apcStep_zones ..) (apcStep_queue ..)
  · split
    · exact compared
    · exact frame h (by simp) (by simp)

theorem complete (h : s.PinsCount) (e : Entry) : (s.complete e).PinsCount :=
  removeEntries (frame h (produce_zones ..) (produce_queue ..)) _

/-- The entry of a tag is replaced by one with other translations, and the pins follow it. -/
theorem replace (h : s.PinsCount) (tags : (s.queue.map Entry.tag).Nodup) {e e' : Entry} (mem : e ∈ s.queue) (tag : e'.tag = e.tag)
    (pinned : EntryPinned e') (queue : t.queue = s.queue.map fun f => if f.tag = e'.tag then e' else f)
    (pins : ∀ {n : ZoneSlot → Nat}, Accounts n s → (∀ i, e.slots.count i ≤ n i) →
      Accounts (fun i => n i + e'.slots.count i - e.slots.count i) t) : t.PinsCount := by
  obtain ⟨counts, entries⟩ := pinsCount_iff.1 h
  have within : ∀ i, e.slots.count i ≤ translations s.queue i := fun i =>
    List.le_sum_of_mem (List.mem_map.2 ⟨e, mem, rfl⟩)
  rw [pinsCount_iff, queue]
  refine ⟨(pins counts within).of_eq fun i => ?_, fun f hf => ?_⟩
  · have := translations_replace tags mem tag i
    omega
  · obtain ⟨g, hg, rfl⟩ := List.mem_map.1 hf
    split
    · exact pinned
    · exact entries g hg

/-! ### The translation of an entry (R64 to R68) -/

theorem inUse_of_lookUp {layer : LayerNo} {b : Nat} {i : ZoneSlot} (h : s.lookUp layer b = some i) :
    (s.zone i).state ≠ .free :=
  (inUse_iff.1 (covers_iff.1 (covers_of_lookUp h)).1).1

theorem translationCheck_lookUp {e : Entry} {i : ZoneSlot} (h : s.translationCheck e = .ok i) :
    s.lookUp e.layer e.start = some i := by
  unfold State.translationCheck at h
  dsimp only at h
  split at h
  · cases h
  · split at h
    · cases h
    · split at h
      · cases h
      · split at h
        · cases h
        · next found =>
          split at h
          · cases h
          · split at h
            · cases h
            · split at h
              · cases h
              · split at h
                · cases h
                · obtain rfl := Except.ok.inj h
                  exact found

/-- The secondary slot covers the block after the primary one's last. -/
theorem cutRun_slots (s : State) (e : Entry) (i : ZoneSlot) : (s.cutRun e i).primary = i ∧
    ∀ p ∈ (s.cutRun e i).secondary, s.lookUp e.layer ((s.zone i).last + 1) = some p.1 := by
  have whole : ∀ t : Translated, t = (if e.start + min e.requested (Config.maxBlock + 1 - e.start) ≤ (s.zone i).last + 1 then
        ⟨min e.requested (Config.maxBlock + 1 - e.start), i, none⟩
      else match s.secondaryFor e ((s.zone i).last + 1) with
        | some j => ⟨min e.requested (Config.maxBlock + 1 - e.start), i, some (j, (s.zone i).last + 1)⟩
        | none => ⟨(s.zone i).last + 1 - e.start, i, none⟩) →
      t.primary = i ∧ ∀ p ∈ t.secondary, s.lookUp e.layer ((s.zone i).last + 1) = some p.1 := by
    rintro t rfl
    split
    · exact ⟨rfl, fun p hp => by cases hp⟩
    · split
      · next j found =>
        refine ⟨rfl, fun p hp => ?_⟩
        obtain rfl := Option.some.inj hp
        exact (Option.filter_eq_some_iff.1 found).1
      · exact ⟨rfl, fun p hp => by cases hp⟩
  unfold State.cutRun
  dsimp only
  split
  · split
    · exact ⟨rfl, fun p hp => (whole _ rfl).2 p (Option.filter_eq_some_iff.1 hp).1⟩
    · exact whole _ rfl
  · exact whole _ rfl

theorem completeTranslation (h : s.PinsCount) (tags : (s.queue.map Entry.tag).Nodup) {e : Entry} (mem : e ∈ s.queue)
    (waiting : e.state = .waiting) : (s.completeTranslation e).PinsCount := by
  have before := (pinsCount_iff.1 h).2 e mem
  have none := before.waiting waiting
  unfold State.completeTranslation
  refine queueChanged ?_
  split
  · exact frame (removeEntries h _) (produceRefuse_zones ..) (produceRefuse_queue ..)
  · next m found =>
    unfold State.translate at found
    split at found
    · cases found
    · next i check =>
      obtain rfl := Except.ok.inj found
      have covered := translationCheck_lookUp check
      obtain ⟨primary, secondary⟩ := cutRun_slots s e i
      have inUse : ∀ j ∈ (e.accept (s.cutRun e i)).slots, (s.zone j).state ≠ .free := fun j hj => by
        rcases List.mem_append.1 hj with hj | hj
        · have atI : j = i := by simpa [Entry.accept, primary] using hj
          exact atI ▸ inUse_of_lookUp covered
        · obtain ⟨p, hp, rfl⟩ : ∃ p ∈ (s.cutRun e i).secondary, p.1 = j := by simpa [Entry.accept] using hj
          exact inUse_of_lookUp (secondary p hp)
      have pinned : EntryPinned (e.accept (s.cutRun e i)) := by
        refine ⟨fun waits => (by cases waits), ?_, before.deferred.1, fun j hj => ?_⟩
        · refine List.nodup_append.2 ⟨by simp [Entry.accept], ?_, fun a ha b hb same => ?_⟩
          · exact Option.toList_nodup _
          · have atI : a = i := by simpa [Entry.accept, primary] using ha
            obtain ⟨p, hp, rfl⟩ : ∃ p ∈ (s.cutRun e i).secondary, p.1 = b := by simpa [Entry.accept] using hb
            have beyond := (covers_iff.1 (covers_of_lookUp (secondary p hp))).2.2.2
            rw [← same, atI] at beyond
            omega
        · have := before.deferred.2 j hj
          simp [Entry.names, none] at this
      have accepted : ((((e.accept (s.cutRun e i)).slots.foldl State.pin s).replaceEntry (e.accept (s.cutRun e i))).produce
          (.accept e.tag (s.cutRun e i).run (s.cutRun e i).secondary.isSome)).PinsCount := by
        refine replace h tags mem (e' := e.accept (s.cutRun e i)) rfl pinned ?_ fun counts _ => ?_
        · rw [produce_queue, State.replaceEntry, withQueue_queue, pins_queue]
        · refine ((counts.pins _ inUse).of_zones ?_).of_eq fun j => by simp [none]
          rw [produce_zones, State.replaceEntry, withQueue_zones]
      unfold State.acceptEntry
      dsimp only
      split
      · exact complete accepted _
      · exact accepted

/-! ### Rise and fall -/

theorem markWritten (h : s.PinsCount) (slot : Option ZoneSlot) : (s.markWritten slot).PinsCount := by
  cases slot with
  | none => exact h
  | some i => exact setZone h rfl (.inl rfl)

/-- The entry whose block is taken keeps its translations. -/
theorem riseOn (h : s.PinsCount) (tags : (s.queue.map Entry.tag).Nodup) {e : Entry} (mem : e ∈ s.queue) :
    (s.riseOn e).PinsCount := by
  have pinned := (pinsCount_iff.1 h).2 e mem
  have taken : ∀ {t : State} (e' : Entry), t.zones = s.zones →
      t.queue = s.queue.map (fun f => if f.tag = e'.tag then e' else f) → e'.tag = e.tag → e'.slots = e.slots →
      e'.deferred = e.deferred → (e'.state = .waiting → e.state = .waiting) → t.PinsCount :=
    fun e' zones queue tag slots deferred state =>
      replace h tags mem tag (pinned.congr slots deferred state) queue fun counts _ =>
        (counts.of_zones zones).of_eq fun i => by rw [slots]; omega
  unfold State.riseOn
  refine frame ?_ (retarget_zones _) (retarget_queue _)
  split
  · exact taken { e.taken with skipped := e.skipped + 1 } (by simp [State.skipBlock, State.replaceEntry])
      (by simp [State.skipBlock, State.replaceEntry]) rfl rfl rfl taken_state.1
  · next set _ =>
    have risen : (clampsRaised (risen s e set) set).PinsCount :=
      taken { e.taken with served := e.served + 1 } (by simp [clampsRaised, Laws.risen, State.replaceEntry])
        (by simp [clampsRaised, Laws.risen, State.replaceEntry]) rfl rfl rfl taken_state.1
    rw [serveBlock_eq]
    split
    · exact markWritten (frame risen (by simp) (by simp)) _
    · exact frame risen (by simp) (by simp)

theorem fallOn (h : s.PinsCount) (tags : (s.queue.map Entry.tag).Nodup) (r : BlockRecord) : (s.fallOn r).PinsCount := by
  have returned : s.returnToIdle.PinsCount := frame h (returnToIdle_zones _) (returnToIdle_queue _)
  unfold State.fallOn
  dsimp only
  refine queueChanged (frame ?_ (withGate_zones ..) (withGate_queue ..))
  split
  · next e found =>
    have mem := List.mem_of_find?_eq_some found
    have pinned := (pinsCount_iff.1 returned).2 e mem
    have has : ∀ i ∈ e.deferred, i ∈ e.slots := fun i hi => by simpa [Entry.names] using pinned.deferred.2 i hi
    have removed : (s.returnToIdle.removeDeferred e).PinsCount := by
      refine replace returned (by rwa [returnToIdle_queue]) mem (foldl_withoutSlot_edited e.deferred e).tag
        (pinned.withoutSlots e.deferred) ?_ fun counts within => ?_
      · rw [State.removeDeferred, unpinAll_queue, State.replaceEntry, withQueue_queue]
      · refine (Accounts.unpinAll (counts.of_zones (t := s.returnToIdle.replaceEntry _) ?_) e.deferred).of_eq fun i => ?_
        · rw [State.replaceEntry, withQueue_zones]
        · have := count_filter_add pinned.distinct pinned.deferred.1 has i
          have := within i
          rw [withoutSlots_slots]
          omega
    unfold State.endEntry
    split
    · exact removeEntries removed _
    · split
      · exact complete removed _
      · exact removed
  · exact returned

end Pins

/-! ### Every change -/

section
variable {s t u : State}

theorem queueOrdered_frame (h : s.QueueOrdered) (queue : t.queue = s.queue) (translating : t.translating = s.translating) :
    t.QueueOrdered := by
  rw [queueOrdered_iff, queue, translating]
  exact queueOrdered_iff.1 h

theorem pinsCount_of_empty (free : ∀ i, t.zone i = Zone.freeContent) (queue : t.queue = []) : t.PinsCount := by
  rw [pinsCount_iff, queue]
  exact ⟨accounts_of_free free, fun e he => by cases he⟩

/-- A slot with no pin left becomes Free. -/
theorem pinsCount_freeZone (h : s.PinsCount) {i : ZoneSlot} (unpinned : (s.zone i).pins = 0) : (s.freeZone i).PinsCount := by
  obtain ⟨counts, entries⟩ := pinsCount_iff.1 h
  rw [pinsCount_iff, freeZone_queue]
  refine ⟨fun j => ?_, entries⟩
  rw [freeZone_zone]
  split
  · next same =>
    subst same
    exact ⟨unpinned.symm.trans (counts i).1, fun _ => rfl, fun h => by cases h⟩
  · exact counts j

/-- A slot with pins left becomes Retiring. -/
theorem pinsCount_retire (h : s.PinsCount) {i : ZoneSlot} (pinned : (s.zone i).pins ≠ 0) :
    (s.setZoneState i .retiring).PinsCount := by
  obtain ⟨counts, entries⟩ := pinsCount_iff.1 h
  refine pinsCount_iff.2 ⟨fun j => ?_, entries⟩
  unfold State.setZoneState
  rw [setZone_zone]
  split
  · next same =>
    subst same
    exact ⟨(counts i).1, fun free => (by cases free), fun _ => Nat.pos_of_ne_zero pinned⟩
  · exact counts j

theorem pinsCount_loadZone (h : s.PinsCount) {d : ZoneLoad} (free : (s.zone d.slot).state = .free) :
    ((s.addRef d.strategy).setZone d.slot d.zone).PinsCount := by
  have refs : (s.addRef d.strategy).PinsCount := Pins.frame h (addRef_zones ..) (addRef_queue ..)
  refine Pins.setZone refs ?_ (.inr rfl)
  rw [addRef_zone, h.free _ free]
  rfl

theorem pinsCount_trimStep (h : s.PinsCount) (i : ZoneSlot) (d : Int) : (s.trimStep i d).PinsCount := by
  unfold State.trimStep
  dsimp only
  split
  · exact Pins.frame (Pins.setZone h (i := i) (z := { s.zone i with trim := (s.zone i).trim + d }) rfl (.inl rfl))
      (handOn_zones ..) (handOn_queue ..)
  · split
    · exact h
    · exact Pins.frame (Pins.setZone h (i := i) (z := { s.zone i with trimLimit := true }) rfl (.inl rfl))
        (raise_zones ..) (raise_queue ..)

theorem pinsCount_enroll (h : s.PinsCount) (a : Announcement) :
    (s.withQueue (s.queue ++ [announcedEntry a])).queueChanged.PinsCount := by
  obtain ⟨counts, entries⟩ := pinsCount_iff.1 h
  refine Pins.queueChanged (pinsCount_iff.2 ⟨?_, fun e he => ?_⟩)
  · refine Accounts.of_eq counts fun i => ?_
    simp [translations, announcedEntry, Entry.slots]
  · rcases List.mem_append.1 he with he | he
    · exact entries e he
    · obtain rfl := List.mem_singleton.1 he
      exact ⟨fun _ => rfl, List.nodup_nil, List.nodup_nil, fun i hi => by cases hi⟩

theorem Effect.pinsCount (effect : Effect s u) (ordered : s.QueueOrdered) (h : s.PinsCount) : u.PinsCount := by
  cases effect with
  | atReset | holdInReset | resetCommand => exact pinsCount_of_empty (fun i => zone_of_replicate rfl i) rfl
  | loadZone d free apart serves => exact pinsCount_loadZone h free
  | setPowers i p inUse =>
    exact Pins.frame (Pins.setZone h (z := { s.zone i with powers := p }) rfl (.inl rfl)) (handOn_zones ..) (handOn_queue ..)
  | setTrim i v inUse =>
    exact Pins.frame (Pins.setZone h (z := { s.zone i with trim := clampInt (-128) 127 v, trimLimit := false }) rfl (.inl rfl))
      (handOn_zones ..) (handOn_queue ..)
  | setAutotrim i on target deadband inUse =>
    exact Pins.setZone h (z := { s.zone i with
      autoTrim := on, target := clampInt (-100) 100 target, deadband := min 20 deadband, trimLimit := false }) rfl (.inl rfl)
  | reload i inUse => exact Pins.setZone h (z := { s.zone i with state := .loaded }) rfl (.inr rfl)
  | markAbsent i loaded =>
    exact Pins.zoneTrigger (Pins.setZone h (z := { s.zone i with state := .absent }) rfl (.inr rfl)) ..
  | closeZone i loaded =>
    exact Pins.zoneTrigger (Pins.setZone h (z := { s.zone i with state := .closed }) rfl (.inr rfl)) ..
  | releaseFree i inUse unpinned => exact pinsCount_freeZone (Pins.zoneTrigger h ..) unpinned
  | releaseRetiring i inUse pinned => exact pinsCount_retire (Pins.zoneTrigger h ..) pinned
  | sweep layer =>
    obtain ⟨counts, entries⟩ := pinsCount_iff.1 h
    refine pinsCount_iff.2 ⟨counts.congr fun i => ?_, entries⟩
    rw [mapTable_zone]
    split <;> exact ⟨rfl, rfl⟩
  | closeStream n => exact Pins.entryTrigger (Pins.frame h (setStream_zones ..) (setStream_queue ..)) ..
  | addGuard g room => exact Pins.guardTrigger (Pins.frame h (withGuards_zones ..) (withGuards_queue ..)) g
  | laserOnHot off => exact Pins.enterFault (Pins.frame h (by simp [State.enterStandby]) (by simp [State.enterStandby])) _
  | laserOff => exact Pins.turnOff h _
  | unmount => exact pinsCount_of_empty (unmounted_tables s).1 (by rw [unmounted_eq]; exact flush_queue ..)
  | allStop p => exact Pins.turnOff (Pins.frame h (withPort_zones ..) (withPort_queue ..)) _
  | enroll a admitted => exact pinsCount_enroll h a
  | abort m => exact Pins.entryTrigger h ..
  | trimStep i d inUse => exact pinsCount_trimStep h i d
  | translation tag e inFlight found =>
    have oldest := waiting_of_oldest (oldest_of_translating ordered inFlight found)
    exact Pins.completeTranslation h ordered.tags oldest.1 oldest.2
  | rise e low taken =>
    rw [takenEntry_eq_head (queueOrdered_iff.1 ordered).1] at taken
    exact Pins.riseOn h ordered.tags (List.mem_of_head? taken)
  | fall r high record => exact Pins.fallOn h ordered.tags r
  | loffAsserted => exact Pins.turnOff (Pins.frame h (withLaser_zones ..) (withLaser_queue ..)) _
  | temperature temp => exact Pins.sampled h temp
  | gateLimit writing => exact Pins.enterFault h _
  | pllLost => exact Pins.loseLock (Pins.frame h (by simp) (by simp))
  | lossTimer => exact Pins.enterUnlocked h
  | conversion c inFlight => exact Pins.completeConversion h c
  | nothing | loadStrategy | releaseStrategy | openStream | removeGuard | setLayer | resettle | loadLaserModel
  | loadCeilings | laserOn | clearFault | ackEvents | setPermissions | setAlertMode | busTimeout | staleFrame | malformed
  | refuse | replySend | levelComputation | idleComputation | riseEmpty | fallEmpty | transition | markStart | stepEnd
  | settleEnd | warmUp | loffReleased | pllRegained | blockSample | idleSample | pulseEnd =>
    refine Pins.frame h ?_ ?_ <;> simp [State.setLayer, State.enterStandby, State.leaveFault]

end

end Sys2Proof.Laws

/-!
PROOFS. The statement settled: O58.
-/

namespace Sys2Proof.Settled

open Sys2Proof Sys2Proof.Machine Sys2Proof.Laws

/-- Settles O58: with the queue ordered, every pin goes with a translation. -/
theorem pinsCountKept : Obligations.PinsCountKept := by
  unfold Obligations.PinsCountKept
  intro s t ordered hs h
  have both : t.QueueOrdered ∧ t.PinsCount :=
    step_keeps (P := fun s => s.QueueOrdered ∧ s.PinsCount)
      (fun _ _ ⟨ordered, pins⟩ => ⟨queueOrdered_frame ordered rfl rfl, Pins.frame pins rfl rfl⟩)
      (fun _ _ ⟨ordered, pins⟩ => ⟨queueOrdered_frame ordered rfl rfl, Pins.frame pins rfl rfl⟩)
      (fun s ⟨ordered, pins⟩ =>
        ⟨queueOrdered_frame ordered (tick_queue s) (tick_translating s), Pins.frame pins (tick_zones s) (tick_queue s)⟩)
      (fun _ _ effect ⟨ordered, pins⟩ => ⟨effect.queueOrdered ordered, effect.pinsCount ordered pins⟩) h ⟨ordered, hs⟩
  exact both.2

end Sys2Proof.Settled

/-!
PROOFS. The laser's promises (R43, R52, R62, R124, R125, R134): what the output, the write path and the gate promise each other, what the
level sets promise of Imax, and that nothing is left to compute while the laser is dark.
-/

namespace Sys2Proof.Laws

open Sys2Proof Sys2Proof.Machine

/-! ### The promises, block by block -/

/-- What laser, write path and gate promise each other. -/
structure OutputSafe (l : Laser) (w : Option WritePath) (g : Gate) : Prop where
  writing : l.state = .writing → l.clock = .locked ∧ l.gateTimer.isSome = true ∧ w.isSome = true ∧ g.high = true ∧
    ∃ r, g.record = some r ∧ r.outcome = .served ∧ r.intent ≠ .read
  reading : l.state = .reading → g.high = true ∧ ∃ r, g.record = some r ∧ r.outcome = .served ∧ r.intent = .read
  otherwise : l.state ≠ .writing → l.gateTimer = none ∧ w = none
  ceiling : l.current ≤ l.ceilings.imax
  dark : l.state = .off ∨ l.state = .fault → l.current = 0
  level : l.state ≠ .writing → l.lsel = .read
  path : ∀ p, w = some p → p.peak ≤ l.ceilings.imax ∧ p.bias ≤ l.ceilings.imax ∧ p.bottom ≤ l.ceilings.imax

/-- What the block sets promise of Imax. -/
structure SetsSafe (imax : Nat) (v : LevelComputer) : Prop where
  standInFollows : v.prepared = .absent → v.standIn = none
  computing : ∀ i, v.prepared = .computing i → i.ceilings.imax = imax
  ready : ∀ l, v.prepared = .ready l → l.within imax
  standIn : ∀ l, v.standIn = some l → l.within imax

/-- What holds also in the middle of an event. -/
structure Safe (s : State) : Prop where
  out : OutputSafe s.laser s.writePath s.gate
  sets : SetsSafe s.laser.ceilings.imax s.levels
  idle : s.laser.state.on = true → ∀ i, s.levels.idleComp = some i → i.ceilings.imax = s.laser.ceilings.imax

theorem emission_iff {s : State} :
    s.Emission ↔ Safe s ∧ (s.laser.state.emits = false → s.queue = [] ∧ s.levels.prepared = .absent) := by
  constructor
  · intro h
    exact ⟨⟨⟨h.service.writing, h.service.reading, h.service.otherwise, h.ceiling, h.dark, h.level, h.path⟩,
      ⟨h.standInFollows, h.computing, h.ready, h.standIn⟩, h.idle⟩, h.quiet⟩
  · rintro ⟨⟨out, sets, idle⟩, quiet⟩
    exact ⟨⟨out.writing, out.reading, out.otherwise⟩, out.ceiling, out.dark, out.level, quiet, sets.standInFollows,
      sets.computing, sets.ready, sets.standIn, idle, out.path⟩

/-! ### What the promises are about -/

/-- Of the gate: whether it is high, and what its record says of the service. -/
def service (g : Gate) : Bool × Option (BlockOutcome × Intent) := (g.high, g.record.map fun r => (r.outcome, r.intent))

/-- The fields of the laser that the output shows. -/
structure SameOutput (l l' : Laser) : Prop where
  state : l'.state = l.state
  clock : l'.clock = l.clock
  gateTimer : l'.gateTimer.isSome = l.gateTimer.isSome
  ceilings : l'.ceilings = l.ceilings
  current : l'.current = l.current
  lsel : l'.lsel = l.lsel

/-- The block sets and the idle computation in flight. -/
structure SameSets (v v' : LevelComputer) : Prop where
  prepared : v'.prepared = v.prepared
  standIn : v'.standIn = v.standIn
  idleComp : v'.idleComp = v.idleComp

section
variable {s t u : State} {l l' : Laser} {w : Option WritePath} {g g' : Gate} {imax : Nat} {v : LevelComputer}

theorem sameOutput_of_eq (h : l' = l) : SameOutput l l' := h ▸ ⟨rfl, rfl, rfl, rfl, rfl, rfl⟩

theorem sameSets_of_eq {v v' : LevelComputer} (h : v' = v) : SameSets v v' := h ▸ ⟨rfl, rfl, rfl⟩

theorem SameOutput.trans {l₁ l₂ l₃ : Laser} (h : SameOutput l₁ l₂) (h' : SameOutput l₂ l₃) : SameOutput l₁ l₃ :=
  ⟨h'.state.trans h.state, h'.clock.trans h.clock, h'.gateTimer.trans h.gateTimer, h'.ceilings.trans h.ceilings,
    h'.current.trans h.current, h'.lsel.trans h.lsel⟩

theorem record_of_service (same : service g' = service g) {r : BlockRecord} (h : g.record = some r) :
    g'.high = g.high ∧ ∃ r', g'.record = some r' ∧ r'.outcome = r.outcome ∧ r'.intent = r.intent := by
  obtain ⟨high, record⟩ := Prod.mk.inj same
  rw [h] at record
  obtain ⟨r', h', pair⟩ := Option.map_eq_some_iff.1 record
  obtain ⟨outcome, intent⟩ := Prod.mk.inj pair
  exact ⟨high, r', h', outcome, intent⟩

theorem OutputSafe.congr (h : OutputSafe l w g) (laser : SameOutput l l') (gate : service g' = service g) :
    OutputSafe l' w g' where
  writing is := by
    obtain ⟨clock, timed, path, high, r, record, served, intent⟩ := h.writing (laser.state ▸ is)
    obtain ⟨high', r', record', served', intent'⟩ := record_of_service gate record
    exact ⟨laser.clock.trans clock, laser.gateTimer.trans timed, path, high'.trans high, r', record', served'.trans served,
      intent' ▸ intent⟩
  reading is := by
    obtain ⟨high, r, record, served, intent⟩ := h.reading (laser.state ▸ is)
    obtain ⟨high', r', record', served', intent'⟩ := record_of_service gate record
    exact ⟨high'.trans high, r', record', served'.trans served, intent'.trans intent⟩
  otherwise isNot := by
    obtain ⟨timer, path⟩ := h.otherwise (laser.state ▸ isNot)
    refine ⟨?_, path⟩
    have same := laser.gateTimer
    rw [timer] at same
    exact Option.isNone_iff_eq_none.1 (by simpa using same)
  ceiling := by
    rw [laser.current, laser.ceilings]
    exact h.ceiling
  dark is := laser.current.trans (h.dark (laser.state ▸ is))
  level isNot := laser.lsel.trans (h.level (laser.state ▸ isNot))
  path := by
    rw [laser.ceilings]
    exact h.path

/-- With the laser neither writing nor reading the gate does not matter. -/
theorem OutputSafe.congr_still (h : OutputSafe l w g) (notWriting : l.state ≠ .writing) (notReading : l.state ≠ .reading) :
    OutputSafe l w g' where
  writing is := absurd is notWriting
  reading is := absurd is notReading
  otherwise := h.otherwise
  ceiling := h.ceiling
  dark := h.dark
  level := h.level
  path := h.path

/-- The output at a read level, with neither write path nor gate timer. -/
theorem outputSafe_of_still {is : LaserState} (state : l.state = is) (still : is ≠ .writing ∧ is ≠ .reading)
    (timer : l.gateTimer = none) (ceiling : l.current ≤ l.ceilings.imax)
    (dark : l.state = .off ∨ l.state = .fault → l.current = 0) (level : l.lsel = .read) :
    OutputSafe l none g where
  writing writes := absurd (state.symm.trans writes) still.1
  reading reads := absurd (state.symm.trans reads) still.2
  otherwise _ := ⟨timer, rfl⟩
  ceiling := ceiling
  dark := dark
  level _ := level
  path _ h := by cases h

/-- The gate low: the laser neither writes nor reads. -/
theorem OutputSafe.still_of_low (h : OutputSafe l w g) (low : g.high = false) : l.state ≠ .writing ∧ l.state ≠ .reading := by
  constructor
  · intro is
    obtain ⟨-, -, -, high, -⟩ := h.writing is
    rw [low] at high
    cases high
  · intro is
    obtain ⟨high, -⟩ := h.reading is
    rw [low] at high
    cases high

theorem OutputSafe.writing_of_path (h : OutputSafe l w g) {p : WritePath} (active : w = some p) : l.state = .writing := by
  by_contra notWriting
  rw [(h.otherwise notWriting).2] at active
  cases active

theorem setsSafe_of_absent (prepared : v.prepared = .absent) (standIn : v.standIn = none) : SetsSafe imax v :=
  ⟨fun _ => standIn, fun i h => (by rw [prepared] at h; cases h), fun l h => (by rw [prepared] at h; cases h),
    fun l h => (by rw [standIn] at h; cases h)⟩

theorem setsSafe_of_computing {i : LevelInputs} (prepared : v.prepared = .computing i) (within : i.ceilings.imax = imax)
    (standIn : ∀ l, v.standIn = some l → l.within imax) : SetsSafe imax v where
  standInFollows absent := by rw [prepared] at absent; cases absent
  computing j computes := by
    rw [prepared] at computes
    obtain rfl := Prepared.computing.inj computes
    exact within
  ready l ready := by rw [prepared] at ready; cases ready
  standIn := standIn

theorem SetsSafe.congr {v' : LevelComputer} (h : SetsSafe imax v) (prepared : v'.prepared = v.prepared)
    (standIn : v'.standIn = v.standIn) : SetsSafe imax v' where
  standInFollows absent := standIn.trans (h.standInFollows (prepared.symm.trans absent))
  computing i computes := h.computing i (prepared.symm.trans computes)
  ready l ready := h.ready l (prepared.symm.trans ready)
  standIn l stands := h.standIn l (standIn.symm.trans stands)

/-- What a state keeps of another for its promises to hold. -/
structure SameEmission (s t : State) : Prop where
  laser : SameOutput s.laser t.laser
  writePath : t.writePath = s.writePath
  gate : service t.gate = service s.gate
  levels : SameSets s.levels t.levels

theorem SameEmission.safe (h : SameEmission s t) (hs : Safe s) : Safe t where
  out := by
    rw [h.writePath]
    exact hs.out.congr h.laser h.gate
  sets := by
    rw [h.laser.ceilings]
    exact hs.sets.congr h.levels.prepared h.levels.standIn
  idle on i inFlight := by
    rw [h.laser.ceilings]
    exact hs.idle (h.laser.state ▸ on) i (h.levels.idleComp.symm.trans inFlight)

theorem SameEmission.emission (h : SameEmission s t) (hs : s.Emission) (queue : s.queue = [] → t.queue = []) : t.Emission := by
  obtain ⟨safe, quiet⟩ := emission_iff.1 hs
  refine emission_iff.2 ⟨h.safe safe, fun dark => ?_⟩
  rw [h.laser.state] at dark
  obtain ⟨empty, absent⟩ := quiet dark
  exact ⟨queue empty, h.levels.prepared.trans absent⟩

theorem sameEmission_of_eq (laser : t.laser = s.laser) (writePath : t.writePath = s.writePath) (gate : t.gate = s.gate)
    (levels : t.levels = s.levels) : SameEmission s t :=
  ⟨sameOutput_of_eq laser, writePath, congrArg service gate, sameSets_of_eq levels⟩

theorem emission_frame (hs : s.Emission) (laser : t.laser = s.laser) (writePath : t.writePath = s.writePath)
    (gate : t.gate = s.gate) (levels : t.levels = s.levels) (queue : t.queue = s.queue) : t.Emission :=
  (sameEmission_of_eq laser writePath gate levels).emission hs fun empty => queue.trans empty

/-! ### The level computer's look for its target (R30, R31, R33) -/

theorem Safe.withSets (h : Safe s) {v : LevelComputer} (laser : t.laser = s.laser) (writePath : t.writePath = s.writePath)
    (gate : t.gate = s.gate) (levels : t.levels = v) (sets : SetsSafe s.laser.ceilings.imax v)
    (idleComp : v.idleComp = s.levels.idleComp) : Safe t where
  out := by
    rw [laser, writePath, gate]
    exact h.out
  sets := by
    rw [laser, levels]
    exact sets
  idle := by
    rw [laser, levels, idleComp]
    exact h.idle

theorem Safe.retarget (h : Safe s) : Safe s.retarget := by
  unfold State.retarget
  dsimp only
  split
  · exact h
  · cases targetOf s.queue with
    | none => exact h.withSets rfl rfl rfl rfl (setsSafe_of_absent rfl rfl) rfl
    | some g =>
      exact h.withSets rfl rfl rfl rfl (setsSafe_of_computing rfl rfl fun l stands => by cases stands) rfl

theorem Safe.queueChanged (h : Safe s) : Safe s.queueChanged := by
  have translator : Safe s.startTranslator :=
    (sameEmission_of_eq (t := s.startTranslator) (startTranslator_laser _) (startTranslator_writePath _)
      (startTranslator_gate _) (startTranslator_levels _)).safe h
  exact (sameEmission_of_eq (maybeMove_laser _) (maybeMove_writePath _) (maybeMove_gate _) (maybeMove_levels _)).safe
    translator.retarget

theorem Safe.handOn (h : Safe s) (i : ZoneSlot) : Safe (s.handOn i) := by
  unfold State.handOn
  split
  · next g _ =>
    split
    · split
      · next l ready =>
        refine h.withSets rfl rfl rfl rfl (setsSafe_of_computing rfl rfl fun l' stands => ?_) rfl
        obtain rfl := Option.some.inj stands
        exact h.sets.ready _ ready
      · next i inFlight =>
        exact h.withSets rfl rfl rfl rfl (setsSafe_of_computing rfl rfl h.sets.standIn) rfl
      · exact h
    · exact h
  · exact h

/-- With the queue empty where the laser is dark, nothing is left to compute there. -/
theorem Safe.emission_queueChanged (h : Safe s) (empty : s.laser.state.emits = false → s.queue = []) :
    s.queueChanged.Emission := by
  refine emission_iff.2 ⟨h.queueChanged, fun dark => ?_⟩
  rw [queueChanged_laser] at dark
  have key : s.queueChanged.levels.prepared.key = none := by
    rw [queueChanged_levels, retarget_key, startTranslator_queue, empty dark]
    rfl
  refine ⟨(queueChanged_queue s).trans (empty dark), ?_⟩
  cases prepared : s.queueChanged.levels.prepared with
  | absent => rfl
  | computing i => rw [prepared] at key; cases key
  | ready l => rw [prepared] at key; cases key

theorem emission_handOn (hs : s.Emission) (i : ZoneSlot) : (s.handOn i).Emission := by
  obtain ⟨safe, quiet⟩ := emission_iff.1 hs
  refine emission_iff.2 ⟨safe.handOn i, fun dark => ?_⟩
  rw [handOn_laser] at dark
  obtain ⟨empty, absent⟩ := quiet dark
  refine ⟨(handOn_queue ..).trans empty, ?_⟩
  have noTarget : s.handOn i = s := by
    unfold State.handOn
    rw [empty]
    rfl
  rw [noTarget, absent]

/-- What thins the queue and leaves the rest, and the look at it. -/
theorem emission_trigger (hs : s.Emission) (same : SameEmission s t) (thinned : Thinned s.queue t.queue) :
    t.queueChanged.Emission := by
  obtain ⟨safe, quiet⟩ := emission_iff.1 hs
  refine (same.safe safe).emission_queueChanged fun dark => ?_
  rw [same.laser.state] at dark
  have short := thinned.length_le
  rw [(quiet dark).1] at short
  exact List.length_eq_zero_iff.1 (Nat.le_zero.1 short)

/-! ### Triggers -/

theorem service_hasEntry {g : Gate} {r : BlockRecord} (record : g.record = some r) (b : Bool) :
    service { g with record := some { r with hasEntry := b } } = service g := by
  simp [service, record]

theorem removeEntries_service (s : State) (p : Entry → Bool) : service (s.removeEntries p).gate = service s.gate := by
  simp only [State.removeEntries]
  split
  · next r record =>
    split
    · exact service_hasEntry record false
    · simp
  · simp

theorem revoke_service (s : State) (reason : RevokeReason) (cut : Entry → Option Nat) :
    service (s.revoke reason cut).gate = service s.gate := by
  rw [revoke_eq, removeEntries_service]
  unfold cutState
  simp [service]
  cases s.gate.record <;> simp

theorem removeEntries_sameEmission (same : SameEmission s t) (p : Entry → Bool) : SameEmission s (t.removeEntries p) where
  laser := removeEntries_laser t p ▸ same.laser
  writePath := (removeEntries_writePath t p).trans same.writePath
  gate := (removeEntries_service t p).trans same.gate
  levels := removeEntries_levels t p ▸ same.levels

theorem revoke_sameEmission (s : State) (reason : RevokeReason) (cut : Entry → Option Nat) :
    SameEmission s (s.revoke reason cut) where
  laser := sameOutput_of_eq (revoke_laser ..)
  writePath := revoke_writePath ..
  gate := revoke_service ..
  levels := sameSets_of_eq (revoke_levels ..)

theorem SameEmission.trans (h : SameEmission s t) (h' : SameEmission t u) : SameEmission s u where
  laser := h.laser.trans h'.laser
  writePath := h'.writePath.trans h.writePath
  gate := h'.gate.trans h.gate
  levels := ⟨h'.levels.prepared.trans h.levels.prepared, h'.levels.standIn.trans h.levels.standIn,
    h'.levels.idleComp.trans h.levels.idleComp⟩

theorem emission_entryTrigger (hs : s.Emission) (reason : RevokeReason) (m : Entry → Bool) :
    (s.entryTrigger reason m).Emission :=
  emission_trigger hs (revoke_sameEmission ..) (revoke_thinned ..)

theorem emission_guardTrigger (hs : s.Emission) (g : Guard) : (s.guardTrigger g).Emission :=
  emission_trigger hs (revoke_sameEmission ..) (revoke_thinned ..)

theorem emission_zoneTrigger (hs : s.Emission) (i : ZoneSlot) (reason : RevokeReason) (considered : Entry → Bool) :
    (s.zoneTrigger i reason considered).Emission := by
  have dropped : ∀ (t : State) (p : Entry → Bool), SameEmission t (t.dropSlot i p) := fun t p =>
    sameEmission_of_eq (dropSlot_laser ..) (dropSlot_writePath ..) (dropSlot_gate ..) (dropSlot_levels ..)
  exact emission_trigger hs ((revoke_sameEmission s reason _).trans (dropped _ _))
    ((revoke_thinned ..).trans (dropSlot_thinned ..))

theorem Safe.flush (h : Safe s) (reason : RevokeReason) : (s.flush reason).Emission := by
  refine Safe.emission_queueChanged ?_ fun _ => by simp
  refine (removeEntries_sameEmission (sameEmission_of_eq ?_ ?_ ?_ ?_) _).safe h <;> simp

/-! ### The laser leaves the on-states (R124, R130 to R136) -/

theorem Safe.darken (h : Safe s) {dest : LaserState} (off : dest = .off ∨ dest = .fault) : Safe (s.darken dest) where
  out := by
    rw [darken_laser, darken_writePath, darken_gate]
    have still : dest ≠ .writing ∧ dest ≠ .reading := by rcases off with rfl | rfl <;> decide
    exact outputSafe_of_still rfl still rfl (Nat.zero_le _) (fun _ => rfl) rfl
  sets := by
    rw [darken_laser, darken_levels]
    exact h.sets.congr rfl rfl
  idle on := by
    rw [darken_laser] at on
    rcases off with rfl | rfl <;> cases on

theorem emission_turnOff (hs : s.Emission) (reason : RevokeReason) : (s.turnOff reason).Emission := by
  unfold State.turnOff
  split
  · exact ((emission_iff.1 hs).1.darken (.inl rfl)).flush reason
  · exact hs

/-- The laser's other fields change. -/
theorem emission_withLaser (hs : s.Emission) {l : Laser} (same : SameOutput s.laser l) : (s.withLaser l).Emission :=
  SameEmission.emission ⟨same, rfl, rfl, sameSets_of_eq rfl⟩ hs id

theorem emission_raise (hs : s.Emission) (f : RequestFlag) : (s.raise f).Emission := emission_frame hs rfl rfl rfl rfl rfl

theorem emission_enterFault (hs : s.Emission) (cause : FaultCause) : (s.enterFault cause).Emission := by
  have recorded := emission_withLaser hs
    (l := { s.laser with faultRecord := ⟨cause, some s.laser.state, s.servedBlock, false⟩ }) ⟨rfl, rfl, rfl, rfl, rfl, rfl⟩
  exact emission_raise (((emission_iff.1 recorded).1.darken (.inr rfl)).flush .fault) .fault

theorem emission_furtherFault (hs : s.Emission) : s.furtherFault.Emission := by
  unfold State.furtherFault
  split
  · exact hs
  · have marked := emission_withLaser hs
      (l := { s.laser with faultRecord := { s.laser.faultRecord with further := true } }) ⟨rfl, rfl, rfl, rfl, rfl, rfl⟩
    exact emission_raise marked .fault

theorem emission_faultCondition (hs : s.Emission) (cause : FaultCause) : (s.faultCondition cause).Emission := by
  unfold State.faultCondition
  split
  · exact emission_enterFault hs cause
  · split
    · exact emission_furtherFault hs
    · exact hs

theorem emission_leaveFault (hs : s.Emission) (fault : s.laser.state = .fault) : s.leaveFault.Emission := by
  have cleared := emission_withLaser hs (l := { s.laser with faultRecord := FaultRecord.clear }) ⟨rfl, rfl, rfl, rfl, rfl, rfl⟩
  refine emission_iff.2 ⟨(emission_iff.1 cleared).1.darken (.inl rfl), fun _ => ?_⟩
  obtain ⟨empty, absent⟩ := hs.quiet (by rw [fault]; rfl)
  exact ⟨empty, absent⟩

/-! ### Standby and Idle (R41, R42, R128, R129) -/

theorem emission_enterStandby (hs : s.Emission) (off : s.laser.state = .off) : s.enterStandby.Emission := by
  have safe := (emission_iff.1 hs).1
  obtain ⟨empty, absent⟩ := hs.quiet (by rw [off]; rfl)
  obtain ⟨timer, path⟩ := safe.out.otherwise (by rw [off]; decide)
  refine emission_iff.2 ⟨⟨?_, setsSafe_of_absent absent (safe.sets.standInFollows absent), fun _ i inFlight => ?_⟩,
    fun _ => ⟨empty, absent⟩⟩
  · show OutputSafe _ s.writePath _
    rw [path]
    exact outputSafe_of_still (is := .standby) rfl (by decide) timer (Nat.zero_le _) (fun _ => rfl) rfl
  · obtain rfl := Option.some.inj inFlight
    rfl

/-- The laser enters Idle, whatever its output was. -/
theorem safe_enterIdle (sets : SetsSafe s.laser.ceilings.imax s.levels)
    (idle : ∀ i, s.levels.idleComp = some i → i.ceilings.imax = s.laser.ceilings.imax) : Safe s.enterIdle where
  out := by
    rw [enterIdle_writePath]
    refine outputSafe_of_still (enterIdle_state s) (by decide) (enterIdle_gateTimer s) ?_ (fun dark => ?_) (enterIdle_lsel s)
    · rw [enterIdle_ceilings]; exact enterIdle_current s
    · rw [enterIdle_state] at dark
      exact absurd dark (by decide)
  sets := by
    rw [enterIdle_ceilings, enterIdle_levels]
    exact sets
  idle _ := by
    rw [enterIdle_ceilings, enterIdle_levels]
    exact idle

theorem emission_enterIdle (hs : s.Emission) (on : s.laser.state.on = true) : s.enterIdle.Emission := by
  have safe := (emission_iff.1 hs).1
  refine emission_iff.2 ⟨safe_enterIdle safe.sets (safe.idle on), fun dark => ?_⟩
  rw [enterIdle_state] at dark
  cases dark

/-- A read drive formed anew, the laser lit and not writing. -/
theorem Safe.formReadDrive (h : Safe s) (notWriting : s.laser.state ≠ .writing) (lit : s.laser.state ≠ .off ∧ s.laser.state ≠ .fault) :
    Safe s.formReadDrive where
  out := by
    rw [formReadDrive_writePath, formReadDrive_gate]
    refine ⟨fun is => ?_, fun is => ?_, fun _ => ?_, ?_, fun dark => ?_, fun _ => formReadDrive_lsel s, fun p active => ?_⟩
    · rw [formReadDrive_state] at is
      exact absurd is notWriting
    · rw [formReadDrive_state] at is
      exact h.out.reading is
    · rw [formReadDrive_gateTimer]
      exact h.out.otherwise notWriting
    · rw [formReadDrive_ceilings]
      exact formReadDrive_current s
    · rw [formReadDrive_state] at dark
      exact absurd dark (not_or.2 lit)
    · exact absurd (h.out.writing_of_path active) notWriting
  sets := by
    rw [formReadDrive_ceilings, formReadDrive_levels]
    exact h.sets
  idle := by
    rw [formReadDrive_state, formReadDrive_ceilings, formReadDrive_levels]
    exact h.idle

theorem emission_formReadDrive (hs : s.Emission) (lit : s.laser.state = .reading ∨ s.laser.state = .idle) :
    s.formReadDrive.Emission := by
  have states : s.laser.state ≠ .writing ∧ (s.laser.state ≠ .off ∧ s.laser.state ≠ .fault) ∧ s.laser.state.emits = true := by
    rcases lit with is | is <;> rw [is] <;> decide
  refine emission_iff.2 ⟨(emission_iff.1 hs).1.formReadDrive states.1 states.2.1, fun dark => ?_⟩
  rw [formReadDrive_state, states.2.2] at dark
  cases dark

end

end Sys2Proof.Laws

/-!
PROOFS. The laser's promises through the clock, the sensor, the monitor, the computations, the gate and the write path; every change keeps
them.
-/

namespace Sys2Proof.Laws

open Sys2Proof Sys2Proof.Machine Sys2Proof.LevelComputation

/-- The entry of the block in service has left, with its REVOKE, at a clock unlock (R76, R96). -/
def blockRevoked (s : State) : State :=
  match s.gate.record with
  | some r =>
    if r.hasEntry then
      (s.produceRevokes (if r.ended then [] else [.revoke r.tag 0 .clockUnlock])).removeEntries r.isOf
    else s
  | none => s

theorem unlockRevoke_eq (s : State) : s.unlockRevoke =
    ((blockRevoked s).withLevels { (blockRevoked s).levels with prepared := .absent, standIn := none }).queueChanged := rfl

section
variable {s t u : State}

/-! ### Clock and sensor (R76, R96, R133, R137 to R139) -/

theorem blockRevoked_sameEmission (s : State) : SameEmission s (blockRevoked s) := by
  have same : SameEmission s s := sameEmission_of_eq rfl rfl rfl rfl
  unfold blockRevoked
  split
  · split
    · refine removeEntries_sameEmission (sameEmission_of_eq ?_ ?_ ?_ ?_) _ <;> simp
    · exact same
  · exact same

theorem emission_unlockRevoke (h : Safe s) (lit : s.laser.state.emits = true) : s.unlockRevoke.Emission := by
  have revoked := blockRevoked_sameEmission s
  rw [unlockRevoke_eq]
  refine Safe.emission_queueChanged ((revoked.safe h).withSets rfl rfl rfl rfl (setsSafe_of_absent rfl rfl) rfl) fun dark => ?_
  rw [withLevels_laser, revoked.laser.state, lit] at dark
  cases dark

/-- The clock-lock state, and the timers, away from Writing. -/
theorem emission_withClock (hs : s.Emission) (notWriting : s.laser.state ≠ .writing) (clock : ClockLock) (timer : Option Nat) :
    (s.withLaser { s.laser with clock := clock, lossTimer := timer }).Emission := by
  obtain ⟨⟨out, sets, idle⟩, quiet⟩ := emission_iff.1 hs
  exact emission_iff.2 ⟨⟨⟨fun is => absurd is notWriting, out.reading, out.otherwise, out.ceiling, out.dark, out.level, out.path⟩,
    sets, idle⟩, quiet⟩

theorem emission_enterUnlocked (hs : s.Emission) : s.enterUnlocked.Emission := by
  unfold State.enterUnlocked
  dsimp only
  split
  · next writing =>
    refine emission_unlockRevoke (safe_enterIdle ?_ ?_) (by rw [enterIdle_state]; rfl)
    · exact (emission_iff.1 hs).1.sets
    · refine (emission_iff.1 hs).1.idle ?_
      rw [show s.laser.state = .writing from writing]
      rfl
  · next notWriting => exact emission_raise (emission_withClock hs notWriting _ _) _

theorem emission_loseLock (hs : s.Emission) : s.loseLock.Emission := by
  unfold State.loseLock
  split
  · split
    · exact emission_enterUnlocked hs
    · exact emission_withLaser hs (l := { s.laser with lossTimer := some s.laser.clockTolerance }) ⟨rfl, rfl, rfl, rfl, rfl, rfl⟩
  · exact hs
  · exact hs

theorem emission_regainLock (hs : s.Emission) : s.regainLock.Emission := by
  by_cases writing : s.laser.state = .writing
  · have locked : s.laser.clock = .locked := (hs.service.writing writing).1
    exact emission_withLaser hs (l := { s.laser with clock := .locked, lossTimer := none }) ⟨rfl, locked.symm, rfl, rfl, rfl, rfl⟩
  · exact emission_withClock hs writing _ _

theorem warn_sameOutput (s : State) : SameOutput s.laser s.warn.laser := by
  unfold State.warn
  split
  · split
    · rw [raise_laser]
      exact ⟨rfl, rfl, rfl, rfl, rfl, rfl⟩
    · split <;> exact ⟨rfl, rfl, rfl, rfl, rfl, rfl⟩
  · exact ⟨rfl, rfl, rfl, rfl, rfl, rfl⟩

theorem emission_refreshIdle (hs : s.Emission) : s.refreshIdle.Emission := by
  obtain ⟨safe, quiet⟩ := emission_iff.1 hs
  unfold State.refreshIdle
  split
  · split
    · refine emission_iff.2 ⟨⟨safe.out, safe.sets.congr rfl rfl, fun _ i inFlight => ?_⟩, quiet⟩
      obtain rfl := Option.some.inj inFlight
      rfl
    · exact emission_iff.2 ⟨⟨safe.out, safe.sets.congr rfl rfl, safe.idle⟩, quiet⟩
  · exact hs

theorem emission_sampled (hs : s.Emission) (temp : Int) : (sampled temp s).Emission := by
  have taken : (s.takeSample temp).Emission := emission_withLaser hs ⟨rfl, rfl, rfl, rfl, rfl, rfl⟩
  have warned : (s.takeSample temp).warn.Emission :=
    SameEmission.emission ⟨warn_sameOutput _, warn_writePath _, congrArg service (warn_gate _), sameSets_of_eq (warn_levels _)⟩
      taken fun empty => (warn_queue _).trans empty
  unfold sampled
  dsimp only
  split
  · refine emission_refreshIdle ?_
    unfold State.overLimitAct
    split
    · exact emission_enterFault warned _
    · split
      · exact emission_furtherFault warned
      · exact warned
  · exact emission_refreshIdle warned

/-! ### The monitor (R41, R148 to R151) -/

theorem emission_withMonitor (hs : s.Emission) (m : Monitor) : (s.withMonitor m).Emission :=
  emission_frame hs rfl rfl rfl rfl rfl

theorem emission_setApc (hs : s.Emission) (apc : Int) : (s.setApc apc).Emission := by
  unfold State.setApc
  dsimp only
  split
  · exact hs
  · split
    · next lit => exact emission_formReadDrive (emission_withMonitor hs _) lit
    · exact emission_withMonitor hs _

theorem emission_completeConversion (hs : s.Emission) (c : Conversion) : (s.completeConversion c).Emission := by
  have taken := emission_withMonitor hs { s.monitor with conversion := none }
  have compared : ((s.withMonitor { s.monitor with conversion := none }).compare c).Emission := by
    unfold State.compare
    dsimp only
    split
    · exact emission_faultCondition (emission_withMonitor taken _) _
    · exact emission_withMonitor taken _
  unfold State.completeConversion
  dsimp only
  split
  · unfold State.apcStep
    split
    · exact emission_setApc compared _
    · exact compared
  · split
    · exact compared
    · exact taken

theorem observePeak_emission (hs : s.Emission) (fmon : MonitorCode) : (s.observePeak fmon).Emission :=
  emission_frame hs (observePeak_laser ..) (observePeak_writePath ..) (observePeak_gate ..) (observePeak_levels ..)
    (observePeak_queue ..)

/-! ### The computations (R33, R38, R42, R43) -/

theorem levelsOf_within (i : LevelInputs) : (levelsOf i).within i.ceilings.imax := by
  intro w present
  by_cases reads : i.intent = .read
  · rw [levelsOf_write_of_read reads] at present
    cases present
  · rw [levelsOf_write_of_ne_read reads] at present
    obtain rfl := Option.some.inj present
    exact ⟨min_le_right .., min_le_right .., min_le_right ..⟩

theorem emission_levelComputation (hs : s.Emission) {i : LevelInputs} (inFlight : s.levels.prepared = .computing i) :
    (s.withLevels (s.levels.complete i)).Emission := by
  obtain ⟨safe, quiet⟩ := emission_iff.1 hs
  refine emission_iff.2 ⟨safe.withSets rfl rfl rfl rfl ?_ rfl, fun dark => ?_⟩
  · refine ⟨fun _ => rfl, fun j computes => (by cases computes), fun l ready => ?_, fun l stands => (by cases stands)⟩
    obtain rfl := Prepared.ready.inj ready
    exact safe.sets.computing i inFlight ▸ levelsOf_within i
  · have absent := (quiet dark).2
    rw [inFlight] at absent
    cases absent

/-- The Standby current, in Standby. -/
theorem emission_driveStandby (hs : s.Emission) (standby : s.laser.state = .standby) {current : Nat}
    (within : current ≤ s.laser.ceilings.imax) : (s.drive current .read).Emission := by
  obtain ⟨safe, quiet⟩ := emission_iff.1 hs
  obtain ⟨timer, path⟩ := safe.out.otherwise (by rw [standby]; decide)
  refine emission_iff.2 ⟨⟨?_, safe.sets, safe.idle⟩, quiet⟩
  show OutputSafe _ s.writePath _
  rw [path]
  exact outputSafe_of_still standby (by decide) timer within (fun dark => absurd (standby ▸ dark) (by decide)) rfl

theorem emission_completeIdle (hs : s.Emission) {i : IdleInputs} (inFlight : s.levels.idleComp = some i) :
    (s.completeIdle i).Emission := by
  obtain ⟨safe, quiet⟩ := emission_iff.1 hs
  have again : (s.withLevels { s.levels with
      idleSet := some (idleSetOf i), idleComp := s.nextIdleComputation, idleAgain := false }).Emission := by
    refine emission_iff.2 ⟨⟨safe.out, safe.sets.congr rfl rfl, fun _ j next => ?_⟩, quiet⟩
    have inputs : j = s.idleInputs := by
      have next : s.nextIdleComputation = some j := next
      unfold State.nextIdleComputation at next
      split at next
      · exact (Option.some.inj next).symm
      · cases next
    rw [inputs]
    rfl
  unfold State.completeIdle State.useIdleSet
  split
  · next standby =>
    refine emission_frame (emission_driveStandby again standby (current := (idleSetOf i).standby) ?_)
      (raiseIf_laser ..) (raiseIf_writePath ..) (raiseIf_gate ..) (raiseIf_levels ..) (raiseIf_queue ..)
    have ceiling := safe.idle (by rw [show s.laser.state = .standby from standby]; rfl) i inFlight
    exact (min_le_right _ _).trans ceiling.le
  · split
    · next idle => exact emission_formReadDrive again (.inr idle.1)
    · exact again

/-! ### The write path (R52, R53) -/

/-- The write path moves on, at the powers it has. -/
theorem emission_driveWrite (hs : s.Emission) {w w' : WritePath} (active : s.writePath = some w)
    (powers : w'.peak = w.peak ∧ w'.bias = w.bias ∧ w'.bottom = w.bottom) : (s.driveWrite w').Emission := by
  obtain ⟨safe, quiet⟩ := emission_iff.1 hs
  have writing := safe.out.writing_of_path active
  obtain ⟨peak, bias, bottom⟩ := safe.out.path w active
  rw [← powers.1] at peak
  rw [← powers.2.1] at bias
  rw [← powers.2.2] at bottom
  refine emission_iff.2 ⟨⟨⟨fun is => ?_, fun is => absurd (writing.symm.trans is) (by decide), fun isNot => absurd writing isNot,
    ?_, fun dark => ?_, fun isNot => absurd writing isNot, fun p same => ?_⟩, safe.sets, safe.idle⟩, quiet⟩
  · obtain ⟨locked, timed, -, high, record⟩ := safe.out.writing is
    exact ⟨locked, timed, rfl, high, record⟩
  · show w'.currentOf w'.level ≤ s.laser.ceilings.imax
    cases w'.level with
    | peak => exact peak
    | bias => exact bias
    | bottom => exact bottom
    | read => exact Nat.zero_le _
  · have dark : s.laser.state = .off ∨ s.laser.state = .fault := dark
    rw [writing] at dark
    exact absurd dark (by decide)
  · obtain rfl := Option.some.inj same
    exact ⟨peak, bias, bottom⟩

theorem emission_startMark (hs : s.Emission) : s.startMark.Emission := by
  unfold State.startMark
  split
  · next w active =>
    split
    · exact emission_driveWrite hs active ⟨rfl, rfl, rfl⟩
    · exact hs
  · exact hs

theorem emission_endStep (hs : s.Emission) : s.endStep.Emission := by
  unfold State.endStep
  split
  · next w active =>
    split
    · exact emission_driveWrite hs active ⟨rfl, rfl, rfl⟩
    · exact hs
  · exact hs

theorem emission_transition (hs : s.Emission) {w : WritePath} (active : s.writePath = some w) (periods : Nat) :
    (s.withWritePath (some (w.transition periods))).Emission := by
  obtain ⟨safe, quiet⟩ := emission_iff.1 hs
  have writing := safe.out.writing_of_path active
  refine emission_iff.2 ⟨⟨⟨fun is => ?_, safe.out.reading, fun isNot => absurd writing isNot, safe.out.ceiling, safe.out.dark,
    safe.out.level, fun p same => ?_⟩, safe.sets, safe.idle⟩, quiet⟩
  · obtain ⟨locked, timed, -, high, record⟩ := safe.out.writing is
    exact ⟨locked, timed, rfl, high, record⟩
  · obtain rfl := Option.some.inj same
    have powers := safe.out.path w active
    unfold WritePath.transition
    split <;> exact powers

/-! ### Rise and fall (R81 to R93) -/

/-- A gate event with the laser neither writing nor reading. -/
theorem emission_withGate (hs : s.Emission) (still : s.laser.state ≠ .writing ∧ s.laser.state ≠ .reading) (g : Gate) :
    (s.withGate g).Emission := by
  obtain ⟨safe, quiet⟩ := emission_iff.1 hs
  exact emission_iff.2 ⟨⟨safe.out.congr_still still.1 still.2, safe.sets, safe.idle⟩, quiet⟩

theorem Safe.emission_retarget (h : Safe s) (lit : s.laser.state.emits = true) : s.retarget.Emission := by
  refine emission_iff.2 ⟨h.retarget, fun dark => ?_⟩
  rw [retarget_laser, lit] at dark
  cases dark

/-- With nothing prepared the level computer has no answer. -/
theorem answer_within {imax : Nat} {v : LevelComputer} (sets : SetsSafe imax v) {tag : Byte} {block : Nat} {set : LevelSet}
    (answer : v.answer tag block = some set) : set.within imax ∧ v.prepared ≠ .absent := by
  have stood : ∀ {p : LevelSet → Prop} [DecidablePred p], (v.standIn.filter fun set => p set) = some set →
      set.within imax ∧ v.prepared ≠ .absent := fun found => by
    have stands := (Option.filter_eq_some_iff.1 found).1
    refine ⟨sets.standIn set stands, fun absent => ?_⟩
    rw [sets.standInFollows absent] at stands
    cases stands
  unfold LevelComputer.answer at answer
  dsimp only at answer
  split at answer
  · next l ready =>
    split at answer
    · obtain rfl := Option.some.inj answer
      exact ⟨sets.ready _ ready, by rw [ready]; exact fun h => by cases h⟩
    · exact stood answer
  · exact stood answer

/-- A rise serves only where the laser is lit, from a set within Imax, and a write block only with the clock Locked. -/
theorem riseCheck_ok (hs : s.Emission) {e : Entry} {set : LevelSet} (ok : s.riseCheck e = .ok set) :
    s.laser.state.emits = true ∧ set.within s.laser.ceilings.imax ∧ (e.writes = true → s.laser.clock = .locked) := by
  have safe := (emission_iff.1 hs).1
  unfold State.riseCheck at ok
  split at ok
  · cases ok
  · split at ok
    · cases ok
    · split at ok
      · cases ok
      · next found answer =>
        split at ok
        · cases ok
        · next passes =>
          obtain rfl := Except.ok.inj ok
          obtain ⟨within, prepared⟩ := answer_within safe.sets answer
          refine ⟨?_, within, fun writes => ?_⟩
          · by_contra dark
            exact prepared (hs.quiet (Bool.eq_false_iff.2 dark)).2
          · cases locked : s.laser.clock with
            | locked => rfl
            | unlocked => exact absurd ⟨writes, locked⟩ passes

theorem writeLevels_within {set : LevelSet} {imax : Nat} (within : set.within imax) :
    set.writeLevels.peak.current ≤ imax ∧ set.writeLevels.bias.current ≤ imax ∧ set.writeLevels.bottom.current ≤ imax := by
  unfold LevelSet.writeLevels
  cases present : set.write with
  | none => exact ⟨Nat.zero_le _, Nat.zero_le _, Nat.zero_le _⟩
  | some w => exact within w present

theorem risen_clamped (s : State) (e : Entry) (set : LevelSet) :
    (clampsRaised (risen s e set) set).laser = s.laser ∧ (clampsRaised (risen s e set) set).writePath = s.writePath ∧
      (clampsRaised (risen s e set) set).gate = ⟨true, some (e.record (e.slotFor e.next) .served)⟩ ∧
      (clampsRaised (risen s e set) set).levels = s.levels.handOff set := by
  simp [clampsRaised, risen, State.replaceEntry]

/-- A write block as it starts: at the bias level (R52, R88). -/
theorem startWriting_laser (s : State) (slot : Option ZoneSlot) (w : WriteLevels) : (s.startWriting slot w).laser =
    { s.laser with
      state := .writing, gateTimer := some (s.laser.ceilings.gateSteps * 10), current := w.bias.current, lsel := .bias } := by
  rw [State.startWriting, markWritten_laser]
  rfl

theorem startWriting_writePath (s : State) (slot : Option ZoneSlot) (w : WriteLevels) :
    (s.startWriting slot w).writePath = some (startWritePath (s.servingStrategy slot) w) := by
  rw [State.startWriting, markWritten_writePath]
  rfl

theorem safe_startWriting (h : Safe s) (clock : s.laser.clock = .locked) {slot : Option ZoneSlot} {w : WriteLevels}
    (within : w.peak.current ≤ s.laser.ceilings.imax ∧ w.bias.current ≤ s.laser.ceilings.imax ∧
      w.bottom.current ≤ s.laser.ceilings.imax) (high : s.gate.high = true) {r : BlockRecord} (record : s.gate.record = some r)
    (served : r.outcome = .served) (writes : r.intent ≠ .read) (on : s.laser.state.on = true) :
    Safe (s.startWriting slot w) where
  out := by
    rw [startWriting_laser, startWriting_writePath, startWriting_gate]
    refine ⟨fun _ => ⟨clock, rfl, rfl, high, r, record, served, writes⟩, fun is => (by cases is), fun isNot => absurd rfl isNot,
      within.2.1, fun dark => absurd dark (by simp), fun isNot => absurd rfl isNot, fun p same => ?_⟩
    obtain rfl := Option.some.inj same
    exact within
  sets := by
    rw [startWriting_laser, startWriting_levels]
    exact h.sets
  idle _ := by
    rw [startWriting_laser, startWriting_levels]
    exact h.idle on

theorem safe_startReading (h : Safe s) (notWriting : s.laser.state ≠ .writing) (high : s.gate.high = true) {r : BlockRecord}
    (record : s.gate.record = some r) (served : r.outcome = .served) (reads : r.intent = .read) (on : s.laser.state.on = true) :
    Safe s.startReading := by
  refine Safe.formReadDrive (s := s.withLaser { s.laser with state := .reading }) ⟨?_, h.sets, fun _ => h.idle on⟩
    (fun is => by cases is) ⟨fun is => (by cases is), fun is => (by cases is)⟩
  exact ⟨fun is => (by cases is), fun _ => ⟨high, r, record, served, reads⟩, fun _ => h.out.otherwise notWriting, h.out.ceiling,
    fun dark => absurd dark (by simp), fun _ => h.out.level notWriting, h.out.path⟩

theorem safe_serveBlock (hs : s.Emission) (low : s.gate.high = false) {e : Entry} {set : LevelSet}
    (ok : s.riseCheck e = .ok set) : Safe (s.serveBlock e set) ∧ (s.serveBlock e set).laser.state.emits = true := by
  obtain ⟨safe, quiet⟩ := emission_iff.1 hs
  obtain ⟨lit, within, locked⟩ := riseCheck_ok hs ok
  have on : s.laser.state.on = true := by
    rcases AnnounceQueue.emits_iff.1 lit with is | is | is <;> rw [is] <;> rfl
  have still := safe.out.still_of_low low
  obtain ⟨laser, path, gate, levels⟩ := risen_clamped s e set
  have risen : ∀ m : Monitor, Safe ((clampsRaised (risen s e set) set).withMonitor m) := fun m => by
    refine ⟨?_, ?_, ?_⟩
    · rw [withMonitor_laser, withMonitor_writePath, laser, path]
      exact safe.out.congr_still still.1 still.2
    · rw [withMonitor_laser, withMonitor_levels, laser, levels]
      exact safe.sets.congr rfl rfl
    · rw [withMonitor_laser, withMonitor_levels, laser, levels]
      exact safe.idle
  rw [serveBlock_eq]
  split
  · next writes =>
    refine ⟨safe_startWriting (risen _) ?_ ?_ ?_ (r := e.record (e.slotFor e.next) .served) ?_ rfl ?_ ?_, ?_⟩
    · rw [withMonitor_laser, laser]
      exact locked writes
    · rw [withMonitor_laser, laser]
      exact writeLevels_within within
    · rw [withMonitor_gate, gate]
    · rw [withMonitor_gate, gate]
    · exact of_decide_eq_true writes
    · rw [withMonitor_laser, laser]
      exact on
    · rw [startWriting_laser]
      rfl
  · next reads =>
    refine ⟨safe_startReading (risen _) ?_ ?_ (r := e.record (e.slotFor e.next) .served) ?_ rfl ?_ ?_, ?_⟩
    · rw [withMonitor_laser, laser]
      exact still.1
    · rw [withMonitor_gate, gate]
    · rw [withMonitor_gate, gate]
    · exact Decidable.not_not.1 (of_decide_eq_false (Bool.eq_false_iff.2 reads))
    · rw [withMonitor_laser, laser]
      exact on
    · rw [State.startReading, formReadDrive_state]
      rfl

theorem emission_retarget (hs : s.Emission) : s.retarget.Emission := by
  obtain ⟨safe, quiet⟩ := emission_iff.1 hs
  refine emission_iff.2 ⟨safe.retarget, fun dark => ?_⟩
  rw [retarget_laser] at dark
  obtain ⟨empty, absent⟩ := quiet dark
  have noTarget : s.retarget = s := by
    unfold State.retarget
    simp [empty, absent, targetOf, Prepared.key]
  rw [noTarget]
  exact ⟨empty, absent⟩

theorem emission_riseOn (hs : s.Emission) (low : s.gate.high = false) (e : Entry) : (s.riseOn e).Emission := by
  unfold State.riseOn
  split
  · next reason _ =>
    have gate := emission_withGate hs ((emission_iff.1 hs).1.out.still_of_low low) ⟨true, some (e.record none (.skipped reason))⟩
    refine emission_retarget ((sameEmission_of_eq (t := s.skipBlock e reason) ?_ ?_ ?_ ?_).emission gate fun empty => ?_)
    · simp [State.skipBlock, State.replaceEntry]
    · simp [State.skipBlock, State.replaceEntry]
    · simp [State.skipBlock, State.replaceEntry]
    · simp [State.skipBlock, State.replaceEntry]
    · rw [withGate_queue] at empty
      simp [State.skipBlock, State.replaceEntry, empty]
  · next set ok =>
    obtain ⟨safe, lit⟩ := safe_serveBlock hs low ok
    exact safe.emission_retarget lit

theorem entryEnded_sameEmission (s : State) (r : BlockRecord) : SameEmission s (entryEnded s r) := by
  have deferred : ∀ e : Entry, SameEmission s (s.removeDeferred e) := fun e =>
    sameEmission_of_eq (removeDeferred_laser ..) (removeDeferred_writePath ..) (removeDeferred_gate ..) (removeDeferred_levels ..)
  unfold entryEnded State.endEntry
  split
  · next e _ =>
    split
    · exact removeEntries_sameEmission (deferred e) _
    · split
      · refine removeEntries_sameEmission ((deferred e).trans (sameEmission_of_eq ?_ ?_ ?_ ?_)) _ <;> simp
      · exact deferred e
  · exact sameEmission_of_eq rfl rfl rfl rfl

theorem emission_fallOn (hs : s.Emission) (r : BlockRecord) : (s.fallOn r).Emission := by
  have returned : s.returnToIdle.Emission := by
    unfold State.returnToIdle
    split
    · next lit => exact emission_enterIdle hs (by rcases lit with is | is <;> rw [is] <;> rfl)
    · exact hs
  have still : s.returnToIdle.laser.state ≠ .writing ∧ s.returnToIdle.laser.state ≠ .reading := by
    unfold State.returnToIdle
    split
    · rw [enterIdle_state]; decide
    · next dark => exact ⟨fun is => dark (.inr is), fun is => dark (.inl is)⟩
  obtain ⟨laser, path, -, levels⟩ := entryEnded_sameEmission s.returnToIdle r
  rw [fallOn_eq]
  exact emission_trigger (emission_withGate returned still ⟨false, none⟩) ⟨laser, path, rfl, levels⟩
    (entryEnded_thinned s.returnToIdle r)

/-! ### Every change -/

/-- The laser Off, with nothing to compute. -/
theorem emission_of_off (off : s.laser.state = .off) (laser : s.laser.current = 0 ∧ s.laser.lsel = .read ∧ s.laser.gateTimer = none)
    (path : s.writePath = none) (queue : s.queue = []) (sets : s.levels.prepared = .absent ∧ s.levels.standIn = none) :
    s.Emission := by
  obtain ⟨current, lsel, timer⟩ := laser
  refine emission_iff.2 ⟨⟨?_, setsSafe_of_absent sets.1 sets.2, fun on => ?_⟩, fun _ => ⟨queue, sets.1⟩⟩
  · rw [path]
    exact outputSafe_of_still off (by decide) timer (current ▸ Nat.zero_le _) (fun _ => current) lsel
  · rw [off] at on
    cases on

theorem emission_unmounted (hs : s.Emission) : (unmounted s).Emission := by
  have cleared : ∀ t : State, Safe t →
      Safe ((((t.withZones (Vector.replicate 128 Zone.freeContent)).withStrategies
        (Vector.replicate 16 Strategy.freeContent)).withGuards []).withStreams (mapTable t.streams Stream.unmounted)) :=
    fun t ht => ⟨ht.out, ht.sets, ht.idle⟩
  have safe := (emission_iff.1 hs).1
  rw [unmounted_eq]
  refine Safe.flush (cleared _ ?_) .unmount
  split
  · exact safe.darken (.inl rfl)
  · exact safe

theorem emission_setZone (hs : s.Emission) (i : ZoneSlot) (z : Zone) : (s.setZone i z).Emission :=
  emission_frame hs rfl rfl rfl rfl rfl

theorem emission_trimStep (hs : s.Emission) (i : ZoneSlot) (d : Int) : (s.trimStep i d).Emission := by
  unfold State.trimStep
  dsimp only
  split
  · exact emission_handOn (emission_setZone hs i _) i
  · split
    · exact hs
    · exact emission_raise (emission_setZone hs i _) _

theorem produce_sameEmission (s : State) (r : Reply) : SameEmission s (s.produce r) :=
  sameEmission_of_eq (produce_laser ..) (produce_writePath ..) (produce_gate ..) (produce_levels ..)

theorem acceptEntry_sameEmission (s : State) (e : Entry) (m : Translated) : SameEmission s (s.acceptEntry e m) := by
  have accepted : ∀ r : Reply, SameEmission s
      ((((e.accept m).slots.foldl State.pin s).replaceEntry (e.accept m)).produce r) := fun r => by
    refine sameEmission_of_eq ?_ ?_ ?_ ?_ <;> simp [State.replaceEntry]
  unfold State.acceptEntry
  dsimp only
  split
  · exact removeEntries_sameEmission ((accepted (.accept e.tag m.run m.secondary.isSome)).trans (produce_sameEmission _ _)) _
  · exact accepted _

theorem emission_completeTranslation (hs : s.Emission) {e : Entry} (mem : e ∈ s.queue) : (s.completeTranslation e).Emission := by
  obtain ⟨safe, quiet⟩ := emission_iff.1 hs
  have lit : s.laser.state.emits ≠ false := fun dark => by
    rw [(quiet dark).1] at mem
    cases mem
  have same : SameEmission s (match s.translate e with
      | .error reason => (s.removeEntries fun f => f.tag == e.tag).produceRefuse e.tag reason
      | .ok t => s.acceptEntry e t) := by
    split
    · exact (removeEntries_sameEmission (sameEmission_of_eq rfl rfl rfl rfl) fun f => f.tag == e.tag).trans
        (sameEmission_of_eq (produceRefuse_laser ..) (produceRefuse_writePath ..) (produceRefuse_gate ..)
          (produceRefuse_levels ..))
    · exact acceptEntry_sameEmission ..
  exact (same.safe safe).emission_queueChanged fun dark => absurd (same.laser.state ▸ dark) lit

theorem Effect.emission (effect : Effect s u) (hs : s.Emission) : u.Emission := by
  have stored : ∀ {t : State}, t.laser = s.laser → t.writePath = s.writePath → t.gate = s.gate → t.levels = s.levels →
      t.queue = s.queue → t.Emission := emission_frame hs
  cases effect with
  | atReset | holdInReset | resetCommand => exact emission_of_off rfl ⟨rfl, rfl, rfl⟩ rfl rfl ⟨rfl, rfl⟩
  | setPowers i p inUse => exact emission_handOn (emission_setZone hs i _) i
  | setTrim i v inUse => exact emission_handOn (emission_setZone hs i _) i
  | markAbsent i loaded => exact emission_zoneTrigger (emission_setZone hs i { s.zone i with state := .absent }) ..
  | closeZone i loaded => exact emission_zoneTrigger (emission_setZone hs i { s.zone i with state := .closed }) ..
  | releaseFree i inUse unpinned =>
    exact emission_frame (emission_zoneTrigger hs i .released _) (freeZone_laser ..) (freeZone_writePath ..) (freeZone_gate ..)
      (freeZone_levels ..) (freeZone_queue ..)
  | releaseRetiring i inUse pinned => exact emission_frame (emission_zoneTrigger hs i .released _) rfl rfl rfl rfl rfl
  | closeStream n => exact emission_entryTrigger (s := s.setStream n _) (stored rfl rfl rfl rfl rfl) ..
  | addGuard g room => exact emission_guardTrigger (s := s.withGuards (insertGuard g s.guards)) (stored rfl rfl rfl rfl rfl) g
  | loadLaserModel m off =>
    exact emission_withLaser hs (l := { s.laser with
      model := m, modelLoaded := true, overLimit := overLimitMark true m s.laser.temp }) ⟨rfl, rfl, rfl, rfl, rfl, rfl⟩
  | loadCeilings c off =>
    obtain ⟨safe, quiet⟩ := emission_iff.1 hs
    obtain ⟨empty, absent⟩ := quiet (by rw [off]; rfl)
    exact emission_of_off off ⟨safe.out.dark (.inl off), safe.out.level (by rw [off]; decide),
      (safe.out.otherwise (by rw [off]; decide)).1⟩ (safe.out.otherwise (by rw [off]; decide)).2 empty
      ⟨absent, safe.sets.standInFollows absent⟩
  | laserOn off => exact emission_enterStandby hs off
  | laserOnHot off => exact emission_enterFault (emission_enterStandby hs off) _
  | laserOff => exact emission_turnOff hs _
  | clearFault fault => exact emission_leaveFault hs fault
  | unmount => exact emission_unmounted hs
  | allStop p => exact emission_turnOff (s := s.withPort p) (stored rfl rfl rfl rfl rfl) _
  | enroll a admitted =>
    have lit := (admission_eq_none admitted).2.2
    refine Safe.emission_queueChanged (s := s.withQueue _) ?_ fun dark => ?_
    · obtain ⟨out, sets, idle⟩ := (emission_iff.1 hs).1
      exact ⟨out, sets, idle⟩
    · rw [withQueue_laser, lit] at dark
      cases dark
  | abort m => exact emission_entryTrigger hs ..
  | trimStep i d inUse => exact emission_trimStep hs i d
  | translation tag e inFlight found => exact emission_completeTranslation hs (List.mem_of_find?_eq_some found)
  | levelComputation i inFlight => exact emission_levelComputation hs inFlight
  | idleComputation i inFlight => exact emission_completeIdle hs inFlight
  | rise e low taken => exact emission_riseOn hs low e
  | riseEmpty low empty =>
    have gate := emission_withGate hs ((emission_iff.1 hs).1.out.still_of_low low) ⟨true, none⟩
    exact emission_retarget (emission_frame gate (produceSkip_laser ..) (produceSkip_writePath ..) (produceSkip_gate ..)
      (produceSkip_levels ..) (produceSkip_queue ..))
  | fall r high record => exact emission_fallOn hs r
  | fallEmpty high record =>
    refine emission_withGate hs ⟨fun writing => ?_, fun reading => ?_⟩ _
    · obtain ⟨-, -, -, -, r, present, -⟩ := hs.service.writing writing
      rw [record] at present
      cases present
    · obtain ⟨-, r, present, -⟩ := hs.service.reading reading
      rw [record] at present
      cases present
  | transition w periods active => exact emission_transition hs active periods
  | markStart fmon => exact emission_startMark (observePeak_emission hs fmon)
  | stepEnd fmon => exact emission_endStep (observePeak_emission hs fmon)
  | warmUp standby =>
    have warmed := emission_withLaser hs (l := { s.laser with warmUp := none }) ⟨rfl, rfl, rfl, rfl, rfl, rfl⟩
    have on : s.laser.state.on = true := by rw [standby]; rfl
    refine emission_raise (emission_frame (emission_enterIdle warmed on) ?_ ?_ ?_ ?_ ?_) .ready <;> simp
  | loffAsserted =>
    exact emission_turnOff (emission_withLaser hs (l := { s.laser with loff := true }) ⟨rfl, rfl, rfl, rfl, rfl, rfl⟩) _
  | loffReleased => exact emission_withLaser hs (l := { s.laser with loff := false }) ⟨rfl, rfl, rfl, rfl, rfl, rfl⟩
  | temperature temp => exact emission_sampled hs temp
  | gateLimit writing => exact emission_enterFault hs _
  | pllLost =>
    exact emission_loseLock (emission_withLaser hs (l := { s.laser with pllLock := false }) ⟨rfl, rfl, rfl, rfl, rfl, rfl⟩)
  | pllRegained =>
    exact emission_regainLock (emission_withLaser hs (l := { s.laser with pllLock := true }) ⟨rfl, rfl, rfl, rfl, rfl, rfl⟩)
  | lossTimer => exact emission_enterUnlocked hs
  | conversion c inFlight => exact emission_completeConversion hs c
  | nothing | loadZone | setAutotrim | reload | sweep | loadStrategy | releaseStrategy | openStream | removeGuard | setLayer
  | resettle | ackEvents | setPermissions | setAlertMode | busTimeout | staleFrame | malformed | refuse | replySend
  | settleEnd | blockSample | idleSample | pulseEnd =>
    refine stored ?_ ?_ ?_ ?_ ?_ <;> simp [State.setLayer, State.setZoneState]

theorem tick_emission (hs : s.Emission) : s.tick.Emission := by
  have ticked : SameOutput s.laser s.laser.tick := ⟨rfl, rfl, Option.isSome_map, rfl, rfl, rfl⟩
  unfold State.tick
  split
  · exact hs
  · exact emission_frame (emission_withLaser hs ticked) rfl rfl rfl rfl rfl

end

end Sys2Proof.Laws

/-!
PROOFS. The statement settled: O55.
-/

namespace Sys2Proof.Settled

open Sys2Proof Sys2Proof.Machine Sys2Proof.Laws

/-- Settles O55: every change keeps what the output, the gate and the level sets promise each other. -/
theorem emissionKept : Obligations.EmissionKept := by
  unfold Obligations.EmissionKept
  intro s t hs h
  exact step_keeps (P := State.Emission) (fun _ _ hs => emission_frame hs rfl rfl rfl rfl rfl)
    (fun _ _ hs => emission_frame hs rfl rfl rfl rfl rfl) (fun _ hs => tick_emission hs)
    (fun _ _ effect hs => effect.emission hs) h hs

end Sys2Proof.Settled

/-!
PROOFS. What follows the announce queue (R30, R31, R118): the level computer's target in an ordered queue, and the level computer and the
pickup after every change.
-/

namespace Sys2Proof.Laws

open Sys2Proof Sys2Proof.Machine

/-! ### The target of an ordered queue (R30) -/

section
variable {e : Entry} {rest : List Entry}

theorem find?_current_of_ordered (h : Ordered (e :: rest)) :
    (e :: rest).find? (fun f => decide (f.state = .current ∧ f.next < f.stop)) =
      if e.state = .current ∧ e.next < e.stop then some e else none := by
  have behind : rest.find? (fun f => decide (f.state = .current ∧ f.next < f.stop)) = none := by
    refine List.find?_eq_none.2 fun f hf current => ?_
    exact ((List.pairwise_cons.1 h.order).1 f hf).1 (of_decide_eq_true current).1
  rw [List.find?_cons, behind]
  split <;> simp_all

theorem targetOf_current (h : Ordered (e :: rest)) (current : e.state = .current) (left : e.next < e.stop) :
    targetOf (e :: rest) = some (e.targetAt e.next) := by
  unfold targetOf
  rw [find?_current_of_ordered h, if_pos ⟨current, left⟩]

theorem targetOf_accepted (h : Ordered (e :: rest)) (accepted : e.state = .accepted) :
    targetOf (e :: rest) = some (e.targetAt e.start) := by
  unfold targetOf
  rw [find?_current_of_ordered h, if_neg (by simp [accepted])]
  simp [accepted]

theorem targetOf_waiting (h : Ordered (e :: rest)) (waiting : e.state = .waiting) : targetOf (e :: rest) = none := by
  unfold targetOf
  rw [find?_current_of_ordered h, if_neg (by simp [waiting])]
  simp [waiting]

/-- The Current entry's run is used up: the entry behind it gives the target, when it is Accepted. -/
theorem targetOf_behind (h : Ordered (e :: rest)) (current : e.state = .current) (used : e.stop ≤ e.next) :
    targetOf (e :: rest) = match rest with
      | f :: _ => if f.state = .accepted then some (f.targetAt f.start) else none
      | [] => none := by
  unfold targetOf
  rw [find?_current_of_ordered h, if_neg fun both => Nat.not_lt.2 used both.2]
  cases rest with
  | nil => simp [current]
  | cons f later =>
    have notCurrent : f.state ≠ .current := ((List.pairwise_cons.1 h.order).1 f List.mem_cons_self).1
    simp [current, notCurrent]

end

/-! ### What the level computer and the pickup keep -/

/-- A stand-in set is for the block that is being computed (R32). -/
def StandsIn (s : State) : Prop :=
  ∀ l, s.levels.standIn = some l → ∃ i, s.levels.prepared = .computing i ∧ i.tag = l.tag ∧ i.block = l.block

/-- What `Followed` asks about, the same in both states; the pickup may have left its layer. -/
structure SameFollowed (s t : State) : Prop where
  prepared : t.levels.prepared = s.levels.prepared
  standIn : t.levels.standIn = s.levels.standIn
  queue : t.queue = s.queue
  idle : t.laser.state = .idle → s.laser.state = .idle
  settled : ∀ layer, t.pickup.motion = .settled layer → s.pickup.motion = .settled layer

section
variable {s t u : State}

theorem StandsIn.congr (h : StandsIn s) (prepared : t.levels.prepared = s.levels.prepared)
    (standIn : t.levels.standIn = s.levels.standIn) : StandsIn t := by
  unfold StandsIn
  rw [prepared, standIn]
  exact h

theorem standsIn_of_levels (h : s.Followed) (levels : t.levels = s.levels) : StandsIn t :=
  StandsIn.congr h.standIn (by rw [levels]) (by rw [levels])

theorem SameFollowed.followed (same : SameFollowed s t) (h : s.Followed) : t.Followed where
  target := by
    rw [same.prepared, same.queue]
    exact h.target
  standIn := StandsIn.congr h.standIn same.prepared same.standIn
  settled layer e settled idle := by
    rw [same.queue]
    exact h.settled layer e (same.settled layer settled) (same.idle idle)

theorem followed_frame (h : s.Followed) (levels : t.levels = s.levels) (queue : t.queue = s.queue)
    (laser : t.laser = s.laser) (pickup : t.pickup = s.pickup) : t.Followed :=
  SameFollowed.followed ⟨by rw [levels], by rw [levels], queue, by rw [laser]; exact id, by rw [pickup]; exact fun _ => id⟩ h

theorem followed_withLaser (h : s.Followed) {l : Laser} (idle : l.state = .idle → s.laser.state = .idle) :
    (s.withLaser l).Followed :=
  SameFollowed.followed (s := s) ⟨rfl, rfl, rfl, idle, fun _ => id⟩ h

/-- The idle set and its computation are not for a block. -/
theorem followed_withLevels (h : s.Followed) {v : LevelComputer} (prepared : v.prepared = s.levels.prepared)
    (standIn : v.standIn = s.levels.standIn) : (s.withLevels v).Followed :=
  SameFollowed.followed (s := s) ⟨prepared, standIn, rfl, id, fun _ => id⟩ h

theorem followed_raise (h : s.Followed) (f : RequestFlag) : (s.raise f).Followed := followed_frame h rfl rfl rfl rfl

/-- A stand-in set that stood stands after the look for the target. -/
theorem standsIn_retarget (h : StandsIn s) : StandsIn s.retarget := by
  unfold State.retarget
  dsimp only
  split
  · exact h
  · exact fun l stands => by cases stands

/-- Whatever has become of the queue, the look at it sets the level computer and the pickup right (R31, R118). -/
theorem followed_queueChanged (h : StandsIn s) : s.queueChanged.Followed where
  target := by rw [queueChanged_levels, retarget_key, startTranslator_queue, queueChanged_queue]
  standIn := by
    have translated : StandsIn s.startTranslator :=
      h.congr (by rw [startTranslator_levels]) (by rw [startTranslator_levels])
    rw [queueChanged_levels]
    exact standsIn_retarget translated
  settled layer e settled idle noCurrent oldest := by
    rw [queueChanged_queue] at noCurrent oldest
    rw [queueChanged_laser] at idle
    refine maybeMove_settled s.startTranslator.retarget layer e settled ?_ ?_ ?_ <;> simpa

/-- Where the laser is not Idle the look for the target is enough. -/
theorem followed_retarget (h : StandsIn s) (settled : ∀ layer e, s.pickup.motion = .settled layer → s.laser.state = .idle →
      (∀ f ∈ s.queue, f.state ≠ .current) → s.queue.find? (fun e => decide (e.state = .accepted)) = some e → e.layer = layer) :
    s.retarget.Followed where
  target := by rw [retarget_key, retarget_queue]
  standIn := standsIn_retarget h
  settled := by
    rw [retarget_pickup, retarget_laser, retarget_queue]
    exact settled

/-- A change of the target's descriptor is handed on: the computation is for the same block (R15, R32). -/
theorem followed_handOn (h : s.Followed) (i : ZoneSlot) : (s.handOn i).Followed := by
  have settled : ∀ v : LevelComputer, ∀ layer e, (s.withLevels v).pickup.motion = .settled layer →
      (s.withLevels v).laser.state = .idle → (∀ f ∈ (s.withLevels v).queue, f.state ≠ .current) →
      (s.withLevels v).queue.find? (fun e => decide (e.state = .accepted)) = some e → e.layer = layer := fun _ => h.settled
  have target := h.target
  unfold State.handOn
  split
  · next g found =>
    rw [found] at target
    split
    · split
      · next l ready =>
        rw [ready] at target
        obtain ⟨tag, block⟩ := Prod.mk.inj (Option.some.inj target)
        refine ⟨by rw [withLevels_queue, found]; rfl, fun l' stands => ?_, settled _⟩
        obtain rfl := Option.some.inj stands
        exact ⟨_, rfl, tag.symm, block.symm⟩
      · next c computes =>
        rw [computes] at target
        obtain ⟨tag, block⟩ := Prod.mk.inj (Option.some.inj target)
        refine ⟨by rw [withLevels_queue, found]; rfl, fun l' stands => ?_, settled _⟩
        obtain ⟨c', computes', tag', block'⟩ := h.standIn l' stands
        obtain rfl := Prepared.computing.inj (computes.symm.trans computes')
        exact ⟨_, rfl, tag.symm.trans tag', block.symm.trans block'⟩
      · exact h
    · exact h
  · exact h

/-! ### The shared operations -/

theorem followed_entryTrigger (h : s.Followed) (reason : RevokeReason) (m : Entry → Bool) :
    (s.entryTrigger reason m).Followed :=
  followed_queueChanged (standsIn_of_levels h (revoke_levels ..))

theorem followed_guardTrigger (h : s.Followed) (g : Guard) : (s.guardTrigger g).Followed :=
  followed_queueChanged (standsIn_of_levels h (revoke_levels ..))

theorem followed_zoneTrigger (h : s.Followed) (i : ZoneSlot) (reason : RevokeReason) (considered : Entry → Bool) :
    (s.zoneTrigger i reason considered).Followed :=
  followed_queueChanged (standsIn_of_levels h ((dropSlot_levels ..).trans (revoke_levels ..)))

theorem followed_flush (h : StandsIn s) (reason : RevokeReason) : (s.flush reason).Followed :=
  followed_queueChanged (h.congr (by simp) (by simp))

theorem followed_turnOff (h : s.Followed) (reason : RevokeReason) : (s.turnOff reason).Followed := by
  unfold State.turnOff
  split
  · exact followed_flush (StandsIn.congr h.standIn (by simp) (by simp)) reason
  · exact h

theorem followed_enterFault (h : s.Followed) (cause : FaultCause) : (s.enterFault cause).Followed := by
  have darkened : ∀ l : Laser, StandsIn ((s.withLaser l).darken .fault) := fun l =>
    StandsIn.congr h.standIn (by simp) (by simp)
  exact followed_raise (followed_flush (darkened _) .fault) .fault

theorem followed_furtherFault (h : s.Followed) : s.furtherFault.Followed := by
  unfold State.furtherFault
  split
  · exact h
  · exact followed_raise (followed_withLaser h (l := { s.laser with
      faultRecord := { s.laser.faultRecord with further := true } }) id) _

theorem followed_faultCondition (h : s.Followed) (cause : FaultCause) : (s.faultCondition cause).Followed := by
  unfold State.faultCondition
  split
  · exact followed_enterFault h cause
  · split
    · exact followed_furtherFault h
    · exact h

theorem followed_sampled (h : s.Followed) (temp : Int) : (sampled temp s).Followed := by
  have refreshed : ∀ {t : State}, t.Followed → t.refreshIdle.Followed := fun ht => by
    unfold State.refreshIdle
    split
    · split <;> exact followed_withLevels ht rfl rfl
    · exact ht
  have taken : (s.takeSample temp).warn.Followed := by
    refine SameFollowed.followed ⟨?_, ?_, ?_, fun idle => ?_, fun layer => ?_⟩ h
    · rw [warn_levels]; rfl
    · rw [warn_levels]; rfl
    · rw [warn_queue]; rfl
    · exact (warn_sameOutput (s.takeSample temp)).state.symm.trans idle
    · rw [warn_pickup]; exact id
  unfold sampled
  dsimp only
  split
  · refine refreshed ?_
    unfold State.overLimitAct
    split
    · exact followed_enterFault taken _
    · split
      · exact followed_furtherFault taken
      · exact taken
  · exact refreshed taken

theorem followed_enterUnlocked (h : s.Followed) : s.enterUnlocked.Followed := by
  unfold State.enterUnlocked
  dsimp only
  split
  · rw [unlockRevoke_eq]
    exact followed_queueChanged fun l stands => by cases stands
  · exact followed_raise (followed_withLaser h (l := { s.laser with clock := .unlocked, lossTimer := none }) id) _

theorem followed_loseLock (h : s.Followed) : s.loseLock.Followed := by
  unfold State.loseLock
  split
  · split
    · exact followed_enterUnlocked h
    · exact followed_withLaser h (l := { s.laser with lossTimer := some s.laser.clockTolerance }) id
  · exact h
  · exact h

theorem followed_formReadDrive (h : s.Followed) : s.formReadDrive.Followed := by
  refine SameFollowed.followed ⟨?_, ?_, formReadDrive_queue _, ?_, ?_⟩ h
  · rw [formReadDrive_levels]
  · rw [formReadDrive_levels]
  · rw [formReadDrive_state]; exact id
  · rw [formReadDrive_pickup]; exact fun _ => id

theorem followed_withMonitor (h : s.Followed) (m : Monitor) : (s.withMonitor m).Followed := followed_frame h rfl rfl rfl rfl

theorem followed_completeConversion (h : s.Followed) (c : Conversion) : (s.completeConversion c).Followed := by
  have taken := followed_withMonitor h { s.monitor with conversion := none }
  have compared : ((s.withMonitor { s.monitor with conversion := none }).compare c).Followed := by
    unfold State.compare
    dsimp only
    split
    · exact followed_faultCondition (followed_withMonitor taken _) _
    · exact followed_withMonitor taken _
  have stepped : ∀ {t : State} (apc : Int), t.Followed → (t.setApc apc).Followed := fun apc ht => by
    unfold State.setApc
    dsimp only
    split
    · exact ht
    · split
      · exact followed_formReadDrive (followed_withMonitor ht _)
      · exact followed_withMonitor ht _
  unfold State.completeConversion
  dsimp only
  split
  · unfold State.apcStep
    split
    · exact stepped _ compared
    · exact compared
  · split
    · exact compared
    · exact taken

theorem followed_completeTranslation (h : s.Followed) (e : Entry) : (s.completeTranslation e).Followed := by
  refine followed_queueChanged (standsIn_of_levels h ?_)
  split
  · rw [produceRefuse_levels, removeEntries_levels]
  · exact acceptEntry_levels ..

theorem followed_completeIdle (h : s.Followed) (i : IdleInputs) : (s.completeIdle i).Followed := by
  have stored : ∀ (set : Option IdleSet) (next : Option IdleInputs),
      (s.withLevels { s.levels with idleSet := set, idleComp := next, idleAgain := false }).Followed := fun _ _ =>
    followed_withLevels h rfl rfl
  unfold State.completeIdle State.useIdleSet
  split
  · refine followed_frame (followed_withLaser (stored _ _) ?_) (raiseIf_levels ..) (raiseIf_queue ..) (raiseIf_laser ..)
      (raiseIf_pickup ..)
    exact id
  · split
    · exact followed_formReadDrive (stored _ _)
    · exact stored _ _

theorem followed_fallOn (h : s.Followed) (r : BlockRecord) : (s.fallOn r).Followed := by
  rw [fallOn_eq]
  refine followed_queueChanged ?_
  have same := entryEnded_sameEmission s.returnToIdle r
  refine StandsIn.congr h.standIn ?_ ?_
  · rw [withGate_levels, same.levels.prepared, returnToIdle_levels]
  · rw [withGate_levels, same.levels.standIn, returnToIdle_levels]

/-- A served block leaves no set for another than it stood for. -/
theorem serveBlock_standsIn (h : s.Followed) (e : Entry) (set : LevelSet) : StandsIn (s.serveBlock e set) := by
  have levels := (risen_clamped s e set).2.2.2
  rw [serveBlock_eq]
  refine StandsIn.congr h.standIn ?_ ?_ <;> split <;> simp [levels, LevelComputer.handOff]

theorem serveBlock_laser_state (s : State) (e : Entry) (set : LevelSet) :
    (s.serveBlock e set).laser.state = if e.writes then .writing else .reading := by
  rw [serveBlock_eq]
  split
  · rw [startWriting_laser]
  · rw [State.startReading, formReadDrive_state]
    rfl

/-- After a skip the entry is Current, or Waiting with only Waiting entries behind it: no move is due. -/
theorem skipBlock_settled {e : Entry} {rest : List Entry} (ordered : Ordered s.queue) (hq : s.queue = e :: rest)
    (reason : SkipReason) {layer : LayerNo} {f : Entry} (noCurrent : ∀ f ∈ (s.skipBlock e reason).queue, f.state ≠ .current)
    (oldest : (s.skipBlock e reason).queue.find? (fun e => decide (e.state = .accepted)) = some f) : f.layer = layer := by
  rw [hq] at ordered
  have queue : (s.skipBlock e reason).queue = { e.taken with skipped := e.skipped + 1 } :: rest := by
    unfold State.skipBlock
    simp only [produceSkip_queue, setStream_queue, State.replaceEntry, withQueue_queue, withGate_queue, hq]
    exact replace_head (e' := { e.taken with skipped := e.skipped + 1 }) ordered rfl
  rw [queue] at noCurrent oldest
  have notCurrent : e.taken.state ≠ .current := noCurrent { e.taken with skipped := e.skipped + 1 } List.mem_cons_self
  have waiting : e.state = .waiting := by
    unfold Entry.taken at notCurrent
    cases state : e.state <;> simp_all
  have accepted : f.state = .accepted := by simpa using List.find?_some oldest
  have mem := List.mem_of_find?_eq_some oldest
  rcases List.mem_cons.1 mem with rfl | mem
  · have same : e.taken.state = .accepted := accepted
    rw [taken_state.2 waiting] at same
    cases same
  · have waits := ((List.pairwise_cons.1 ordered.order).1 f mem).2 waiting
    rw [accepted] at waits
    cases waits

theorem followed_riseOn (h : s.Followed) (ordered : Ordered s.queue) {e : Entry} (taken : s.takenEntry = some e) :
    (s.riseOn e).Followed := by
  rw [takenEntry_eq_head ordered, List.head?_eq_some_iff] at taken
  obtain ⟨rest, hq⟩ := taken
  unfold State.riseOn
  split
  · refine followed_retarget (StandsIn.congr h.standIn ?_ ?_) fun layer f _ _ noCurrent oldest =>
      skipBlock_settled ordered hq _ noCurrent oldest
    · simp [State.skipBlock, State.replaceEntry]
    · simp [State.skipBlock, State.replaceEntry]
  · refine followed_retarget (serveBlock_standsIn h e _) fun layer f _ idle => ?_
    rw [serveBlock_laser_state] at idle
    split at idle <;> cases idle

theorem startMark_state (s : State) : s.startMark.laser.state = s.laser.state := by
  unfold State.startMark
  split
  · split <;> rfl
  · rfl

theorem endStep_state (s : State) : s.endStep.laser.state = s.laser.state := by
  unfold State.endStep
  split
  · split <;> rfl
  · rfl

/-! ### Every change -/

/-- With the queue empty and nothing prepared there is nothing to follow. -/
theorem followed_of_empty (queue : s.queue = []) (prepared : s.levels.prepared = .absent) (standIn : s.levels.standIn = none) :
    s.Followed where
  target := by rw [queue, prepared]; rfl
  standIn l stands := by rw [standIn] at stands; cases stands
  settled layer e _ _ _ oldest := by rw [queue] at oldest; cases oldest

/-- With the laser dark there is nothing to follow. -/
theorem followed_of_dark (hs : s.Emission) (dark : s.laser.state.emits = false) (levels : t.levels.prepared = s.levels.prepared)
    (standIn : t.levels.standIn = s.levels.standIn) (queue : t.queue = s.queue) : t.Followed := by
  obtain ⟨empty, absent⟩ := hs.quiet dark
  exact followed_of_empty (queue.trans empty) (levels.trans absent) (standIn.trans (hs.standInFollows absent))

theorem followed_trimStep (h : s.Followed) (i : ZoneSlot) (d : Int) : (s.trimStep i d).Followed := by
  have stored : ∀ z : Zone, (s.setZone i z).Followed := fun z => followed_frame h rfl rfl rfl rfl
  unfold State.trimStep
  dsimp only
  split
  · exact followed_handOn (stored _) i
  · split
    · exact h
    · exact followed_raise (stored _) _

theorem Effect.followed (effect : Effect s u) (ordered : s.QueueOrdered) (hs : s.Emission) (h : s.Followed) : u.Followed := by
  have stored : ∀ z : ZoneSlot, ∀ d : Zone, (s.setZone z d).Followed := fun z d => followed_frame h rfl rfl rfl rfl
  cases effect with
  | atReset | holdInReset | resetCommand => exact followed_of_empty rfl rfl rfl
  | setPowers i p inUse => exact followed_handOn (stored _ _) i
  | setTrim i v inUse => exact followed_handOn (stored _ _) i
  | markAbsent i loaded => exact followed_zoneTrigger (stored i { s.zone i with state := .absent }) ..
  | closeZone i loaded => exact followed_zoneTrigger (stored i { s.zone i with state := .closed }) ..
  | releaseFree i inUse unpinned =>
    exact followed_frame (followed_zoneTrigger h i .released _) (freeZone_levels ..) (freeZone_queue ..) (freeZone_laser ..)
      (freeZone_pickup ..)
  | releaseRetiring i inUse pinned => exact followed_frame (followed_zoneTrigger h i .released _) rfl rfl rfl rfl
  | closeStream n => exact followed_entryTrigger (s := s.setStream n _) (followed_frame h rfl rfl rfl rfl) ..
  | addGuard g room => exact followed_guardTrigger (s := s.withGuards (insertGuard g s.guards)) (followed_frame h rfl rfl rfl rfl) g
  | setLayer i r => exact SameFollowed.followed (s := s) ⟨rfl, rfl, rfl, id, fun _ => id⟩ h
  | resettle i r =>
    exact SameFollowed.followed (s := s) ⟨rfl, rfl, rfl, id, fun layer settled => by cases settled⟩ h
  | loadLaserModel m off =>
    exact followed_withLaser h (l := { s.laser with
      model := m, modelLoaded := true, overLimit := overLimitMark true m s.laser.temp }) id
  | loadCeilings c off =>
    exact followed_withLaser h (l := { s.laser with ceilings := c, ceilingsLoaded := true, warnArmed := true }) id
  | laserOn off =>
    refine followed_of_dark hs (by rw [off]; rfl) ?_ ?_ ?_ <;> simp [State.enterStandby]
  | laserOnHot off =>
    refine followed_enterFault (followed_of_dark hs (by rw [off]; rfl) ?_ ?_ ?_) _ <;> simp [State.enterStandby]
  | laserOff => exact followed_turnOff h _
  | clearFault fault =>
    refine followed_of_dark hs (by rw [fault]; rfl) ?_ ?_ ?_ <;> simp [State.leaveFault]
  | unmount =>
    rw [unmounted_eq]
    refine followed_flush (StandsIn.congr h.standIn ?_ ?_) _ <;> simp only [tablesCleared] <;> split <;> simp
  | allStop p => exact followed_turnOff (s := s.withPort p) (followed_frame h rfl rfl rfl rfl) _
  | enroll a admitted => exact followed_queueChanged (standsIn_of_levels h rfl)
  | abort m => exact followed_entryTrigger h ..
  | trimStep i d inUse => exact followed_trimStep h i d
  | translation tag e inFlight found => exact followed_completeTranslation h e
  | levelComputation i inFlight =>
    have target := h.target
    rw [inFlight] at target
    exact ⟨target, fun l stands => (by cases stands), h.settled⟩
  | idleComputation i inFlight => exact followed_completeIdle h i
  | rise e low taken => exact followed_riseOn h (queueOrdered_iff.1 ordered).1 taken
  | riseEmpty low empty =>
    rw [takenEntry_eq_head (queueOrdered_iff.1 ordered).1, List.head?_eq_none_iff] at empty
    refine followed_retarget (standsIn_of_levels h ((produceSkip_levels ..).trans rfl)) fun layer e _ _ _ oldest => ?_
    rw [produceSkip_queue, withGate_queue, empty] at oldest
    cases oldest
  | fall r high record => exact followed_fallOn h r
  | settleEnd source target left moving =>
    refine ⟨?_, ?_, fun layer e settled idle noCurrent oldest => ?_⟩
    · rw [maybeMove_levels, maybeMove_queue]
      exact h.target
    · rw [maybeMove_levels]
      exact h.standIn
    · rw [maybeMove_laser] at idle
      rw [maybeMove_queue] at noCurrent oldest
      exact maybeMove_settled _ layer e settled idle noCurrent oldest
  | warmUp standby =>
    refine followed_of_dark hs (by rw [standby]; rfl) ?_ ?_ ?_ <;> simp [State.endWarmUp]
  | loffAsserted => exact followed_turnOff (followed_withLaser h (l := { s.laser with loff := true }) id) _
  | loffReleased => exact followed_withLaser h (l := { s.laser with loff := false }) id
  | temperature temp => exact followed_sampled h temp
  | gateLimit writing => exact followed_enterFault h _
  | pllLost => exact followed_loseLock (followed_withLaser h (l := { s.laser with pllLock := false }) id)
  | pllRegained => exact followed_withLaser h (l := { s.laser with pllLock := true, clock := .locked, lossTimer := none }) id
  | lossTimer => exact followed_enterUnlocked h
  | conversion c inFlight => exact followed_completeConversion h c
  | markStart fmon =>
    exact SameFollowed.followed ⟨by simp, by simp, by simp, fun idle => by simpa [startMark_state] using idle, by simp⟩ h
  | stepEnd fmon =>
    exact SameFollowed.followed ⟨by simp, by simp, by simp, fun idle => by simpa [endStep_state] using idle, by simp⟩ h
  | nothing | loadZone | setAutotrim | reload | sweep | loadStrategy | releaseStrategy | openStream | removeGuard
  | ackEvents | setPermissions | setAlertMode | busTimeout | staleFrame | malformed | refuse | replySend | fallEmpty
  | transition | blockSample | idleSample | pulseEnd =>
    refine followed_frame h ?_ ?_ ?_ ?_ <;> simp [State.setZoneState]

theorem tick_followed (h : s.Followed) : s.tick.Followed := by
  have ticked : ∀ layer, s.pickup.motion.tick = .settled layer → s.pickup.motion = .settled layer := fun layer => by
    cases s.pickup.motion with
    | settled l => exact id
    | moving source target left => exact fun settled => by cases settled
  unfold State.tick
  split
  · exact h
  · exact SameFollowed.followed (s := s) ⟨rfl, rfl, rfl, id, ticked⟩ h

end

end Sys2Proof.Laws

/-!
PROOFS. The statement settled: O44.
-/

namespace Sys2Proof.Settled

open Sys2Proof Sys2Proof.Machine Sys2Proof.Laws

/-- Settles O44: the target by the state of the oldest entry; every change ends in a look at the queue, or leaves what follows it. -/
theorem followersKept : Obligations.FollowersKept := by
  unfold Obligations.FollowersKept
  refine ⟨fun s e rest ordered hq => ?_, fun s hq => by rw [hq]; rfl, fun s t ordered emission followed h => ?_⟩
  · have ordered := (queueOrdered_iff.1 ordered).1
    rw [hq] at ordered ⊢
    refine ⟨fun current left => targetOf_current ordered current left, fun accepted => targetOf_accepted ordered accepted,
      fun current used => ?_, fun waiting => targetOf_waiting ordered waiting⟩
    rw [targetOf_behind ordered current used]
    refine ⟨fun f later hr accepted => ?_, fun waiting => ?_⟩
    · subst hr
      exact if_pos accepted
    · cases rest with
      | nil => rfl
      | cons f later =>
        refine if_neg ?_
        rw [waiting f later rfl]
        decide
  · have all : t.QueueOrdered ∧ t.Emission ∧ t.Followed :=
      step_keeps (P := fun s => s.QueueOrdered ∧ s.Emission ∧ s.Followed)
        (fun _ _ ⟨ordered, emission, followed⟩ => ⟨queueOrdered_frame ordered rfl rfl,
          emission_frame emission rfl rfl rfl rfl rfl, followed_frame followed rfl rfl rfl rfl⟩)
        (fun _ _ ⟨ordered, emission, followed⟩ => ⟨queueOrdered_frame ordered rfl rfl,
          emission_frame emission rfl rfl rfl rfl rfl, followed_frame followed rfl rfl rfl rfl⟩)
        (fun s ⟨ordered, emission, followed⟩ => ⟨queueOrdered_frame ordered (tick_queue s) (tick_translating s),
          tick_emission emission, tick_followed followed⟩)
        (fun _ _ effect ⟨ordered, emission, followed⟩ => ⟨effect.queueOrdered ordered, effect.emission emission,
          effect.followed ordered emission followed⟩) h ⟨ordered, emission, followed⟩
    exact all.2.2

end Sys2Proof.Settled

/-!
PROOFS. The machine as a whole: which rows are commands and how they answer, what a row leaves of the waiting commands, one microsecond
of the timers, and what a message makes of the control port.
-/

namespace Sys2Proof.Laws

open Sys2Proof Sys2Proof.Machine

/-! ### Rows and commands -/

/-- The row executes a command of this code from levels up to `g`, by a rule that leaves the port to the executor's frame (R160, R161). -/
def CommandRow (c : Instr) (code : Byte) (g : Level) : Prop :=
  ∃ f : Level → List Byte → State → Answered,
    (∀ s, exec c s = s.execute code g f) ∧ ∀ l ps s, (f l ps s).1.port = s.port

/-- A rule that only reads leaves the port. -/
theorem port_of_read {f : Level → List Byte → State → Answered} (hf : ∀ l ps s, (f l ps s).1 = s) :
    ∀ l ps s, (f l ps s).1.port = s.port := fun l ps s => by rw [hf]

theorem commandRow {c : Instr} {code : Byte} {g : Level} (h : commandOf c = some (code, g)) (hc : ∀ found, c ≠ .reset found) :
    CommandRow c code g := by
  cases c with
  | loadZone => cases h; exact ⟨loadZone, fun _ => rfl, loadZone_port⟩
  | setPowers => cases h; exact ⟨setPowers, fun _ => rfl, setPowers_port⟩
  | setTrimAbsolute => cases h; exact ⟨setTrimAbsolute, fun _ => rfl, setTrimAbsolute_port⟩
  | setTrimShort => cases h; exact ⟨setTrimShort, fun _ => rfl, setTrimShort_port⟩
  | setAutotrim => cases h; exact ⟨setAutotrim, fun _ => rfl, setAutotrim_port⟩
  | markAbsent => cases h; exact ⟨markAbsent, fun _ => rfl, markAbsent_port⟩
  | markPresent => cases h; exact ⟨markPresent, fun _ => rfl, markPresent_port⟩
  | closeZone => cases h; exact ⟨closeZone, fun _ => rfl, closeZone_port⟩
  | reopenZone => cases h; exact ⟨reopenZone, fun _ => rfl, reopenZone_port⟩
  | releaseZone => cases h; exact ⟨releaseZone, fun _ => rfl, releaseZone_port⟩
  | readZone => cases h; exact ⟨readZone, fun _ => rfl, port_of_read readZone_state⟩
  | findZone => cases h; exact ⟨findZone, fun _ => rfl, port_of_read findZone_state⟩
  | sweep => cases h; exact ⟨sweep, fun _ => rfl, sweep_port⟩
  | loadStrategy => cases h; exact ⟨loadStrategy, fun _ => rfl, loadStrategy_port⟩
  | releaseStrategy => cases h; exact ⟨releaseStrategy, fun _ => rfl, releaseStrategy_port⟩
  | readStrategy => cases h; exact ⟨readStrategy, fun _ => rfl, port_of_read readStrategy_state⟩
  | openStream => cases h; exact ⟨openStream, fun _ => rfl, openStream_port⟩
  | closeStream => cases h; exact ⟨closeStream, fun _ => rfl, closeStream_port⟩
  | readStream => cases h; exact ⟨readStream, fun _ => rfl, port_of_read readStream_state⟩
  | addGuard => cases h; exact ⟨addGuard, fun _ => rfl, addGuard_port⟩
  | removeGuard => cases h; exact ⟨removeGuard, fun _ => rfl, removeGuard_port⟩
  | listGuards => cases h; exact ⟨listGuards, fun _ => rfl, port_of_read listGuards_state⟩
  | loadLayer => cases h; exact ⟨loadLayer, fun _ => rfl, loadLayer_port⟩
  | readPickup => cases h; exact ⟨readPickup, fun _ => rfl, port_of_read readPickup_state⟩
  | loadLaserModel => cases h; exact ⟨loadLaserModel, fun _ => rfl, loadLaserModel_port⟩
  | loadCeilings => cases h; exact ⟨loadCeilings, fun _ => rfl, loadCeilings_port⟩
  | laserOn => cases h; exact ⟨laserOn, fun _ => rfl, laserOn_port⟩
  | laserOff => cases h; exact ⟨laserOff, fun _ => rfl, laserOff_port⟩
  | clearFault => cases h; exact ⟨clearFault, fun _ => rfl, clearFault_port⟩
  | readLaser => cases h; exact ⟨readLaser, fun _ => rfl, port_of_read readLaser_state⟩
  | ackEvents => cases h; exact ⟨ackEvents, fun _ => rfl, ackEvents_port⟩
  | setPermissions => cases h; exact ⟨setPermissions, fun _ => rfl, setPermissions_port⟩
  | setAlertMode => cases h; exact ⟨setAlertMode, fun _ => rfl, setAlertMode_port⟩
  | readEvents => cases h; exact ⟨readEvents, fun _ => rfl, port_of_read readEvents_state⟩
  | inquire => cases h; exact ⟨inquire, fun _ => rfl, port_of_read inquire_state⟩
  | reset found => exact absurd rfl (hc found)
  | unmount => cases h; exact ⟨unmount, fun _ => rfl, unmount_port⟩
  | _ => cases h

/-- Every row answers a next state. -/
theorem exec_next (c : Instr) (s : State) : ∃ t, exec c s = .next t := by
  cases c <;> exact ⟨_, rfl⟩

/-- The event row does not act while RSTN is low. -/
theorem exec_of_inReset {c : Instr} {s : State} (h : s.inReset = true) (on : ∀ p, c ≠ .powerOn p)
    (release : ∀ p, c ≠ .rstnRelease p) (low : c ≠ .rstnLow) : exec c s = .next s := by
  cases c with
  | powerOn p => exact absurd rfl (on p)
  | rstnRelease p => exact absurd rfl (release p)
  | rstnLow => exact absurd rfl low
  | _ => exact congrArg Host.Outcome.next (if_pos h)

/-! ### RESET's executor frame -/

section
variable {s : State} {found : ResetLevels} {l : Level} {ps : List Byte}

theorem reset_accepted (h : s.executing 0 codeReset ps) : exec (.reset found) s = .next (s.resetCommand found) := by
  obtain ⟨running, command⟩ := h
  exact congrArg Host.Outcome.next ((if_neg (by simp [running])).trans (by simp [command]))

theorem reset_denied (h : s.executing l codeReset ps) (hl : l ≠ 0) :
    exec (.reset found) s = .next (s.withResult ⟨.denied, []⟩) := by
  obtain ⟨running, command⟩ := h
  exact congrArg Host.Outcome.next ((if_neg (by simp [running])).trans (by simp [command, hl, State.withResult]))

theorem reset_absent (h : ∀ l ps, s.port.executor ≠ some ⟨l, codeReset, ps, none⟩) : exec (.reset found) s = .next s := by
  simp only [exec, execReset, State.whenRunning]
  congr 1
  split
  · rfl
  · split
    · next l c ps he =>
      split
      · next hc => exact absurd (hc ▸ he) (h l ps)
      · rfl
    · rfl

end

/-! ### What a row leaves of the waiting commands -/

theorem Effect.pending {s t : State} (h : Effect s t) : t.pending = s.pending := by
  cases h with
  | temperature temp => simp only [sampled, refreshIdle_pending]; split <;> simp
  | unmount => simp [unmounted_eq, tablesCleared]; split <;> simp
  | laserOnHot => exact enterFault_pending ..
  | atReset p => rfl
  | holdInReset => rfl
  | resetCommand r => rfl
  | setLayer i r => rfl
  | resettle i r => rfl
  | laserOn off => rfl
  | clearFault fault => rfl
  | ackEvents mask => rfl
  | _ => simp [State.setZoneState]

theorem exec_pending {c : Instr} {s t : State} (h : exec c s = .next t) : t.pending = s.pending := by
  obtain ⟨u, p, hu, rfl⟩ := exec_acts h
  exact hu.pending

/-! ### One microsecond -/

/-- A tick, block by block (assumption log 4). -/
theorem tick_running {s : State} (running : s.inReset = false) : s.tick =
    ((((s.withPickup { s.pickup with motion := s.pickup.motion.tick }).withLaser s.laser.tick).withMonitor
      s.monitor.tick).withPort { s.port with busTimer := s.port.tick.busTimer }).withAlert
      { s.alert with pulse := countDown s.alert.pulse } := by
  have port : s.port.tick = { s.port with busTimer := s.port.tick.busTimer } := by
    unfold Port.tick
    split <;> rfl
  rw [← port]
  exact if_neg (by simp [running])

/-! ### Reset -/

/-- A state with every block at its reset value, but for the levels the pins gave, the port and the waiting commands. -/
def atResetValues (inReset stale high pll loff : Bool) (clock : ClockLock) (temp : Int) (port : Port) (pending : List Instr) : State :=
  { State.reset with
    inReset := inReset
    link := { State.reset.link with staleFrame := stale }
    gate := { high := high, record := none }
    laser := { State.reset.laser with clock := clock, pllLock := pll, temp := temp, loff := loff }
    port := port
    pending := pending }

theorem atResetValues_resetValues (inReset stale high pll loff : Bool) (clock : ClockLock) (temp : Int) (port : Port)
    (pending : List Instr) : (atResetValues inReset stale high pll loff clock temp port pending).ResetValues where
  zones := zone_of_replicate rfl
  strategies := strategy_of_replicate rfl
  guards := rfl
  streams n := by simp [State.stream, atResetValues, State.reset]
  queue := ⟨rfl, rfl⟩
  link := ⟨rfl, rfl, rfl⟩
  record := rfl
  writePath := rfl
  levels := ⟨rfl, rfl, rfl, rfl, rfl⟩
  pickup := ⟨fun n => by simp [State.layerRecord, atResetValues, State.reset], rfl, rfl, rfl, rfl⟩
  laser := ⟨rfl, rfl, rfl⟩
  records := ⟨rfl, rfl, rfl, rfl, rfl⟩
  timers := ⟨rfl, rfl, rfl, rfl⟩
  monitor := ⟨rfl, rfl, rfl, rfl, rfl⟩
  alert := ⟨rfl, rfl, rfl, by simp [Alert.active, atResetValues, State.reset]⟩

/-- A temperature in the sensor's range is read as it is (R133). -/
theorem sensorReading_of_mem {t : Int} (h : -40 ≤ t) (h' : t ≤ 125) : sensorReading t = t := by
  simp only [sensorReading, Config.tempMin, Config.tempMax, clampInt_eq_ite (show (-40 : Int) ≤ 125 by decide)]
  rw [if_neg (by omega), if_neg (by omega)]

theorem slots_of_replicate {p : Port} (h : p.slots = Vector.replicate 3 none) (l : Level) : p.slots[l] = none := by
  simp [h]

/-! ### Message lengths and addresses (R157, R158, section 12.1) -/

theorem paramLength_eq_some_iff {b : Byte} {n : Nat} : paramLength b = some n ↔ (b, n) ∈ messageTable := by
  have listed : ∀ b : Byte, ((paramLength b).all fun n => decide ((b, n) ∈ messageTable)) = true := by decide
  have coded : ∀ m ∈ messageTable, paramLength m.1 = some m.2 := by decide
  constructor
  · intro h
    simpa [h] using listed b
  · exact coded (b, n)

theorem paramLength_eq_none {b : Byte} (h : ∀ n, (b, n) ∉ messageTable) : paramLength b = none :=
  Option.eq_none_iff_forall_ne_some.2 fun n hn => h n (paramLength_eq_some_iff.1 hn)

section
variable {k : BitVec 2} {a : Nat}

theorem levelOfAddress_eq_some_iff {l : Level} : levelOfAddress k a = some l ↔
    (l = 0 ∧ a = 0x30 + 8 * k.toNat) ∨ (l = 1 ∧ a = 0x31 + 8 * k.toNat) ∨
      (l = 2 ∧ 0x34 + 8 * k.toNat ≤ a ∧ a ≤ 0x37 + 8 * k.toNat) := by
  unfold levelOfAddress
  dsimp only
  split
  · next h => simp only [Option.some.injEq, Fin.ext_iff, Fin.val_zero, Fin.val_one, Fin.val_two]; omega
  · split
    · next h => simp only [Option.some.injEq, Fin.ext_iff, Fin.val_zero, Fin.val_one, Fin.val_two]; omega
    · split
      · next h => simp only [Option.some.injEq, Fin.ext_iff, Fin.val_zero, Fin.val_one, Fin.val_two]; omega
      · next h => simp only [reduceCtorEq, false_iff, Fin.ext_iff, Fin.val_zero, Fin.val_one, Fin.val_two]; omega

theorem addressed_of_level {b : Byte} {l : Level} (h : levelOfAddress k (b.toNat / 2) = some l) :
    addressed k b = some (if b.getLsbD 0 then .read l else .write l) := by
  have positive : b.toNat / 2 ≠ 0 := by
    rcases levelOfAddress_eq_some_iff.1 h with ⟨_, ha⟩ | ⟨_, ha⟩ | ⟨_, ha, _⟩ <;> omega
  simp [addressed, positive, h]

theorem addressed_general : addressed k 0x00#8 = some .generalCall := rfl

theorem addressed_of_other {b : Byte} (h0 : b ≠ 0x00#8) (h : levelOfAddress k (b.toNat / 2) = none) : addressed k b = none := by
  unfold addressed
  dsimp only
  split
  · next h2 =>
    have read : b = 1#8 := by
      have : b.toNat ≠ 0 := fun e => h0 (BitVec.eq_of_toNat_eq e)
      exact BitVec.eq_of_toNat_eq (by simp; omega)
    subst read
    rfl
  · rw [h]; rfl

end

/-! ### The parts of the port -/

section
variable {p : Port} {l : Level}

theorem endTransfer_idle (h : p.transfer = .idle) : p.endTransfer = { p with transfer := .idle, busTimer := 0 } := by
  simp [Port.endTransfer, h]

theorem endTransfer_probe (h : p.transfer = .write l .empty) :
    p.endTransfer = { p with transfer := .idle, busTimer := 0 } := by
  simp [Port.endTransfer, h]

theorem endTransfer_unknown (h : p.transfer = .write l .unknown) : p.endTransfer =
    { p with transfer := .idle, busTimer := 0, slots := p.slots.set l.val (some ⟨.unknown, []⟩) } := by
  simp [Port.endTransfer, h, Port.setSlot]

section
variable {code : Byte} {ps : List Byte} {n : Nat}

theorem endTransfer_short (h : p.transfer = .write l (.known code ps)) (hn : (code, n) ∈ messageTable) (short : ps.length < n) :
    p.endTransfer = { p with transfer := .idle, busTimer := 0, slots := p.slots.set l.val (some ⟨.short, []⟩) } := by
  simp [Port.endTransfer, h, Port.setSlot, paramLength_eq_some_iff.2 hn, Nat.not_le.2 short]

theorem endTransfer_executes (h : p.transfer = .write l (.known code ps)) (hn : (code, n) ∈ messageTable) (whole : n ≤ ps.length)
    (idle : p.executor = none) :
    p.endTransfer = { p with transfer := .idle, busTimer := 0, executor := some ⟨l, code, ps, none⟩ } := by
  simp [Port.endTransfer, h, Port.handOver, paramLength_eq_some_iff.2 hn, whole, idle]

theorem endTransfer_holds {e : Executing} (h : p.transfer = .write l (.known code ps)) (hn : (code, n) ∈ messageTable)
    (whole : n ≤ ps.length) (busy : p.executor = some e) :
    p.endTransfer = { p with transfer := .idle, busTimer := 0, held := p.held ++ [⟨l, code, ps⟩] } := by
  simp [Port.endTransfer, h, Port.handOver, paramLength_eq_some_iff.2 hn, whole, busy]

theorem messageByte_parameter (hn : (code, n) ∈ messageTable) (room : ps.length < n) (b : Byte) :
    p.messageByte l (.known code ps) b = p.answer (.write l (.known code (ps ++ [b]))) true := by
  simp [Port.messageByte, paramLength_eq_some_iff.2 hn, room]

theorem messageByte_beyond (hn : (code, n) ∈ messageTable) (full : n ≤ ps.length) (b : Byte) :
    p.messageByte l (.known code ps) b = p.answer (.write l (.known code ps)) false := by
  simp [Port.messageByte, paramLength_eq_some_iff.2 hn, Nat.not_lt.2 full]

end

theorem messageByte_code {b : Byte} {n : Nat} (hn : (b, n) ∈ messageTable) :
    p.messageByte l .empty b = p.answer (.write l (.known b [])) true := by
  simp [Port.messageByte, paramLength_eq_some_iff.2 hn]

theorem messageByte_unknown {b : Byte} (hn : ∀ n, (b, n) ∉ messageTable) :
    p.messageByte l .empty b = p.answer (.write l .unknown) false := by
  simp [Port.messageByte, paramLength_eq_none hn]

theorem endTransfer_over (p : Port) :
    p.endTransfer.transfer = .idle ∧ p.endTransfer.busTimer = 0 ∧ p.endTransfer.stretched = p.stretched ∧
      p.endTransfer.k = p.k := by
  unfold Port.endTransfer
  dsimp only
  split
  case h_3 =>
    split
    · unfold Port.handOver; split <;> exact ⟨rfl, rfl, rfl, rfl⟩
    · exact ⟨rfl, rfl, rfl, rfl⟩
  all_goals exact ⟨rfl, rfl, rfl, rfl⟩

theorem endTransfer_endTransfer : p.endTransfer.endTransfer = p.endTransfer := by
  have same : ∀ q : Port, q.transfer = .idle → q.busTimer = 0 → { q with transfer := .idle, busTimer := 0 } = q := by
    rintro ⟨⟩ rfl rfl
    rfl
  obtain ⟨idle, timer, -, -⟩ := endTransfer_over p
  rw [endTransfer_idle idle]
  exact same _ idle timer

/-- A repeated START ends the transfer before its address byte is judged (section 10.2). -/
theorem address_endTransfer (b : Byte) : p.endTransfer.address b = p.address b := by
  simp only [Port.address, endTransfer_endTransfer]

/-- An address byte with no transfer in progress. -/
theorem address_idle (h : p.transfer = .idle) (b : Byte) : p.address b =
    match addressed p.k b with
    | some (.write l) => { p with busTimer := 0, transfer := .write l .empty, ack := true, stretched := p.isPending l }
    | some (.read l) => { p with busTimer := 0, transfer := .read l, ack := true, stretched := p.isPending l }
    | some .generalCall => { p with busTimer := 0, transfer := .generalCall false, ack := true }
    | none => { p with busTimer := 0, transfer := .idle, ack := false } := by
  simp only [Port.address, endTransfer_idle h]
  rfl

theorem startNext_keeps (p : Port) : p.startNext.k = p.k ∧ p.startNext.transfer = p.transfer ∧
    p.startNext.stretched = p.stretched ∧ p.startNext.busTimer = p.busTimer ∧ p.startNext.slots = p.slots := by
  unfold Port.startNext
  split <;> exact ⟨rfl, rfl, rfl, rfl, rfl⟩

theorem startNext_cases (p : Port) :
    (p.held = [] → p.startNext = { p with executor := none }) ∧
    ∀ h rest, p.held = h :: rest →
      p.startNext = { p with executor := some ⟨h.level, h.code, h.params, none⟩, held := rest } := by
  unfold Port.startNext
  constructor
  · intro none
    simp [none]
  · intro h rest next
    simp [next]

end

end Sys2Proof.Laws

/-! ### A whole message, one byte a step (R158, R160) -/

namespace Sys2Proof.Laws

open Sys2Proof Sys2Proof.Machine

theorem stepTimes_succ {s t : State} (h : step s = .next t) (n : Nat) : stepTimes (n + 1) s = stepTimes n t := by
  simp [stepTimes, h]

theorem step_front {c : Instr} {rest : List Instr} {s : State} (h : s.pending = c :: rest) :
    step s = exec c (s.withPending rest) := by
  simp [step, h]

section
variable {s : State} {l : Level} {code : Byte} {n : Nat}

theorem exec_messageByte (running : s.inReset = false) (free : s.port.stretched = false) {m : PartialMessage}
    (opened : s.port.transfer = .write l m) (b : Byte) :
    exec (.commandMessageByte b) s = .next (s.withPort (s.port.messageByte l m b)) :=
  congrArg Host.Outcome.next ((if_neg (by simp [running])).trans (by simp [free, opened]))

theorem exec_writeTransferEnd (running : s.inReset = false) (free : s.port.stretched = false) :
    exec .writeTransferEnd s = .next (s.withPort s.port.endTransfer) :=
  congrArg Host.Outcome.next ((if_neg (by simp [running])).trans (by simp [free]))

theorem exec_commandCompletion (running : s.inReset = false) {ps : List Byte} {r : Result}
    (executing : s.port.executor = some ⟨l, code, ps, some r⟩) :
    exec .commandCompletion s = .next (s.withPort { (s.port.setSlot l (some r)).startNext with
      stretched := (s.port.setSlot l (some r)).startNext.stretched &&
        decide ((s.port.setSlot l (some r)).startNext.transfer.level ≠ some l) }) :=
  congrArg Host.Outcome.next ((if_neg (by simp [running])).trans (by simp [executing]))

theorem exec_addressByte (running : s.inReset = false) (free : s.port.stretched = false) (b : Byte) :
    exec (.addressByte b) s = .next (s.withPort (s.port.address b)) :=
  congrArg Host.Outcome.next ((if_neg (by simp [running])).trans (by simp [free]))

/-- The rest of a message: the parameter bytes that are still to come, and the end of the transfer. -/
theorem stepTimes_parameters (running : s.inReset = false) (free : s.port.stretched = false) (idle : s.port.executor = none)
    (hn : (code, n) ∈ messageTable) (acked : s.port.ack = true) (timer : s.port.busTimer = 0) (taken left : List Byte)
    (whole : taken.length + left.length = n) (opened : s.port.transfer = .write l (.known code taken))
    (waiting : s.pending = left.map .commandMessageByte ++ [.writeTransferEnd]) :
    stepTimes (left.length + 1) s = .next ((s.withPort { s.port with
      transfer := .idle, executor := some ⟨l, code, taken ++ left, none⟩ }).withPending []) := by
  induction left generalizing s taken with
  | nil =>
    have ended := exec_writeTransferEnd (s := s.withPending []) running free
    rw [stepTimes_succ ((step_front waiting).trans ended)]
    rw [withPending_port, endTransfer_executes opened hn (by simpa using whole.ge) idle]
    simp [stepTimes, State.withPort, State.withPending, timer]
  | cons b left ih =>
    have byte := exec_messageByte (s := s.withPending (left.map .commandMessageByte ++ [.writeTransferEnd]))
      running free opened b
    rw [List.length_cons, stepTimes_succ ((step_front waiting).trans byte)]
    rw [withPending_port, messageByte_parameter hn (by simp at whole; omega)]
    have rest := ih (s := (s.withPending (left.map .commandMessageByte ++ [.writeTransferEnd])).withPort
      (s.port.answer (.write l (.known code (taken ++ [b]))) true)) running free idle rfl rfl (taken ++ [b])
      (by simp at whole ⊢; omega) rfl rfl
    rw [rest]
    simp [State.withPort, State.withPending, Port.answer, acked, timer]

/-- A message from its code byte on. -/
theorem stepTimes_code {ps : List Byte} (running : s.inReset = false) (free : s.port.stretched = false)
    (idle : s.port.executor = none) (hn : (code, ps.length) ∈ messageTable) (acked : s.port.ack = true)
    (opened : s.port.transfer = .write l .empty)
    (waiting : s.pending = .commandMessageByte code :: (ps.map .commandMessageByte ++ [.writeTransferEnd])) :
    stepTimes (ps.length + 2) s = .next ((s.withPort { s.port with
      transfer := .idle, busTimer := 0, executor := some ⟨l, code, ps, none⟩ }).withPending []) := by
  have first := exec_messageByte (s := s.withPending (ps.map .commandMessageByte ++ [.writeTransferEnd])) running free opened code
  rw [withPending_port, messageByte_code hn] at first
  rw [stepTimes_succ ((step_front waiting).trans first)]
  rw [stepTimes_parameters (by exact running) (by exact free) (by exact idle) hn rfl rfl [] ps (by simp) rfl rfl]
  simp [State.withPort, State.withPending, Port.answer, acked]

end

end Sys2Proof.Laws

/-!
PROOFS. The statements settled on the machine as a whole, on reset and on the control port, the all-stop apart.
-/

namespace Sys2Proof.Settled

open Sys2Proof Sys2Proof.Machine Sys2Proof.Laws

/-- Settles O1, by the definition of a step. -/
theorem stepRunsFrontCommand : Obligations.StepRunsFrontCommand := by
  unfold Obligations.StepRunsFrontCommand
  exact fun c rest s => step_front (s := s.withPending (c :: rest)) rfl

/-- Settles O2: a row's change leaves the waiting commands, and a tick is read off its definition. -/
theorem commandsAndTicksComplete : Obligations.CommandsAndTicksComplete := by
  unfold Obligations.CommandsAndTicksComplete
  refine ⟨fun c s => ?_, fun s waiting held => ?_, fun s waiting running => ?_⟩
  · obtain ⟨t, ht⟩ := exec_next c s
    exact ⟨t, ht, exec_pending ht⟩
  · simp [step, waiting, State.tick, held]
  · refine ⟨s.tick, by simp [step, waiting], ?_⟩
    rw [tick_running running]
    refine ⟨rfl, fun layer settled => ?_, fun source target left moving => ?_, fun still => ?_, fun opened free => ?_⟩
    · simp [settled, Motion.tick]
    · simp [moving, Motion.tick]
    · simp [Port.tick, still]
    · simp [Port.tick, opened, free]

/-- Settles O3, row by row. -/
theorem heldWhileResetPinLow : Obligations.HeldWhileResetPinLow := by
  unfold Obligations.HeldWhileResetPinLow
  exact fun c s => exec_of_inReset

/-- Settles O4: the executor's frame for every command, RESET's own frame for RESET. -/
theorem privilegeCheckFirst : Obligations.PrivilegeCheckFirst := by
  unfold Obligations.PrivilegeCheckFirst
  intro c code greatest s command
  by_cases reset : ∃ found, c = .reset found
  · obtain ⟨found, rfl⟩ := reset
    cases command
    refine ⟨fun l ps he => ⟨fun above => reset_denied he above.ne', fun _ other => absurd rfl (other found)⟩, reset_absent⟩
  · obtain ⟨f, arm, port⟩ := commandRow command fun found h => reset ⟨found, h⟩
    refine ⟨fun l ps he => ⟨fun above => (arm s).trans (execute_denied he above), fun below _ => ?_⟩, fun absent => ?_⟩
    · refine ⟨_, (f l ps s).2, (arm s).trans (execute_accepted he below), ?_⟩
      rw [withPort_port, port]
    · exact (arm s).trans (execute_absent fun l ps he => absent l ps he.2)

/-- Settles O5, field by field of the reset state. -/
theorem resetStateValues : Obligations.ResetStateValues := by
  unfold Obligations.ResetStateValues
  exact ⟨atResetValues_resetValues false false false false false .unlocked 25 State.reset.port [], rfl,
    slots_of_replicate rfl, rfl, rfl, rfl⟩

/-- Settles O6: each row leaves the reset values with the levels it finds. -/
theorem resetPins : Obligations.ResetPins := by
  unfold Obligations.ResetPins
  refine ⟨fun p s cold warm => ⟨⟨s.atReset p, rfl, fun held => ?_, ?_⟩, fun running => ?_⟩, fun s => ⟨s.holdInReset, rfl, ?_⟩⟩
  · exact congrArg Host.Outcome.next (if_pos held)
  · exact ⟨atResetValues_resetValues .., rfl, rfl, rfl, rfl, sensorReading_of_mem cold warm, rfl, rfl,
      slots_of_replicate rfl, rfl, rfl, rfl, rfl, rfl⟩
  · exact congrArg Host.Outcome.next (if_neg (by simp [running]))
  · exact ⟨atResetValues_resetValues true false false false false .unlocked s.laser.temp _ s.pending, rfl, rfl, rfl, rfl, rfl, rfl⟩

/-- Settles O7, on the state that RESET leaves. -/
theorem resetCommand : Obligations.ResetCommand := by
  unfold Obligations.ResetCommand
  intro s ps found he cold warm
  exact ⟨s.resetCommand found, reset_accepted he, atResetValues_resetValues .., rfl, sensorReading_of_mem cold warm, rfl, rfl,
    rfl, rfl, rfl, rfl⟩

/-- Settles O8: a transfer still open ends first; then the byte is one of the three kinds of address or none. -/
theorem addressByteAnswered : Obligations.AddressByteAnswered := by
  unfold Obligations.AddressByteAnswered
  constructor
  · intro s b running free _
    obtain ⟨idle, -, stretched, -⟩ := endTransfer_over s.port
    refine ⟨_, exec_writeTransferEnd running free, idle, stretched.trans free, ?_⟩
    rw [exec_addressByte running free, exec_addressByte (s := s.withPort s.port.endTransfer) running (stretched.trans free),
      withPort_port, address_endTransfer]
    rfl
  · intro s b running free idle
    refine ⟨_, exec_addressByte running free b, rfl, ?_, fun l hl => ?_, ?_, fun h0 hm hf ho => ?_⟩
    · rw [withPort_port, address_idle idle]
      split <;> rfl
    · rw [withPort_port, address_idle idle, addressed_of_level (levelOfAddress_eq_some_iff.2 hl)]
      cases b.getLsbD 0 <;> exact ⟨rfl, rfl, rfl⟩
    · rintro rfl
      rw [withPort_port, address_idle idle, addressed_general]
      exact ⟨rfl, rfl, free⟩
    · have none : levelOfAddress s.port.k (b.toNat / 2) = none := by
        refine Option.eq_none_iff_forall_ne_some.2 fun l hl => ?_
        rcases levelOfAddress_eq_some_iff.1 hl with ⟨_, h⟩ | ⟨_, h⟩ | ⟨_, h⟩
        · exact hm h
        · exact hf h
        · exact ho h
      rw [withPort_port, address_idle idle, addressed_of_other h0 none]
      exact ⟨rfl, rfl, free⟩

/-- Settles O9, clause by clause, from the bytes and the ends of a write transfer. -/
theorem writeTransferDecided : Obligations.WriteTransferDecided := by
  unfold Obligations.WriteTransferDecided
  constructor
  · intro s l b running free
    refine ⟨fun n opened hn => ?_, fun opened hn => ?_, fun opened => ?_, fun code ps n opened hn room => ?_,
      fun code ps n opened hn full => ?_⟩
    · rw [exec_messageByte running free opened, messageByte_code hn]
    · rw [exec_messageByte running free opened, messageByte_unknown hn]
    · rw [exec_messageByte running free opened]
      rfl
    · rw [exec_messageByte running free opened, messageByte_parameter hn room]
    · rw [exec_messageByte running free opened, messageByte_beyond hn full]
  · intro s l running free
    rw [exec_writeTransferEnd running free]
    refine ⟨fun opened => ?_, fun opened => ?_, fun code ps n opened hn short => ?_, fun code ps n opened hn whole idle => ?_,
      fun code ps n e opened hn whole busy => ?_⟩
    · rw [endTransfer_probe opened]
    · rw [endTransfer_unknown opened]
    · rw [endTransfer_short opened hn short]
    · rw [endTransfer_executes opened hn whole idle]
    · rw [endTransfer_holds opened hn whole busy]

/-- Settles O10: the completion of the executing command, and the bytes of a slot. -/
theorem completionFillsSlot : Obligations.CompletionFillsSlot := by
  unfold Obligations.CompletionFillsSlot
  constructor
  · intro s l code ps r running executing
    refine ⟨_, exec_commandCompletion running executing, rfl, ?_⟩
    obtain ⟨none, next⟩ := startNext_cases (s.port.setSlot l (some r))
    obtain ⟨k, transfer, stretched, timer, slots⟩ := startNext_keeps (s.port.setSlot l (some r))
    refine ⟨?_, fun m hm => ?_, fun empty => ?_, fun h rest waiting => ?_, ?_, k, transfer, timer⟩
    · simp only [withPort_port, slots]
      simp [Port.setSlot]
    · have apart : l.val ≠ m.val := fun h => hm (Fin.ext h.symm)
      simp only [withPort_port, slots]
      simp [Port.setSlot, apart]
    · rw [withPort_port, none empty]
      exact ⟨rfl, empty⟩
    · rw [withPort_port, next h rest waiting]
      exact ⟨rfl, rfl⟩
    · simp only [withPort_port, stretched, transfer, Bool.and_eq_true, decide_eq_true_iff]
      rfl
  · intro p l i
    refine ⟨fun empty => ?_, fun r filled => ?_⟩
    · rw [Port.readByte, empty]
      rcases i with _ | _ | i <;> rfl
    · rw [Port.readByte, filled]
      rcases i with _ | _ | i <;> rfl

/-- Settles O12, on the abandoned transfer. -/
theorem busTimeoutAbandons : Obligations.BusTimeoutAbandons := by
  unfold Obligations.BusTimeoutAbandons
  intro s running
  refine ⟨fun opened free => ?_, fun untimed => ?_⟩
  · refine ⟨_, congrArg Host.Outcome.next ((if_neg (by simp [running])).trans (if_neg (by simp [opened, free]))), ?_⟩
    exact ⟨rfl, rfl, rfl, rfl, rfl, rfl, rfl, alertRaised_raise ..⟩
  · exact congrArg Host.Outcome.next ((if_neg (by simp [running])).trans (if_pos untimed))

/-- Settles O13: the address and code bytes, then the parameters by induction. -/
theorem messageReachesExecutor : Obligations.MessageReachesExecutor := by
  unfold Obligations.MessageReachesExecutor
  intro s address code l ps running free idle executor held selected hn waiting
  have unheld : s.port.isPending l = false := by simp [Port.isPending, executor, held]
  have address_answer : s.port.address address =
      { s.port with busTimer := 0, transfer := .write l .empty, ack := true, stretched := false } := by
    rw [address_idle idle, selected]
    simp [unheld]
  have first := exec_addressByte (s := s.withPending (.commandMessageByte code :: (ps.map .commandMessageByte ++ [.writeTransferEnd])))
    running free address
  rw [withPending_port, address_answer] at first
  rw [stepTimes_succ ((step_front waiting).trans first)]
  refine ⟨_, stepTimes_code (by exact running) rfl executor hn rfl rfl rfl, rfl, ?_⟩
  simp [idle, free]

/-- Settles O54, on the reset state. -/
theorem resetKeepsInvariants : Obligations.ResetKeepsInvariants := by
  unfold Obligations.ResetKeepsInvariants
  have free : ∀ i, State.reset.zone i = Zone.freeContent := zone_of_replicate rfl
  have unloaded : ∀ k, State.reset.strategy k = Strategy.freeContent := strategy_of_replicate rfl
  have closed : ∀ n, State.reset.stream n = Stream.resetContent := fun n => by simp [State.stream, State.reset]
  refine ⟨⟨rfl, ?_, ?_⟩, ?_, ?_, ?_, ?_, ?_, ?_⟩
  · exact fun l h => by cases h
  · exact fun layer e _ h => by cases h
  · exact ⟨⟨fun h => (by cases h), fun h => (by cases h), fun _ => ⟨rfl, rfl⟩⟩, le_rfl, fun _ => rfl, fun _ => rfl,
      fun _ => ⟨rfl, rfl⟩, fun _ => rfl, fun _ h => (by cases h), fun _ h => (by cases h), fun _ h => (by cases h),
      fun h => (by cases h), fun _ h => (by cases h)⟩
  · intro i j _ h
    rw [free] at h
    cases h
  · intro k
    rw [unloaded]
    refine ⟨?_, fun h => absurd h (by decide)⟩
    simp [State.namedBy, free, Zone.freeContent, Strategy.freeContent]
  · refine ⟨fun i => ?_, fun i _ => ?_, fun i h => ?_, ?_, ?_, ?_⟩
    · rw [free]; rfl
    · rw [free]; rfl
    · rw [free] at h; cases h
    all_goals exact fun e h => by cases h
  · exact ⟨List.nodup_nil, fun e h => (by cases h), List.Pairwise.nil, rfl⟩
  · refine ⟨?_, ?_, ?_, ?_, ?_, rfl, rfl, fun i => ?_, fun i => ?_, fun n => ?_⟩
    · decide
    · decide
    · decide
    · decide
    · decide
    · rw [free]; decide
    · rw [free]; decide
    · rw [closed]; decide

end Sys2Proof.Settled

/-!
PROOFS. Entries that leave the queue with their REVOKEs: what the flush and the clock unlock do, in the terms of the statements (R75, R76,
R79, R96), and the ways of the laser to Off and to Fault (R130 to R135).
-/

namespace Sys2Proof.Laws

open Sys2Proof Sys2Proof.Machine

/-! ### A raise between two states -/

/-- An event that goes on after a request was raised has raised the same of the requests as it stood before. -/
theorem alertRaised_after_raise {p : RequestFlag → Bool} {a b : Alert} (h : AlertRaised p a b) (g : RequestFlag) :
    AlertRaised p (a.raise g) (b.raise g) := by
  have granted : ∀ f, (a.raise g).isGranted f = a.isGranted f := fun f => by simp [Alert.isGranted]
  have granted' : b.isGranted g = a.isGranted g := by unfold Alert.isGranted; rw [h.settings.1]
  have raises := alertRaised_raise a g
  have raises' := alertRaised_raise b g
  refine ⟨fun f => ?_, ?_, ?_, ?_, ?_⟩
  · rw [raise_isSet, raise_isSet, h.flags, Bool.or_right_comm]
  · rw [raises'.unused, raises.unused, h.unused]
  · simpa using h.settings
  · rintro pulse ⟨f, hg, hc, hp⟩
    rw [granted] at hg
    rw [raise_isSet, Bool.or_eq_false_iff] at hc
    rw [raise_pulse]
    split
    · rfl
    · exact h.pulse (by simpa using pulse) ⟨f, hg, hc.1, hp⟩
  · intro quiet
    rw [raise_pulse, raise_pulse, h.flags, h.settings.2, granted']
    rcases quiet with level | quiet
    · have level : a.mode = .level := by simpa using level
      simpa [level] using h.quiet (.inl level)
    · have apart : ∀ f, f ≠ g → a.isGranted f = true → a.isSet f = false → p f = false := fun f hf hg hc =>
        quiet f (by rw [granted, hg]) (by rw [raise_isSet, hc]; simp [hf])
      cases hg : a.isGranted g with
      | false => simpa using h.quiet (.inr fun f x y => apart f (fun e => by simp [e, hg] at x) x y)
      | true =>
        cases hc : a.isSet g with
        | true => simpa using h.quiet (.inr fun f x y => apart f (fun e => by simp [e, hc] at y) x y)
        | false =>
          cases hp : p g with
          | false =>
            have same : b.pulse = a.pulse := h.quiet (.inr fun f x y => by
              by_cases e : f = g
              · rw [e, hp]
              · exact apart f e x y)
            simp [same]
          | true =>
            cases hm : a.mode with
            | level => simpa using h.quiet (.inl hm)
            | pulse => simpa using h.pulse hm ⟨g, hg, hc, hp⟩

theorem triggerFrame_after_raise {named : List ZoneSlot} {told : List Reply} {s t : State} (h : TriggerFrame named told s t)
    (f : RequestFlag) : TriggerFrame named told (s.raise f) (t.raise f) where
  zones := h.zones
  strategies := h.strategies
  levels := h.levels
  target hg := ⟨(h.target hg).same, (h.target hg).other, (h.target hg).none⟩
  translator := h.translator
  pickup := ⟨h.pickup.starts, h.pickup.stays⟩
  gate := h.gate
  replies := h.replies
  alert := alertRaised_after_raise h.alert f
  others := h.others

/-! ### Before what follows a change of the queue -/

/-- From s to u, a trigger has told its replies and taken its entries and translations, and nothing has followed yet: the parts of
`TriggerFrame` that do not come from the translator, the level computer and the pickup. -/
structure Trimmed (named : List ZoneSlot) (told : List Reply) (s u : State) : Prop where
  zones : ∀ j, j ∉ named → (u.zone j).pins ≤ (s.zone j).pins ∧
    (u.zone j = { s.zone j with pins := (u.zone j).pins } ∨ (s.zone j).state = .retiring ∧ u.zone j = Zone.freeContent)
  strategies : ∀ k, u.strategy k = { s.strategy k with refs := (u.strategy k).refs } ∧
    (u.strategy k).refs ≤ (s.strategy k).refs
  levels : u.levels = s.levels
  pickup : u.pickup = s.pickup
  gate : u.gate = { s.gate with record := s.gate.record.map fun r => r.after s u }
  replies : Stored told s u
  alert : AlertRaised
    (fun f => decide (f = .revoke) && told.any Reply.isRevoke ||
      decide (f = .freed) && (zoneSlots.any fun j =>
        !named.contains j && decide ((s.zone j).state = .retiring ∧ (u.zone j).state = .free)) ||
      decide (f = .linkerr) && s.drops told) s.alert u.alert
  others : u.inReset = s.inReset ∧ u.guards = s.guards ∧ u.streams = s.streams ∧ u.writePath = s.writePath ∧
    u.laser = s.laser ∧ u.monitor = s.monitor ∧ u.port = s.port ∧ u.pending = s.pending

section
variable {named : List ZoneSlot} {told : List Reply} {s u : State}

theorem queueChanged_zone (u : State) (j : ZoneSlot) : u.queueChanged.zone j = u.zone j := by simp [State.zone]

theorem queueChanged_strategy (u : State) (k : StrategySlot) : u.queueChanged.strategy k = u.strategy k := by simp [State.strategy]

theorem after_queueChanged (r : BlockRecord) : r.after s u.queueChanged = r.after s u := by simp [BlockRecord.after]

theorem Trimmed.triggerFrame (h : Trimmed named told s u) : TriggerFrame named told s u.queueChanged where
  zones j hj := by simpa only [queueChanged_zone] using h.zones j hj
  strategies k := by simpa only [queueChanged_strategy] using h.strategies k
  levels := by rw [queueChanged_levels_frame, h.levels]
  target _ := queueChanged_targetFollowed h.levels
  translator := by simp
  pickup := queueChanged_moveFollowed h.pickup
  gate := by simpa only [queueChanged_gate, after_queueChanged] using h.gate
  replies := by rw [Stored, queueChanged_link]; exact h.replies
  alert := by simpa only [queueChanged_alert, queueChanged_zone] using h.alert
  others := by simpa using h.others

end

/-! ### Entries that leave with a REVOKE -/

/-- The block in service after entries have left: entries of one tag leave together. -/
theorem after_of_removal {s u : State} {p : Entry → Bool} (tags : ∀ e f : Entry, e.tag = f.tag → p e = p f)
    (queue : u.queue = s.queue.filter fun e => !p e) (r : BlockRecord) :
    r.after s u = { r with hasEntry := r.hasEntry && !(s.queue.any fun e => p e && r.isOf e) } := by
  have stays : ∀ e ∈ s.queue, (u.queue.any fun f => f.tag == e.tag) = !p e := fun e he => by
    rw [Bool.eq_iff_iff, List.any_eq_true, queue]
    constructor
    · rintro ⟨f, hf, tag⟩
      rw [← tags f e (by simpa using tag)]
      exact (List.mem_filter.1 hf).2
    · exact fun kept => ⟨e, List.mem_filter.2 ⟨he, kept⟩, by simp⟩
  have gone : ∀ e ∈ s.queue, (r.isOf e && !(u.queue.any fun f => f.tag == e.tag)) = (p e && r.isOf e) := fun e he => by
    rw [stays e he, Bool.not_not, Bool.and_comm]
  have uncut : (s.queue.any fun e => r.isOf e && decide (e.state = .current ∧ e.next < e.stop) && !u.queue.contains e &&
      u.queue.any fun f => f.tag == e.tag && decide (f.stop ≤ f.next)) = false := by
    refine List.any_eq_false.2 fun e he held => ?_
    simp only [Bool.and_eq_true, Bool.not_eq_true', List.any_eq_true, beq_iff_eq] at held
    obtain ⟨⟨-, absent⟩, f, hf, tag, -⟩ := held
    have kept : p e = false := by
      rw [← tags f e tag]
      simp only [queue, List.mem_filter, Bool.not_eq_true'] at hf
      exact hf.2
    have present : e ∈ u.queue := queue ▸ List.mem_filter.2 ⟨he, by simp [kept]⟩
    rw [← List.contains_iff_mem, absent] at present
    cases present
  unfold BlockRecord.after
  rw [any_congr_mem gone, uncut, Bool.or_false]

theorem any_isRevoke_of_all {rs : List Reply} (h : ∀ r ∈ rs, r.isRevoke = true) : rs.any Reply.isRevoke = !rs.isEmpty := by
  cases rs with
  | nil => rfl
  | cons r rs => simp [h r (by simp)]

theorem removal_trimmed (s : State) {rs : List Reply} {p : Entry → Bool} (revokes : ∀ r ∈ rs, r.isRevoke = true)
    (tags : ∀ e f : Entry, e.tag = f.tag → p e = p f) : Trimmed [] rs s ((s.produceRevokes rs).removeEntries p) := by
  obtain ⟨stored, told⟩ := produceRevokes_told s rs
  have dropped := removeEntries_pinsDropped (s.produceRevokes rs) p
  have zone : ∀ j, (s.produceRevokes rs).zone j = s.zone j := by simp [State.zone]
  have strategy : ∀ k, (s.produceRevokes rs).strategy k = s.strategy k := by simp [State.strategy]
  refine ⟨fun j _ => by simpa only [zone] using dropped.zones j, fun k => by simpa only [strategy] using dropped.strategies k,
    by simp, by simp, ?_, ?_, ?_, by simp⟩
  · rw [removeEntries_gate]
    simp only [produceRevokes_gate, produceRevokes_queue]
    congr 2
    exact funext fun r => (after_of_removal tags (by simp) r).symm
  · unfold Stored
    rw [removeEntries_link]
    exact stored
  · refine alertRaised_congr (alertRaised_trans told dropped.alert) fun f => ?_
    simp only [zone, any_isRevoke_of_all revokes, List.contains_nil, Bool.not_false, Bool.true_and]
    rw [Bool.or_assoc, Bool.or_comm]

/-! ### The flush (R75, R79) -/

section
variable {s : State} {reason : RevokeReason}

theorem flush_eq (s : State) (reason : RevokeReason) : s.flush reason =
    ((s.produceRevokes (s.flushRevokes reason)).removeEntries fun _ => true).queueChanged := rfl

theorem flushRevokes_isRevoke : ∀ r ∈ s.flushRevokes reason, r.isRevoke = true := by
  intro r hr
  obtain ⟨e, -, rfl⟩ := List.mem_map.1 hr
  rfl

theorem flush_triggerFrame (s : State) (reason : RevokeReason) :
    TriggerFrame [] (s.flushRevokes reason) s (s.flush reason) :=
  (removal_trimmed s flushRevokes_isRevoke fun _ _ _ => rfl).triggerFrame

theorem flushRevokes_any : (s.flushRevokes reason).any Reply.isRevoke = s.queue.any fun e => !s.awaitsFall e := by
  simp [State.flushRevokes, Reply.isRevoke, List.any_filter]

theorem key_eq_none_iff {p : Prepared} : p.key = none ↔ p = .absent := by
  cases p <;> simp [Prepared.key]

theorem flush_flushed (s : State) (reason : RevokeReason) : Flushed reason s (s.flush reason) := by
  have frame := flush_triggerFrame s reason
  have empty : (s.flush reason).queue = [] := by simp [flush_eq]
  have target : targetOf (s.flush reason).queue = none := by rw [empty]; rfl
  refine ⟨⟨empty, ?_, ?_⟩, ?_, frame.replies, ?_⟩
  · rw [frame.translator, empty]; rfl
  · have followed := frame.target fun g i hg => by rw [target] at hg; cases hg
    by_cases absent : s.levels.prepared.key = none
    · rw [(followed.same (by rw [target, absent]; rfl)).1, key_eq_none_iff.1 absent]
    · exact (followed.none target absent).1
  · rw [flush_eq, queueChanged_gate, removeEntries_gate]
    simp
  · rw [triggerFrame_revoke_request frame, flushRevokes_any]

end

/-! ### Off and Fault (R124, R130 to R135, R143) -/

section
variable {s : State}

theorem killSamples_dead (m : Monitor) : ∀ d ∈ m.killSamples.blockSamples, d.live = false := by
  intro d hd
  obtain ⟨d', -, rfl⟩ := List.mem_map.1 hd
  rfl

theorem turnOff_on (on : s.laser.state.on = true) (reason : RevokeReason) :
    s.turnOff reason = (s.darken .off).flush reason := if_pos on

theorem turnOff_dark (dark : s.laser.state.on = false) (reason : RevokeReason) : s.turnOff reason = s :=
  if_neg (by simp [dark])

theorem turnOff_turnedOff (on : s.laser.state.on = true) (reason : RevokeReason) : TurnedOff reason s (s.turnOff reason) := by
  have flushed := flush_flushed (s.darken .off) reason
  have monitor : (s.turnOff reason).monitor = (s.darken .off).monitor := by rw [turnOff_on on, flush_monitor]
  rw [← turnOff_on on] at flushed
  refine ⟨?_, ?_, ?_, ⟨flushed.queue, flushed.entry, flushed.replies, flushed.request⟩⟩
  · rw [monitor, turnOff_on on]
    exact flush_triggerFrame (s.darken .off) reason
  · rw [monitor]; rfl
  · rw [monitor]; exact killSamples_dead s.monitor

/-- The laser has left its on-state for Fault, and the queue is not flushed yet. -/
def faultDarkened (s : State) (cause : FaultCause) : State :=
  (s.withLaser { s.laser with faultRecord := ⟨cause, some s.laser.state, s.servedBlock, false⟩ }).darken .fault

theorem enterFault_eq (s : State) (cause : FaultCause) :
    s.enterFault cause = ((faultDarkened s cause).flush .fault).raise .fault := rfl

theorem flushed_after_raise {d t : State} {reason : RevokeReason} (h : Flushed reason d t) {f : RequestFlag} (hf : f ≠ .revoke)
    (queue : d.queue = s.queue) (gate : d.gate = s.gate) (link : d.link = s.link) (alert : d.alert = s.alert) :
    Flushed reason s (t.raise f) := by
  have revokes : d.flushRevokes reason = s.flushRevokes reason := by
    simp only [State.flushRevokes, State.awaitsFall, queue, gate]
  refine ⟨h.queue, ?_, ?_, ?_⟩
  · rw [← gate, ← queue]
    exact h.entry
  · have stored := h.replies
    rw [revokes] at stored
    simpa [Stored, link] using stored
  · rw [show (t.raise f).alert = t.alert.raise f from rfl, raise_isSet, h.request, decide_eq_false hf.symm, Bool.or_false, alert]
    simp only [State.awaitsFall, queue, gate]

theorem servedBlock_eq_some_iff {b : LayerNo × Nat} : s.servedBlock = some b ↔
    ∃ r, s.gate.record = some r ∧ r.outcome = .served ∧ b = (r.layer, r.block) := by
  unfold State.servedBlock
  split
  · next r hr =>
    simp only [hr, Option.some.injEq, exists_eq_left']
    split
    · next served => simp [served, eq_comm]
    · next skipped => simp [skipped]
  · next hr => simp [hr]

theorem enterFault_faulted (s : State) (cause : FaultCause) : Faulted cause s (s.enterFault cause) := by
  have laser : (s.enterFault cause).laser = (faultDarkened s cause).laser := by
    rw [enterFault_eq, raise_laser, flush_laser]
  have monitor : (s.enterFault cause).monitor = (faultDarkened s cause).monitor := by
    rw [enterFault_eq, raise_monitor, flush_monitor]
  refine ⟨?_, ?_, fun b => ?_, ?_, ?_, ?_⟩
  · rw [monitor, laser]
    exact triggerFrame_after_raise (flush_triggerFrame (faultDarkened s cause) .fault) .fault
  · rw [laser]
    exact ⟨rfl, rfl, rfl⟩
  · rw [laser]
    exact servedBlock_eq_some_iff
  · rw [monitor]; rfl
  · rw [monitor]; exact killSamples_dead s.monitor
  · rw [enterFault_eq]
    exact flushed_after_raise (flush_flushed (faultDarkened s cause) .fault) (f := .fault) nofun (by simp [faultDarkened])
      (by simp [faultDarkened]) (by simp [faultDarkened]) (by simp [faultDarkened])

end

/-! ### The read drive (R41, R44) -/

theorem readDrive_eq_ite (current : Nat) (apc : Int) (imax : Nat) : readDrive current apc imax =
    if (current : Int) + apc < 0 then 0 else if (imax : Int) < current + apc then imax else ((current : Int) + apc).toNat := by
  rw [readDrive, clampInt_eq_ite (by omega)]
  split_ifs <;> simp

section
variable {s : State}

theorem formReadDrive_of {current power : Nat} (h : s.readInUse = some (current, power)) : s.formReadDrive =
    (s.withLaser { s.laser with
      lsel := .read
      current := if (current : Int) + s.monitor.apc < 0 then 0
                 else if (s.laser.ceilings.imax : Int) < current + s.monitor.apc then s.laser.ceilings.imax
                 else ((current : Int) + s.monitor.apc).toNat }).raiseIf
      (decide ((s.laser.ceilings.imax : Int) < current + s.monitor.apc)) .iclamp := by
  simp only [State.formReadDrive, h, readDrive_eq_ite]
  rfl

/-- The state in which the laser has entered Idle and its drive is to be formed. -/
def idleEntered (s : State) : State :=
  ((s.withWritePath none).withLaser { s.laser with state := .idle, gateTimer := none }).withMonitor
    { s.monitor.killSamples with idleTimer := some Config.idleSampleMicros, peakHold := none }

theorem enterIdle_eq (s : State) : s.enterIdle = (idleEntered s).formReadDrive := rfl

@[simp] theorem enterIdle_monitor : s.enterIdle.monitor =
    { s.monitor.killSamples with idleTimer := some Config.idleSampleMicros, peakHold := none } := by
  rw [enterIdle_eq, formReadDrive_monitor]
  rfl

theorem raiseIf_isSet (s : State) (c : Bool) (g f : RequestFlag) :
    (s.raiseIf c g).alert.isSet f = (s.alert.isSet f || c && decide (f = g)) := by
  cases c
  · simp [State.raiseIf]
  · exact raise_isSet ..

/-- The laser's entry to Idle sets no request but ICLAMP (R44). -/
theorem enterIdle_isSet (s : State) {f : RequestFlag} (hf : f ≠ .iclamp) : s.enterIdle.alert.isSet f = s.alert.isSet f := by
  rw [enterIdle_eq, State.formReadDrive]
  split
  · rw [raiseIf_isSet, decide_eq_false hf, Bool.and_false, Bool.or_false]
    rfl
  · rfl

theorem readInUse_served (since : s.levels.servedSinceOn = true) {l : LevelSet} (h : s.levels.handedOff = some l) :
    s.readInUse = some (l.read.current, l.read.power) := by
  simp [State.readInUse, since, h]

theorem raiseIf_withLevels (s : State) (c : Bool) (f : RequestFlag) (l : LevelComputer) :
    (s.raiseIf c f).withLevels l = (s.withLevels l).raiseIf c f := by
  cases c <;> rfl

end

/-! ### The clock unlock (R76, R96, R138, R139) -/

section
variable {named : List ZoneSlot} {told : List Reply} {s u : State}

theorem stored_congr {s' t : State} (h : Stored told s t) (link : s'.link = s.link) : Stored told s' t := by
  rw [Stored, link]
  exact h

theorem trimmed_refl (s : State) : Trimmed [] [] s s where
  zones _ _ := ⟨le_rfl, .inl rfl⟩
  strategies _ := ⟨rfl, le_rfl⟩
  levels := rfl
  pickup := rfl
  gate := by simp [blockRecord_after_of_subset (List.Subset.refl s.queue)]
  replies := stored_nil rfl
  alert := alertRaised_congr (alertRaised_refl _) (by simp +contextual)
  others := ⟨rfl, rfl, rfl, rfl, rfl, rfl, rfl, rfl⟩

theorem Trimmed.withLevels (h : Trimmed named told s u) (l : LevelComputer) :
    Trimmed named told (s.withLevels l) (u.withLevels l) :=
  ⟨h.zones, h.strategies, rfl, h.pickup, h.gate, h.replies, h.alert, h.others⟩

/-- The REVOKE of a clock unlock (R76, R96). -/
def unlockTold (s : State) : List Reply :=
  s.gate.record.toList.flatMap fun r => if r.hasEntry && !r.ended then [Reply.revoke r.tag 0 .clockUnlock] else []

theorem unlockTold_of {r : BlockRecord} (hr : s.gate.record = some r) (has : r.hasEntry = true) :
    unlockTold s = if r.ended then [] else [.revoke r.tag 0 .clockUnlock] := by
  cases ended : r.ended <;> simp [unlockTold, hr, has, ended]

theorem blockRevoked_of {r : BlockRecord} (hr : s.gate.record = some r) (has : r.hasEntry = true) :
    blockRevoked s = (s.produceRevokes (unlockTold s)).removeEntries r.isOf := by
  simp [blockRevoked, hr, has, unlockTold_of hr has]

theorem blockRevoked_none (h : ∀ r, s.gate.record = some r → r.hasEntry = false) : blockRevoked s = s ∧ unlockTold s = [] := by
  cases hr : s.gate.record with
  | none => simp [blockRevoked, unlockTold, hr]
  | some r => simp [blockRevoked, unlockTold, hr, h r hr]

theorem unlockTold_isRevoke : ∀ r ∈ unlockTold s, r.isRevoke = true := by
  intro r hr
  simp only [unlockTold, List.mem_flatMap] at hr
  obtain ⟨r', -, hr⟩ := hr
  split at hr
  · rw [List.mem_singleton.1 hr]; rfl
  · cases hr

theorem blockRevoked_trimmed (s : State) : Trimmed [] (unlockTold s) s (blockRevoked s) := by
  by_cases h : ∃ r, s.gate.record = some r ∧ r.hasEntry = true
  · obtain ⟨r, hr, has⟩ := h
    rw [blockRevoked_of hr has]
    exact removal_trimmed s unlockTold_isRevoke fun e f tag => by simp [BlockRecord.isOf, tag]
  · obtain ⟨same, none⟩ := blockRevoked_none fun r hr => Bool.eq_false_iff.2 fun has => h ⟨r, hr, has⟩
    rw [same, none]
    exact trimmed_refl s

/-- The clock-lock state is Unlocked, and the laser has not stopped writing yet. -/
def unlocked (s : State) : State := (s.withLaser { s.laser with clock := .unlocked, lossTimer := none }).raise .unlock

theorem enterUnlocked_writing (writing : s.laser.state = .writing) :
    s.enterUnlocked = (unlocked s).enterIdle.unlockRevoke := if_pos writing

theorem enterUnlocked_elsewhere (h : s.laser.state ≠ .writing) : s.enterUnlocked = unlocked s := if_neg h

theorem unlockRevoke_triggerFrame (s : State) :
    TriggerFrame [] (unlockTold s) (s.withLevels { s.levels with prepared := .absent, standIn := none }) s.unlockRevoke := by
  have trimmed := blockRevoked_trimmed s
  rw [unlockRevoke_eq, trimmed.levels]
  exact (trimmed.withLevels _).triggerFrame

theorem enterUnlocked_unlocks (s : State) : Unlocks s s.enterUnlocked := by
  have told : unlockTold (unlocked s).enterIdle = unlockTold s := by simp [unlockTold, unlocked]
  have frame := unlockRevoke_triggerFrame (unlocked s).enterIdle
  rw [told] at frame
  refine ⟨enterUnlocked_elsewhere, fun writing since l hl => ?_, fun writing => ?_, fun writing r hr has => ?_⟩
  · rw [enterUnlocked_writing writing, unlockRevoke_monitor, enterIdle_monitor]
    have drive := formReadDrive_of (readInUse_served (s := idleEntered (unlocked s)) since hl)
    conv at frame => arg 3; rw [enterIdle_levels, enterIdle_eq, drive, raiseIf_withLevels]
    exact frame
  · rw [enterUnlocked_writing writing, unlockRevoke_monitor, enterIdle_monitor]
    exact ⟨rfl, killSamples_dead s.monitor⟩
  · have revoked := blockRevoked_of (s := (unlocked s).enterIdle) (r := r) (by simpa [unlocked] using hr) has
    rw [enterUnlocked_writing writing]
    refine ⟨?_, fun ⟨e, he, ofE⟩ => ?_, ?_, ?_⟩
    · rw [unlockRevoke_eq, revoked]
      simp [unlocked]
    · have gone : (s.queue.any fun e => r.isOf e && r.isOf e) = true := List.any_eq_true.2 ⟨e, he, by simp [ofE]⟩
      rw [unlockRevoke_eq, revoked, queueChanged_gate, withLevels_gate, removeEntries_gate]
      simp only [produceRevokes_gate, produceRevokes_queue, enterIdle_gate, enterIdle_queue]
      simp only [unlocked, raise_gate, withLaser_gate, raise_queue, withLaser_queue, hr, Option.map_some, gone]
      simp
    · rw [← unlockTold_of hr has]
      exact stored_congr frame.replies (by simp [unlocked])
    · rw [triggerFrame_revoke_request frame, unlockTold_of hr has, withLevels_alert,
        enterIdle_isSet _ (by decide), show (unlocked s).alert = s.alert.raise .unlock from rfl, raise_isSet]
      cases ended : r.ended <;> simp [Reply.isRevoke]

end

end Sys2Proof.Laws

/-!
PROOFS. The laser: its records, its commands, and the events of its timers, its sensor, LOFF and the channel clock
(08_laser_states_and_interlocks.md, R126 to R139), and the all-stop (R159).
-/

namespace Sys2Proof.Laws

open Sys2Proof Sys2Proof.Machine

/-! ### Fields of the records, byte by byte (R178, section 12.3) -/

theorem bytes2_eq (n : Nat) : bytes2 n = [BitVec.ofNat 8 (n / 256), BitVec.ofNat 8 n] := by
  have high : (BitVec.ofNat 16 n).extractLsb' 8 8 = BitVec.ofNat 8 (n / 256) :=
    BitVec.eq_of_toNat_eq (by simp [Nat.shiftRight_eq_div_pow]; omega)
  have low : (BitVec.ofNat 16 n).extractLsb' 0 8 = BitVec.ofNat 8 n := BitVec.eq_of_toNat_eq (by simp)
  simp only [bytes2, high, low]

theorem bytes4_eq (n : Nat) : bytes4 n =
    [BitVec.ofNat 8 (n / 16777216), BitVec.ofNat 8 (n / 65536), BitVec.ofNat 8 (n / 256), BitVec.ofNat 8 n] := by
  have at24 : (BitVec.ofNat 32 n).extractLsb' 24 8 = BitVec.ofNat 8 (n / 16777216) :=
    BitVec.eq_of_toNat_eq (by simp [Nat.shiftRight_eq_div_pow]; omega)
  have at16 : (BitVec.ofNat 32 n).extractLsb' 16 8 = BitVec.ofNat 8 (n / 65536) :=
    BitVec.eq_of_toNat_eq (by simp [Nat.shiftRight_eq_div_pow]; omega)
  have at8 : (BitVec.ofNat 32 n).extractLsb' 8 8 = BitVec.ofNat 8 (n / 256) :=
    BitVec.eq_of_toNat_eq (by simp [Nat.shiftRight_eq_div_pow]; omega)
  have at0 : (BitVec.ofNat 32 n).extractLsb' 0 8 = BitVec.ofNat 8 n := BitVec.eq_of_toNat_eq (by simp)
  simp only [bytes4, at24, at16, at8, at0]

/-! ### Rows that act while RSTN is high -/

theorem exec_running {c : Instr} {s u : State} (running : s.inReset = false)
    (row : exec c s = .next (if s.inReset then s else u)) : exec c s = .next u :=
  row.trans (congrArg Host.Outcome.next (if_neg (by simp [running])))

/-! ### The laser's records (R126, R127) -/

theorem u8At_le (ps : List Byte) (i : Nat) : u8At ps i ≤ 255 := by
  have := (byteAt ps i).isLt
  simp only [u8At]
  omega

theorem laserModelOf_inRange_iff {ps : List Byte} : (laserModelOf ps).inRange = true ↔
    ¬ (1000 < u16At ps 0 ∨ u16At ps 3 < 100 ∨ 3000 < u16At ps 3 ∨ 127 < u8At ps 5 ∨ u16At ps 6 < 1 ∨ 4095 < u16At ps 6 ∨
      u8At ps 8 < 1 ∨ 100 < u8At ps 8 ∨ u8At ps 9 < 40 ∨ 125 < u8At ps 9) := by
  have := u8At_le ps 2
  rw [LaserModel.inRange, decide_eq_true_iff]
  simp only [laserModelOf]
  omega

theorem ceilingsOf_inRange_iff {ps : List Byte} : (ceilingsOf ps).inRange = true ↔
    ¬ (2000 < u16At ps 0 ∨ 2047 < u16At ps 2 ∨ 2000 < u16At ps 4 ∨ u8At ps 6 < 30 ∨ 125 < u8At ps 6 ∨
      u8At ps 7 < 5 ∨ 200 < u8At ps 7 ∨ u8At ps 8 ∉ [1, 2, 4, 8] ∨ u8At ps 9 < 2 ∨ 25 < u8At ps 9) := by
  rw [Ceilings.inRange, decide_eq_true_iff]
  simp only [ceilingsOf, List.mem_cons, List.not_mem_nil, or_false]
  omega

section
variable {l : Level} {ps : List Byte} {s : State}

theorem loadLaserModel_range (h : ¬ (laserModelOf ps).inRange = true) : loadLaserModel l ps s = refuseWith s .range := if_pos h

theorem loadLaserModel_active (h : (laserModelOf ps).inRange = true) (on : s.laser.state ≠ .off) :
    loadLaserModel l ps s = refuseWith s .laserActive := (if_neg (not_not.2 h)).trans (if_pos on)

theorem loadLaserModel_done (h : (laserModelOf ps).inRange = true) (off : s.laser.state = .off) :
    loadLaserModel l ps s = done (s.withLaser { s.laser with
      model := laserModelOf ps, modelLoaded := true, overLimit := overLimitMark true (laserModelOf ps) s.laser.temp }) :=
  (if_neg (not_not.2 h)).trans (if_neg (not_not.2 off))

theorem loadCeilings_range (h : ¬ (ceilingsOf ps).inRange = true) : loadCeilings l ps s = refuseWith s .range := if_pos h

theorem loadCeilings_active (h : (ceilingsOf ps).inRange = true) (on : s.laser.state ≠ .off) :
    loadCeilings l ps s = refuseWith s .laserActive := (if_neg (not_not.2 h)).trans (if_pos on)

theorem loadCeilings_done (h : (ceilingsOf ps).inRange = true) (off : s.laser.state = .off) :
    loadCeilings l ps s = done (s.withLaser { s.laser with ceilings := ceilingsOf ps, ceilingsLoaded := true, warnArmed := true }) :=
  (if_neg (not_not.2 h)).trans (if_neg (not_not.2 off))

/-! ### LASER ON, LASER OFF and CLEAR FAULT (R128, R130, R136) -/

theorem laserOn_emergency (h : s.laser.loff = true) : laserOn l ps s = refuseWith s .emergency := if_pos h

theorem laserOn_wrongState (h : s.laser.loff = false) (on : s.laser.state ≠ .off) : laserOn l ps s = refuseWith s .wrongState :=
  (if_neg (by simp [h])).trans (if_pos on)

theorem laserOn_notReady (h : s.laser.loff = false) (off : s.laser.state = .off)
    (unready : s.laser.modelLoaded = false ∨ s.laser.ceilings.imax = 0) : laserOn l ps s = refuseWith s .notReady :=
  (if_neg (by simp [h])).trans ((if_neg (not_not.2 off)).trans (if_pos (by simpa using unready)))

theorem laserOn_done (h : s.laser.loff = false) (off : s.laser.state = .off) (loaded : s.laser.modelLoaded = true)
    (ceiling : 0 < s.laser.ceilings.imax) :
    laserOn l ps s = done (if s.laser.overLimit then s.enterStandby.enterFault .overTemp else s.enterStandby) :=
  (if_neg (by simp [h])).trans ((if_neg (not_not.2 off)).trans (if_neg (by simp [loaded]; omega)))

theorem laserOff_wrongState (h : s.laser.state = .fault) : laserOff l ps s = refuseWith s .wrongState := if_pos h

theorem laserOff_done (h : s.laser.state ≠ .fault) : laserOff l ps s = done (s.turnOff .laserOff) := if_neg h

theorem clearFault_wrongState (h : s.laser.state ≠ .fault ∨ s.laser.overLimit = true) :
    clearFault l ps s = refuseWith s .wrongState := by
  unfold clearFault
  split
  · rfl
  · next fault => exact if_pos (h.resolve_left fault)

theorem clearFault_done (fault : s.laser.state = .fault) (cool : s.laser.overLimit = false) :
    clearFault l ps s = done s.leaveFault s.laser.faultRecord.bytes :=
  (if_neg (not_not.2 fault)).trans (if_neg (by simp [cool]))

theorem on_eq_false_iff {x : LaserState} : x.on = false ↔ x = .off ∨ x = .fault := by
  cases x <;> simp [LaserState.on]

/-! ### The temperature sample (R133, R137, R42) -/

/-- The sample raises the warning, and disarms it (R137). -/
def warns (l : Laser) : Bool := l.ceilingsLoaded && l.warnArmed && decide ((l.ceilings.twarn : Int) ≤ l.temp)

/-- The sample arms the warning (R137). -/
def arms (l : Laser) : Bool := l.ceilingsLoaded && !l.warnArmed && decide (l.temp < (l.ceilings.twarn : Int) - 2)

theorem warn_eq (s : State) : s.warn = (s.withLaser { s.laser with
    warnArmed := (s.laser.warnArmed && !warns s.laser) || arms s.laser }).raiseIf (warns s.laser) .twarn := by
  have same : ∀ armed, armed = s.laser.warnArmed → s.withLaser { s.laser with warnArmed := armed } = s := by
    rintro _ rfl
    rfl
  unfold State.warn
  split
  · next loaded =>
    split
    · next h => simp [warns, arms, loaded, h, State.raiseIf]
    · next unraised =>
      have quiet : warns s.laser = false := by simpa [warns, loaded] using unraised
      split
      · next h => simp [quiet, arms, loaded, h, State.raiseIf]
      · next unarmed =>
        have still : arms s.laser = false := by simpa [arms, loaded] using unarmed
        rw [quiet, still]
        exact (same _ (by simp)).symm
  · next unloaded =>
    have quiet : warns s.laser = false := by simp [warns, unloaded]
    have still : arms s.laser = false := by simp [arms, unloaded]
    rw [quiet, still]
    exact (same _ (by simp)).symm

/-- The latest sample and its mark, and the warning raised or armed (R133, R137). -/
theorem takeSample_warn {temp : Int} (cold : -40 ≤ temp) (warm : temp ≤ 125) :
    (s.takeSample temp).warn = (s.withLaser { s.laser with
      temp := temp
      overLimit := s.laser.modelLoaded && decide ((s.laser.model.tlim : Int) ≤ temp)
      sampleTimer := 10000
      warnArmed := (s.laser.warnArmed && !warns { s.laser with temp := temp }) || arms { s.laser with temp := temp } }).raiseIf
      (warns { s.laser with temp := temp }) .twarn := by
  rw [warn_eq]
  simp only [State.takeSample, sensorReading_of_mem cold warm]
  rfl

theorem refreshIdle_of_late (h : ¬ (s.laser.state = .standby ∨ (s.laser.state = .idle ∧ s.levels.servedSinceOn = false))) :
    s.refreshIdle = s := if_neg (by simpa using h)

theorem refreshIdle_starts (h : s.laser.state = .standby ∨ (s.laser.state = .idle ∧ s.levels.servedSinceOn = false))
    (free : s.levels.idleComp = none) : s.refreshIdle = s.withLevels { s.levels with idleComp := some s.idleInputs } := by
  rw [State.refreshIdle, if_pos (by simpa using h), free]

theorem refreshIdle_again (h : s.laser.state = .standby ∨ (s.laser.state = .idle ∧ s.levels.servedSinceOn = false))
    (busy : s.levels.idleComp.isSome = true) : s.refreshIdle = s.withLevels { s.levels with idleAgain := true } := by
  obtain ⟨i, hi⟩ := Option.isSome_iff_exists.1 busy
  rw [State.refreshIdle, if_pos (by simpa using h), hi]

theorem sampled_cool {temp : Int} (h : (s.takeSample temp).warn.laser.overLimit = false) :
    sampled temp s = (s.takeSample temp).warn.refreshIdle := by
  simp [sampled, h]

theorem sampled_hot {temp : Int} (h : (s.takeSample temp).warn.laser.overLimit = true) :
    sampled temp s = ((s.takeSample temp).warn.overLimitAct s.laser.overLimit).refreshIdle := by
  simp [sampled, h]

theorem overLimitAct_on (on : s.laser.state.on = true) (previous : Bool) : s.overLimitAct previous = s.enterFault .overTemp :=
  if_pos on

theorem overLimitAct_crossing (fault : s.laser.state = .fault) : s.overLimitAct false = s.furtherFault :=
  (if_neg (by simp [fault, LaserState.on])).trans (if_pos (by simp [fault]))

theorem overLimitAct_still {previous : Bool} (h : s.laser.state = .off ∨ s.laser.state = .fault ∧ previous = true) :
    s.overLimitAct previous = s := by
  rcases h with off | ⟨fault, rfl⟩
  · exact (if_neg (by simp [off, LaserState.on])).trans (if_neg (by simp [off]))
  · exact (if_neg (by simp [fault, LaserState.on])).trans (if_neg (by simp))

theorem furtherFault_eq (s : State) : s.furtherFault = (s.withLaser { s.laser with
    faultRecord := { s.laser.faultRecord with further := true } }).raiseIf (!s.laser.faultRecord.further) .fault := by
  have same : ∀ further, further = s.laser.faultRecord.further →
      s.withLaser { s.laser with faultRecord := { s.laser.faultRecord with further := further } } = s := by
    rintro _ rfl
    rfl
  unfold State.furtherFault
  split
  · next h => simp only [h, Bool.not_true, State.raiseIf, Bool.false_eq_true, if_false]; exact (same _ h.symm).symm
  · next h => simp [h, State.raiseIf]

theorem furtherFault_state (s : State) : s.furtherFault.laser.state = s.laser.state := by
  rw [furtherFault_eq, raiseIf_laser]
  rfl

theorem enterFault_state (s : State) (cause : FaultCause) : (s.enterFault cause).laser.state = .fault := by
  rw [enterFault_eq, raise_laser, flush_laser]
  rfl

/-! ### The end of warm-up (R129, R147) -/

theorem alertRaised_raiseIf (s : State) (c : Bool) (g : RequestFlag) :
    AlertRaised (fun f => decide (f = g) && c) s.alert (s.raiseIf c g).alert := by
  cases c
  · exact alertRaised_congr (alertRaised_refl _) (by simp)
  · exact alertRaised_congr (alertRaised_raise _ g) (by simp)

theorem raises_eq (s : State) (c d : Bool) (f g h : RequestFlag) : ((s.raiseIf c f).raiseIf d g).raise h =
    s.withAlert (((s.raiseIf c f).raiseIf d g).raise h).alert := by
  cases c <;> cases d <;> rfl

theorem raises_alertRaised (s : State) (c d : Bool) (f g h : RequestFlag) :
    AlertRaised (fun k => decide (k = h) || decide (k = g) && d || decide (k = f) && c) s.alert
      (((s.raiseIf c f).raiseIf d g).raise h).alert := by
  have raised := alertRaised_trans (alertRaised_trans (alertRaised_raiseIf s c f) (alertRaised_raiseIf (s.raiseIf c f) d g))
    (alertRaised_raise ((s.raiseIf c f).raiseIf d g).alert h)
  refine alertRaised_congr raised fun k => ?_
  rw [Bool.or_comm, Bool.or_comm (decide (k = f) && c), Bool.or_assoc]

/-- Idle as the end of the warm-up enters it, but for the requests: at the read drive of the idle set (R129). -/
def warmedUp (s : State) (i : IdleSet) : State :=
  ((s.withWritePath none).withLaser { s.laser with
    state := .idle, warmUp := none, gateTimer := none, lsel := .read
    current := if (i.readCurrent : Int) + s.monitor.apc < 0 then 0
               else if (s.laser.ceilings.imax : Int) < i.readCurrent + s.monitor.apc then s.laser.ceilings.imax
               else ((i.readCurrent : Int) + s.monitor.apc).toNat }).withMonitor
    { s.monitor.killSamples with idleTimer := some Config.idleSampleMicros, peakHold := none }

theorem endWarmUp_of {i : IdleSet} (idleSet : s.levels.idleSet = some i) (early : s.levels.servedSinceOn = false) :
    s.endWarmUp = (((warmedUp s i).raiseIf (decide ((s.laser.ceilings.imax : Int) < i.readCurrent + s.monitor.apc)) .iclamp).raiseIf
      i.powerClamp .pclamp).raise .ready := by
  have set : (idleEntered (s.withLaser { s.laser with warmUp := none })).readInUse = some (i.readCurrent, i.power) := by
    simp [State.readInUse, idleEntered, idleSet, early]
  unfold State.endWarmUp
  rw [idleSet, enterIdle_eq, formReadDrive_of set]
  rfl

/-! ### Loss of lock (R138) -/

theorem loseLock_timed (locked : s.laser.clock = .locked) (idle : s.laser.lossTimer = none) (positive : 0 < s.laser.clockTolerance) :
    s.loseLock = s.withLaser { s.laser with lossTimer := some s.laser.clockTolerance } := by
  simp only [State.loseLock, locked, idle]
  exact if_neg (by omega)

theorem loseLock_untimed (locked : s.laser.clock = .locked) (idle : s.laser.lossTimer = none) (zero : s.laser.clockTolerance = 0) :
    s.loseLock = s.enterUnlocked := by
  simp only [State.loseLock, locked, idle]
  exact if_pos zero

theorem loseLock_still (h : s.laser.clock = .unlocked ∨ s.laser.lossTimer.isSome = true) : s.loseLock = s := by
  unfold State.loseLock
  split
  · next locked idle => simp [locked, idle] at h
  · rfl
  · rfl

/-! ### The all-stop (R159) -/

section
variable (running : s.inReset = false) (free : s.port.stretched = false)
include running free

theorem generalCall_byte {taken : Bool} (called : s.port.transfer = .generalCall taken) (b : Byte) :
    exec (.commandMessageByte b) s = .next (s.generalCallByte taken b) :=
  (exec_running running rfl).trans (by simp [free, called])

theorem generalCall_allStop {taken : Bool} (called : s.port.transfer = .generalCall taken) :
    exec .allStop s = .next (s.generalCallByte taken allStopByte) :=
  (exec_running running rfl).trans (by simp [free, called])

/-- The all-stop is acknowledged, and no slot, holder or executor is touched; the rest is the laser's. -/
theorem allStop_first (first : s.port.transfer = .generalCall false ∨ s.port.transfer = .idle) :
    ∃ p, exec .allStop s = .next ((s.withPort p).turnOff .laserOff) ∧ p.ack = true ∧ p.slots = s.port.slots ∧
      p.executor = s.port.executor ∧ p.held = s.port.held := by
  rcases first with called | idle
  · exact ⟨_, (generalCall_allStop running free called).trans rfl, rfl, rfl, rfl, rfl⟩
  · refine ⟨s.port.endTransfer.answer (.generalCall true) true, ?_, rfl, ?_⟩
    · exact (exec_running running rfl).trans (by simp [free, idle]; rfl)
    · rw [endTransfer_idle idle]
      exact ⟨rfl, rfl, rfl⟩

end

end

end Sys2Proof.Laws

/-!
PROOFS. The statements settled on the laser interlock and on the all-stop.
-/

namespace Sys2Proof.Settled

open Sys2Proof Sys2Proof.Machine Sys2Proof.Laws

/-- Settles O30, from the two record commands. -/
theorem laserRecordsLoad : Obligations.LaserRecordsLoad := by
  unfold Obligations.LaserRecordsLoad
  intro s ps badModel badCeilings
  refine ⟨fun he => ⟨fun bad => ?_, fun good on => ?_, fun good off => ?_⟩,
    fun he => ⟨fun bad => ?_, fun good on => ?_, fun good off => ?_⟩⟩
  · exact exec_of_refuseWith (fun _ => rfl) he le_rfl (loadLaserModel_range fun h => laserModelOf_inRange_iff.1 h bad)
  · exact exec_of_refuseWith (fun _ => rfl) he le_rfl (loadLaserModel_active (laserModelOf_inRange_iff.2 good) on)
  · exact exec_of_done (fun _ => rfl) he le_rfl (loadLaserModel_done (laserModelOf_inRange_iff.2 good) off) rfl
  · exact exec_of_refuseWith (fun _ => rfl) he le_rfl (loadCeilings_range fun h => ceilingsOf_inRange_iff.1 h bad)
  · exact exec_of_refuseWith (fun _ => rfl) he le_rfl (loadCeilings_active (ceilingsOf_inRange_iff.2 good) on)
  · exact exec_of_done (fun _ => rfl) he le_rfl (loadCeilings_done (ceilingsOf_inRange_iff.2 good) off) rfl

/-- Settles O31: the checks in order, then Standby, and the fault at once over the limit. -/
theorem laserOnStarts : Obligations.LaserOnStarts := by
  unfold Obligations.LaserOnStarts
  intro s ps
  refine ⟨deniedAbove_of_arm fun _ => rfl, fun he => ?_⟩
  refine ⟨fun loff => ?_, fun loff on => ?_, fun loff off unready => ?_, fun loff off loaded ceiling => ⟨fun cool => ?_, fun hot => ?_⟩⟩
  · exact exec_of_refuseWith (fun _ => rfl) he le_rfl (laserOn_emergency loff)
  · exact exec_of_refuseWith (fun _ => rfl) he le_rfl (laserOn_wrongState loff on)
  · exact exec_of_refuseWith (fun _ => rfl) he le_rfl (laserOn_notReady loff off unready)
  · have started := laserOn_done (l := 0) (ps := ps) loff off loaded ceiling
    rw [cool] at started
    exact exec_of_done (fun _ => rfl) he le_rfl started rfl
  · have faults := laserOn_done (l := 0) (ps := ps) loff off loaded ceiling
    rw [hot] at faults
    exact ⟨_, exec_of_done (fun _ => rfl) he le_rfl faults (enterFault_port ..), enterFault_faulted s.enterStandby .overTemp⟩

/-- Settles O32, from the one way to Off. -/
theorem laserOffAndLoff : Obligations.LaserOffAndLoff := by
  unfold Obligations.LaserOffAndLoff
  intro s ps
  refine ⟨fun he => ⟨fun fault => ?_, fun off => ?_, fun on => ?_⟩, fun running on => ?_, fun running dark => ?_, fun running => ?_⟩
  · exact exec_of_refuseWith (fun _ => rfl) he le_rfl (laserOff_wrongState fault)
  · have still := laserOff_done (l := 0) (ps := ps) (s := s) (by simp [off])
    rw [turnOff_dark (on_eq_false_iff.2 (.inl off))] at still
    exact exec_of_done (fun _ => rfl) he le_rfl still rfl
  · have off := laserOff_done (l := 0) (ps := ps) (s := s) fun fault => by simp [fault, LaserState.on] at on
    exact ⟨_, exec_of_done (fun _ => rfl) he le_rfl off (turnOff_port ..), turnOff_turnedOff on .laserOff⟩
  · exact ⟨_, exec_running running rfl, turnOff_turnedOff (s := s.withLaser { s.laser with loff := true }) on .emergency⟩
  · rw [exec_running running rfl]
    exact congrArg Host.Outcome.next
      (turnOff_dark (s := s.withLaser { s.laser with loff := true }) (on_eq_false_iff.2 dark) .emergency)
  · exact exec_running running rfl

/-- Settles O33: the record as it stood is the data. -/
theorem clearFaultLeavesFault : Obligations.ClearFaultLeavesFault := by
  unfold Obligations.ClearFaultLeavesFault
  intro s ps
  refine ⟨deniedAbove_of_arm fun _ => rfl, fun he => ⟨fun refused => ?_, fun fault cool => ?_⟩⟩
  · exact exec_of_refuseWith (fun _ => rfl) he le_rfl (clearFault_wrongState refused)
  · intro r state cause further place
    have data : r.bytes = cause :: state :: place := by
      simp only [FaultRecord.bytes, List.cons_append, List.nil_append, List.cons.injEq]
      refine ⟨?_, ?_, ?_⟩
      · cases hc : r.cause <;> simp only [cause, hc] <;> rfl
      · rcases hl : r.left with _ | l
        · simp only [state, hl]
        · cases l <;> simp only [state, hl] <;> rfl
      · rcases hb : r.block with _ | ⟨layer, block⟩
        · cases hf : r.further <;> simp only [place, further, hb, hf] <;> rfl
        · cases hf : r.further <;> simp only [place, further, hb, hf, bytes4_eq] <;> rfl
    rw [← data]
    exact ⟨_, exec_of_done (fun _ => rfl) he le_rfl (clearFault_done fault cool) rfl, rfl, rfl, rfl, rfl⟩

/-- Settles O34: Idle at the read drive of the idle set, and the fault at the gate limit. -/
theorem laserTimersExpire : Obligations.LaserTimersExpire := by
  unfold Obligations.LaserTimersExpire
  refine ⟨fun s i running => ⟨fun untimed => ?_, fun standby timed idleSet early => ?_⟩,
    fun s running => ⟨fun writing timed => ?_, fun untimed => ?_⟩⟩
  · rw [exec_running running rfl]
    exact congrArg Host.Outcome.next (if_neg (by rcases untimed with h | h <;> simp [h]))
  · intro drive
    refine ⟨_, (exec_running running rfl).trans (congrArg Host.Outcome.next (if_pos ⟨standby, timed⟩)), ?_⟩
    rw [endWarmUp_of idleSet early]
    refine ⟨?_, ?_, ?_⟩
    · rw [raise_monitor, raiseIf_monitor, raiseIf_monitor]
      exact raises_eq ..
    · rw [raise_monitor, raiseIf_monitor, raiseIf_monitor]
      rfl
    · exact raises_alertRaised (warmedUp s i) ..
  · refine ⟨_, (exec_running running rfl).trans (congrArg Host.Outcome.next (if_pos ⟨writing, timed⟩)),
      enterFault_faulted s .gateStuck⟩
  · rw [exec_running running rfl]
    exact congrArg Host.Outcome.next (if_neg (by rcases untimed with h | h <;> simp [h]))

/-- Settles O35: the sample and its warning, then the limit, then the idle computation. -/
theorem temperatureSampled : Obligations.TemperatureSampled := by
  unfold Obligations.TemperatureSampled
  intro s temp running cold warm hot warns arms sampled' early
  have row : exec (.temperatureSample temp) s = .next (sampled temp s) := exec_running running rfl
  have taken : (s.takeSample temp).warn = sampled' := takeSample_warn cold warm
  have state : sampled'.laser.state = s.laser.state := by simp [sampled']
  have mark : sampled'.laser.overLimit = hot := by simp [sampled']
  have record : sampled'.laser.faultRecord = s.laser.faultRecord := by simp [sampled']
  have levels : sampled'.levels = s.levels := by simp [sampled']
  have late : ∀ {u : State}, u.laser.state = .fault → u.refreshIdle = u := fun h => refreshIdle_of_late (by simp [h])
  rw [row]
  refine ⟨fun exceeded on => ?_, fun exceeded fault before => ?_, fun cool begins free => ?_, fun cool begins busy => ?_, fun still => ?_⟩
  · refine ⟨_, rfl, ?_⟩
    rw [sampled_hot (by rw [taken, mark, exceeded]), taken, overLimitAct_on (by rw [state, on]), late (enterFault_state ..)]
    exact enterFault_faulted sampled' .overTemp
  · rw [sampled_hot (by rw [taken, mark, exceeded]), taken, before, overLimitAct_crossing (by rw [state, fault]),
      late ((furtherFault_state _).trans (state.trans fault)), furtherFault_eq, record]
  · rw [sampled_cool (by rw [taken, mark, cool]), taken, refreshIdle_starts (by rw [state, levels]; exact begins) (by rw [levels, free])]
    rw [levels]
    simp [State.idleInputs, sampled']
  · rw [sampled_cool (by rw [taken, mark, cool]), taken, refreshIdle_again (by rw [state, levels]; exact begins) (by rw [levels, busy]),
      levels]
  · cases exceeded : hot with
    | false =>
      rw [sampled_cool (by rw [taken, mark, exceeded]), taken, refreshIdle_of_late]
      rw [state, levels]
      rcases still with off | ⟨fault, -⟩ | ⟨-, -, late⟩
      · simp [off]
      · simp [fault]
      · exact late
    | true =>
      have act : sampled'.overLimitAct s.laser.overLimit = sampled' := overLimitAct_still (by
        rw [state]
        rcases still with off | ⟨fault, cool | before⟩ | ⟨cool, -⟩
        · exact .inl off
        · simp [exceeded] at cool
        · exact .inr ⟨fault, before⟩
        · simp [exceeded] at cool)
      rw [sampled_hot (by rw [taken, mark, exceeded]), taken, act, refreshIdle_of_late]
      rw [state, levels]
      rcases still with off | ⟨fault, -⟩ | ⟨cool, -⟩
      · simp [off]
      · simp [fault]
      · simp [exceeded] at cool

/-- Settles O36, from the unlock. -/
theorem clockLockFollowsPll : Obligations.ClockLockFollowsPll := by
  unfold Obligations.ClockLockFollowsPll
  intro s running tolerance lost
  have loses : exec .pllLosesLock s = .next lost.loseLock := exec_running running rfl
  have clocked : lost.laser.clockTolerance = tolerance := rfl
  refine ⟨fun locked idle positive => ?_, fun locked idle zero => ?_, fun still => ?_, ?_, fun timed => ?_, fun untimed => ?_⟩
  · rw [loses, loseLock_timed (s := lost) locked idle (clocked ▸ positive)]
    rfl
  · rw [loses, loseLock_untimed (s := lost) locked idle (clocked.trans zero)]
    exact ⟨_, rfl, enterUnlocked_unlocks lost⟩
  · rw [loses, loseLock_still (s := lost) still]
  · exact exec_running running rfl
  · exact ⟨_, (exec_running running rfl).trans (congrArg Host.Outcome.next (if_pos timed)), enterUnlocked_unlocks s⟩
  · exact (exec_running running rfl).trans (congrArg Host.Outcome.next (if_neg (by simp [untimed])))

/-- Settles O11: the byte and the row make the same of a general call. -/
theorem allStopActs : Obligations.AllStopActs := by
  unfold Obligations.AllStopActs
  intro s running free
  refine ⟨fun taken called => ?_, fun called => ?_, fun first on => ?_, fun first dark => ?_⟩
  · rw [generalCall_byte running free called, generalCall_allStop running free called]
    rfl
  · rw [generalCall_allStop running free called]
    rfl
  · obtain ⟨p, row, ack, slots, executor, held⟩ := allStop_first running free first
    refine ⟨_, row, ?_⟩
    rw [turnOff_port]
    exact ⟨turnOff_turnedOff (s := s.withPort p) on .laserOff, ack, slots, executor, held⟩
  · obtain ⟨p, row, ack, slots, executor, held⟩ := allStop_first running free first
    rw [turnOff_dark (s := s.withPort p) dark] at row
    exact ⟨_, row, rfl, ack, slots, executor, held⟩

end Sys2Proof.Settled

/-!
PROOFS. The zone commands that hand a change on and those that cut the runs naming a slot (01_the_zone_table.md, R11, R12, R15 to R20;
04_block_announce_link_and_announce_queue.md, R70 to R74).
-/

namespace Sys2Proof.Laws

open Sys2Proof Sys2Proof.Machine

/-! ### The removal of a slot's translations (R6) -/

/-- What the removal of the slot's translations makes of an entry. -/
def slotDropped (u : State) (i : ZoneSlot) (considered : Entry → Bool) (e : Entry) : Entry :=
  if considered e && e.names i then
    (if u.servesIn e (u.zone i).first (u.zone i).last then e.deferSlot i else e.withoutSlot i)
  else e

section
variable {s u : State} {i : ZoneSlot} {considered : Entry → Bool} {e : Entry}

theorem slotDropped_edited (u : State) (i : ZoneSlot) (considered : Entry → Bool) (e : Entry) :
    EntryEdited e (slotDropped u i considered e) := by
  unfold slotDropped
  split
  · split
    · exact deferSlot_edited i e
    · exact withoutSlot_edited i e
  · exact ⟨rfl, rfl, rfl, rfl⟩

theorem slotDropped_stop (u : State) (i : ZoneSlot) (considered : Entry → Bool) (e : Entry) :
    (slotDropped u i considered e).stop = e.stop := by
  unfold slotDropped Entry.deferSlot
  split
  · split
    · split <;> rfl
    · rfl
  · rfl

theorem servesIn_of_slotDropped_names (hc : considered e = true) (names : (slotDropped u i considered e).names i = true) :
    u.servesIn e (u.zone i).first (u.zone i).last = true := by
  unfold slotDropped at names
  by_contra out
  cases hn : e.names i
  · simp [hc, hn] at names
  · rw [hc, hn, Bool.true_and, if_pos rfl, if_neg out] at names
    simp [Entry.names, withoutSlot_slots] at names

theorem dropSlot_queue_eq (u : State) (i : ZoneSlot) (considered : Entry → Bool) :
    (u.dropSlot i considered).queue = u.queue.map (slotDropped u i considered) := by
  simp only [State.dropSlot, unpinAll_queue]
  rfl

theorem dropSlot_pinsDropped (u : State) (i : ZoneSlot) (considered : Entry → Bool) : PinsDropped u (u.dropSlot i considered) := by
  unfold State.dropSlot
  dsimp only
  have dropped := unpinAll_pinsDropped (u.withQueue (u.queue.map (slotDropped u i considered)))
    ((u.queue.filter fun e => (considered e && e.names i) && !u.servesIn e (u.zone i).first (u.zone i).last).map fun _ => i)
  exact ⟨dropped.zones, dropped.strategies, dropped.alert⟩

end

/-- The block in service follows its entry whatever its translations become (R94). -/
theorem after_of_edited {s u v : State} {f : Entry → Entry} (tags : (u.queue.map Entry.tag).Nodup)
    (edited : ∀ e, EntryEdited e (f e)) (stop : ∀ e, (f e).stop = e.stop) (queue : v.queue = u.queue.map f) (r : BlockRecord) :
    r.after s v = r.after s u := by
  have found : ∀ e : Entry, (v.queue.any fun g => g.tag == e.tag) = u.queue.any fun g => g.tag == e.tag := fun e => by
    rw [queue, List.any_map]
    exact any_congr_mem fun g _ => by simp [(edited g).tag]
  have usedUp : ∀ e : Entry, (v.queue.any fun g => g.tag == e.tag && decide (g.stop ≤ g.next)) =
      u.queue.any fun g => g.tag == e.tag && decide (g.stop ≤ g.next) := fun e => by
    rw [queue, List.any_map]
    exact any_congr_mem fun g _ => by simp [(edited g).tag, stop, (edited g).next]
  have changed : ∀ e : Entry, e.next < e.stop → (u.queue.any fun g => g.tag == e.tag && decide (g.stop ≤ g.next)) = true →
      u.queue.contains e = false ∧ v.queue.contains e = false := by
    intro e left used
    obtain ⟨g, hg, holds⟩ := List.any_eq_true.1 used
    obtain ⟨tag, gone⟩ : g.tag = e.tag ∧ g.stop ≤ g.next := by simpa using holds
    refine ⟨Bool.eq_false_iff.2 fun mem => ?_, Bool.eq_false_iff.2 fun mem => ?_⟩
    · obtain rfl := eq_of_tag tags hg (List.contains_iff_mem.1 mem) tag
      omega
    · rw [List.contains_iff_mem, queue] at mem
      obtain ⟨g', hg', rfl⟩ := List.mem_map.1 mem
      obtain rfl := eq_of_tag tags hg hg' (tag.trans (edited g').tag)
      rw [stop, (edited g).next] at left
      omega
  have same : ∀ e ∈ s.queue, (r.isOf e && decide (e.state = .current ∧ e.next < e.stop) && !v.queue.contains e &&
      v.queue.any fun g => g.tag == e.tag && decide (g.stop ≤ g.next)) =
      (r.isOf e && decide (e.state = .current ∧ e.next < e.stop) && !u.queue.contains e &&
      u.queue.any fun g => g.tag == e.tag && decide (g.stop ≤ g.next)) := by
    intro e _
    rw [usedUp]
    cases used : u.queue.any fun g => g.tag == e.tag && decide (g.stop ≤ g.next) with
    | false => simp
    | true =>
      by_cases left : e.next < e.stop
      · rw [(changed e left used).1, (changed e left used).2]
      · simp [left]
  unfold BlockRecord.after
  simp only [found]
  rw [any_congr_mem same]

/-! ### The trigger's cut and removal, before what follows (R7) -/

/-- The entries a zone trigger acts on. -/
def slotNaming (i : ZoneSlot) (considered : Entry → Bool) (e : Entry) : Bool := considered e && e.translated && e.names i

/-- The runs are cut. -/
def zoneCut (s : State) (i : ZoneSlot) (reason : RevokeReason) (considered : Entry → Bool) : State :=
  s.revoke reason (rangeCut (s.zone i).first (s.zone i).last (slotNaming i considered))

/-- The runs are cut and the translations removed. -/
def zoneTrimmed (s : State) (i : ZoneSlot) (reason : RevokeReason) (considered : Entry → Bool) : State :=
  (zoneCut s i reason considered).dropSlot i fun e => considered e && e.translated

theorem zoneTrigger_eq (s : State) (i : ZoneSlot) (reason : RevokeReason) (considered : Entry → Bool) :
    s.zoneTrigger i reason considered = (zoneTrimmed s i reason considered).queueChanged := rfl

section
variable {s : State} {i : ZoneSlot} {reason : RevokeReason} {considered : Entry → Bool}

theorem slotNaming_translated : ∀ e, slotNaming i considered e = true → e.state ≠ .waiting := by
  intro e h
  simp only [slotNaming, Entry.translated, Bool.and_eq_true, decide_eq_true_eq] at h
  exact h.1.2

/-- The descriptor of a slot that is not Retiring stays but for its pins. -/
theorem PinsDropped.zone_of_kept {s t : State} (h : PinsDropped s t) {i : ZoneSlot} (kept : (s.zone i).state ≠ .retiring) :
    t.zone i = { s.zone i with pins := (t.zone i).pins } :=
  (h.zones i).2.resolve_right fun freed => kept freed.1

theorem zoneTrimmed_gate_after (ordered : s.QueueOrdered) : (zoneTrimmed s i reason considered).gate = { s.gate with
    record := s.gate.record.map fun r => r.after s (zoneTrimmed s i reason considered) } := by
  have cutTags : ((zoneCut s i reason considered).queue.map Entry.tag).Nodup :=
    ((revoke_thinned s reason _).ordered (queueOrdered_iff.1 ordered).1).tags
  have after : ∀ r : BlockRecord, r.after s (zoneTrimmed s i reason considered) = r.after s (zoneCut s i reason considered) :=
    after_of_edited cutTags (slotDropped_edited _ i _) (slotDropped_stop _ i _) (dropSlot_queue_eq ..)
  have gate := revoke_gate_after (reason := reason)
    (cut := rangeCut (s.zone i).first (s.zone i).last (slotNaming i considered)) ordered rangeCut_ahead
  simp only [after]
  exact (dropSlot_gate ..).trans gate

theorem zoneTrimmed_pinsDropped : PinsDropped
    (cutState s reason (rangeCut (s.zone i).first (s.zone i).last (slotNaming i considered))) (zoneTrimmed s i reason considered) :=
  revoke_pinsDropped.trans (dropSlot_pinsDropped ..)

theorem zoneTrigger_pins_le : ((s.zoneTrigger i reason considered).zone i).pins ≤ (s.zone i).pins := by
  rw [zoneTrigger_eq, queueChanged_zone, ← cutState_zone (s := s) (reason := reason) i]
  exact (zoneTrimmed_pinsDropped.zones i).1

theorem zoneTrimmed_stored (ordered : s.QueueOrdered) :
    Stored (s.cutRevokes reason (s.zone i).first (s.zone i).last (slotNaming i considered)) s (zoneTrimmed s i reason considered) := by
  rw [← rangeCut_revokesOf slotNaming_translated ordered, Stored, zoneTrimmed, dropSlot_link, zoneCut]
  exact revoke_stored

theorem zoneTrimmed_trimmed (ordered : s.QueueOrdered) (kept : (s.zone i).state ≠ .retiring) :
    Trimmed [i] (s.cutRevokes reason (s.zone i).first (s.zone i).last (slotNaming i considered)) s
      (zoneTrimmed s i reason considered) := by
  have dropped := zoneTrimmed_pinsDropped (s := s) (i := i) (reason := reason) (considered := considered)
  have told := (produceRevokes_told s
    (revokesOf s reason (rangeCut (s.zone i).first (s.zone i).last (slotNaming i considered)))).2
  refine ⟨fun j _ => by simpa only [cutState_zone] using dropped.zones j,
    fun k => by simpa only [cutState_strategy] using dropped.strategies k, by simp [zoneTrimmed, zoneCut], by simp [zoneTrimmed, zoneCut],
    zoneTrimmed_gate_after ordered, zoneTrimmed_stored ordered, ?_, by simp [zoneTrimmed, zoneCut]⟩
  refine alertRaised_congr (alertRaised_trans told dropped.alert) fun f => ?_
  have freed : (zoneSlots.any fun j => !([i] : List ZoneSlot).contains j &&
      decide ((s.zone j).state = .retiring ∧ ((zoneTrimmed s i reason considered).zone j).state = .free)) =
      zoneSlots.any fun j => decide ((s.zone j).state = .retiring ∧ ((zoneTrimmed s i reason considered).zone j).state = .free) := by
    congr 1
    funext j
    by_cases hj : j = i
    · simp [hj, kept]
    · simp [hj]
  rw [freed, ← revokesOf_any_isRevoke, rangeCut_revokesOf slotNaming_translated ordered]
  simp only [cutState_zone]
  rw [Bool.or_assoc, Bool.or_comm]

theorem slotDropped_unnamed {u : State} {e : Entry} (h : slotNaming i considered e = false) :
    slotDropped u i (fun e => considered e && e.translated) e = e := by
  unfold slotDropped
  exact if_neg (Bool.eq_false_iff.1 h)

/-- A removal of translations leaves the runs as the cut left them (R70 to R74). -/
theorem runsCut_of_edited {u v : State} {first last : Nat} {m : Entry → Bool} {f : Entry → Entry}
    (h : RunsCut reason first last m s u) (edited : ∀ e, EntryEdited e (f e)) (stop : ∀ e, (f e).stop = e.stop)
    (queue : v.queue = u.queue.map f) (unmatched : ∀ e, m e = false → f e = e) (gate : v.gate = u.gate)
    (replies : Stored (s.cutRevokes reason first last m) s v) (request : v.alert.isSet .revoke = (s.alert.isSet .revoke ||
      s.queue.any fun e => m e && decide (max e.next first < e.stop ∧ max e.next first ≤ last))) :
    RunsCut reason first last m s v := by
  have mem : ∀ {e}, e ∈ u.queue → f e ∈ v.queue := fun he => queue ▸ List.mem_map_of_mem he
  refine {
    runs := fun e he hm g hg tag => ?_
    stays := fun e he hm ahead => ?_
    leaves := fun e he hm notBefore notAfter left unheld g hg tag => ?_
    waits := fun e he hm notBefore notAfter left current serves => ?_
    others := fun e he hm => unmatched e hm ▸ mem (h.others e he hm)
    replies := replies
    request := request }
  · rw [queue] at hg
    obtain ⟨g, hg', rfl⟩ := List.mem_map.1 hg
    rw [(edited g).next, stop]
    exact h.runs e he hm g hg' ((edited g).tag.symm.trans tag)
  · obtain ⟨g, hg, tag, state, next⟩ := h.stays e he hm ahead
    exact ⟨f g, mem hg, (edited g).tag.trans tag, (edited g).state.trans state, (edited g).next.trans next⟩
  · rw [queue] at hg
    obtain ⟨g, hg', rfl⟩ := List.mem_map.1 hg
    exact h.leaves e he hm notBefore notAfter left unheld g hg' ((edited g).tag.symm.trans tag)
  · obtain ⟨g, hg, tag, waits⟩ := h.waits e he hm notBefore notAfter left current serves
    refine ⟨f g, mem hg, (edited g).tag.trans tag, ?_⟩
    simpa [State.awaitsFall, gate, BlockRecord.isOf, (edited g).tag] using waits

theorem zoneTrigger_runsCut (ordered : s.QueueOrdered) (kept : (s.zone i).state ≠ .retiring) :
    RunsCut reason (s.zone i).first (s.zone i).last (slotNaming i considered) s (s.zoneTrigger i reason considered) := by
  have frame := (zoneTrimmed_trimmed (reason := reason) (considered := considered) ordered kept).triggerFrame
  have cut := revoke_rangeCut_runsCut (reason := reason) (first := (s.zone i).first) (last := (s.zone i).last)
    (slotNaming_translated (i := i) (considered := considered)) ordered
  refine runsCut_of_edited cut (slotDropped_edited (zoneCut s i reason considered) i _) (slotDropped_stop _ i _) ?_ (fun e => slotDropped_unnamed) ?_
    frame.replies ?_
  · rw [zoneTrigger_eq, queueChanged_queue, queueChanged_queue]
    exact dropSlot_queue_eq ..
  · rw [zoneTrigger_eq, queueChanged_gate, queueChanged_gate]
    exact dropSlot_gate ..
  · rw [zoneTrigger_eq, triggerFrame_revoke_request frame, cutRevokes_any_isRevoke]

/-- A block in service in the slot's range is what leaves a translation (R6). -/
theorem zoneTrigger_translations (ordered : s.QueueOrdered) (kept : (s.zone i).state ≠ .retiring)
    (runless : ∀ e a, considered { e with accepted := a } = considered e) {e e' : Entry} (he : e ∈ s.queue)
    (hm : slotNaming i considered e = true) (he' : e' ∈ (s.zoneTrigger i reason considered).queue) (tag : e'.tag = e.tag)
    (names : e'.names i = true) : s.servesIn e (s.zone i).first (s.zone i).last = true := by
  rw [zoneTrigger_eq, queueChanged_queue, zoneTrimmed, dropSlot_queue_eq] at he'
  obtain ⟨g, hg, rfl⟩ := List.mem_map.1 he'
  obtain ⟨-, rfl⟩ := eq_cutEntry_of_mem ordered.tags he hg ((slotDropped_edited _ i _ g).tag.symm.trans tag)
  have acted : (considered e && e.translated) = true := (Bool.and_eq_true_iff.1 hm).1
  have still := servesIn_of_slotDropped_names (by rw [cutEntry_eq, runless]; exact acted) names
  have zone := (revoke_pinsDropped (s := s) (reason := reason)
    (cut := rangeCut (s.zone i).first (s.zone i).last (slotNaming i considered))).zone_of_kept (i := i) (by rwa [cutState_zone])
  rw [show (zoneCut s i reason considered).zone i = _ from zone, cutState_zone] at still
  unfold State.servesIn at still ⊢
  rw [show (zoneCut s i reason considered).gate = _ from revoke_gate ordered.tags] at still
  cases hr : s.gate.record with
  | none => simp [hr] at still
  | some r =>
    simp only [hr, Option.map_some, cutEntry_tag, BlockRecord.isOf, Bool.and_eq_true] at still ⊢
    obtain ⟨⟨⟨has, -⟩, tag⟩, inside⟩ := still
    exact ⟨⟨has, tag⟩, inside⟩

theorem zoneTrigger_triggerFrame (ordered : s.QueueOrdered) (kept : (s.zone i).state ≠ .retiring) :
    TriggerFrame [i] (s.cutRevokes reason (s.zone i).first (s.zone i).last (slotNaming i considered)) s
      (s.zoneTrigger i reason considered) :=
  (zoneTrimmed_trimmed ordered kept).triggerFrame

theorem zoneTrigger_zoneCut (ordered : s.QueueOrdered) (kept : (s.zone i).state ≠ .retiring)
    (runless : ∀ e a, considered { e with accepted := a } = considered e) :
    ZoneCut i reason (slotNaming i considered) s (s.zoneTrigger i reason considered) :=
  ⟨zoneTrigger_runsCut ordered kept, fun _ he hm _ he' tag names => zoneTrigger_translations ordered kept runless he hm he' tag names⟩

end

/-! ### A command that edits the slot and triggers (R16, R18) -/

section
variable {s t : State} {i : ZoneSlot} {z : Zone} {told : List Reply} {reason : RevokeReason} {m : Entry → Bool}

/-- The frame of a trigger on an edited slot is the frame of the command. -/
theorem triggerFrame_of_setZone (h : TriggerFrame [i] told (s.setZone i z) t) : TriggerFrame [i] told s t := by
  have zone : ∀ j, j ≠ i → (s.setZone i z).zone j = s.zone j := fun j hj => setZone_zone_ne _ _ _ _ hj.symm
  refine ⟨fun j hj => ?_, h.strategies, h.levels, fun hg => ⟨(h.target hg).same, (h.target hg).other, (h.target hg).none⟩,
    h.translator, ⟨h.pickup.starts, h.pickup.stays⟩, h.gate, h.replies, ?_, h.others⟩
  · have kept := h.zones j hj
    rwa [zone j (by simpa using hj)] at kept
  · refine alertRaised_congr h.alert fun f => ?_
    have freed : (zoneSlots.any fun j => !([i] : List ZoneSlot).contains j &&
        decide (((s.setZone i z).zone j).state = .retiring ∧ (t.zone j).state = .free)) =
        zoneSlots.any fun j => !([i] : List ZoneSlot).contains j && decide ((s.zone j).state = .retiring ∧ (t.zone j).state = .free) := by
      congr 1
      funext j
      by_cases hj : j = i
      · simp [hj]
      · rw [zone j hj]
    rw [freed]
    rfl

theorem zoneCut_of_setZone (first : z.first = (s.zone i).first) (last : z.last = (s.zone i).last)
    (h : ZoneCut i reason m (s.setZone i z) t) : ZoneCut i reason m s t := by
  obtain ⟨cut, translations⟩ := h
  rw [setZone_zone_self, first, last] at cut translations
  exact ⟨⟨cut.runs, cut.stays, cut.leaves, cut.waits, cut.others, cut.replies, cut.request⟩, translations⟩

end

/-! ### A command that frees or retires the slot after its trigger (R20) -/

section
variable {s t u : State} {i : ZoneSlot} {told : List Reply} {reason : RevokeReason} {first last : Nat} {m : Entry → Bool}

theorem runsCut_congr (h : RunsCut reason first last m s t) (queue : u.queue = t.queue) (gate : u.gate = t.gate)
    (link : u.link = t.link) (alert : u.alert = t.alert) : RunsCut reason first last m s u := by
  have waits : ∀ e, u.awaitsFall e = t.awaitsFall e := fun e => by simp only [State.awaitsFall, gate]
  refine ⟨?_, ?_, ?_, ?_, ?_, ?_, ?_⟩
  · rw [queue]; exact h.runs
  · rw [queue]; exact h.stays
  · rw [queue]; exact h.leaves
  · simp only [queue, waits]; exact h.waits
  · rw [queue]; exact h.others
  · rw [Stored, link]; exact h.replies
  · rw [alert]; exact h.request

theorem zoneCut_congr (h : ZoneCut i reason m s t) (queue : u.queue = t.queue) (gate : u.gate = t.gate) (link : u.link = t.link)
    (alert : u.alert = t.alert) : ZoneCut i reason m s u :=
  ⟨runsCut_congr h.cut queue gate link alert, by rw [queue]; exact h.translations⟩

/-- The slot itself changes last, and stays readable unless it is Free. -/
theorem triggerFrame_of_named (h : TriggerFrame [i] told s t) (present : t.zone i ≠ Zone.freeContent)
    {zs : Vector Zone 128} {ks : Vector Strategy 16} (same : u = (t.withZones zs).withStrategies ks)
    (apart : ∀ j, j ≠ i → u.zone j = t.zone j)
    (readable : u.zone i ≠ Zone.freeContent → (u.zone i).first = (t.zone i).first ∧ (u.zone i).last = (t.zone i).last ∧
      (u.zone i).powers = (t.zone i).powers ∧ (u.zone i).trim = (t.zone i).trim)
    (strategies : ∀ k, u.strategy k = { t.strategy k with refs := (u.strategy k).refs } ∧
      (u.strategy k).refs ≤ (t.strategy k).refs) : TriggerFrame [i] told s u := by
  subst same
  have inputs : ∀ g : Target, (g.slot = some i → ((t.withZones zs).withStrategies ks).zone i ≠ Zone.freeContent) →
      ((t.withZones zs).withStrategies ks).levelInputs g = t.levelInputs g := by
    intro g still
    have zone : let z := ((t.withZones zs).withStrategies ks).zoneOf g.slot
        z.first = (t.zoneOf g.slot).first ∧ z.last = (t.zoneOf g.slot).last ∧ z.powers = (t.zoneOf g.slot).powers ∧
          z.trim = (t.zoneOf g.slot).trim := by
      cases hg : g.slot with
      | none => exact ⟨rfl, rfl, rfl, rfl⟩
      | some j =>
        by_cases hj : j = i
        · subst hj
          exact readable (still hg)
        · simp only [zoneOf_some, apart j hj, and_self]
    obtain ⟨first, last, powers, trim⟩ := zone
    simp only [State.levelInputs, first, last, powers, trim]
    rfl
  refine ⟨fun j hj => ?_, fun k => ?_, h.levels, fun hg => ?_, h.translator, ⟨h.pickup.starts, h.pickup.stays⟩, h.gate, h.replies,
    ?_, h.others⟩
  · rw [apart j (by simpa using hj)]
    exact h.zones j hj
  · obtain ⟨kept, le⟩ := strategies k
    obtain ⟨kept', le'⟩ := h.strategies k
    exact ⟨by rw [kept, kept'], le.trans le'⟩
  · have followed := h.target fun g j _ _ hj => by
      rwa [List.mem_singleton.1 hj]
    refine ⟨followed.same, fun g target fresh => ?_, followed.none⟩
    rw [inputs g fun slot => hg g i target slot (by simp)]
    exact followed.other g target fresh
  · refine alertRaised_congr h.alert fun f => ?_
    have freed : (zoneSlots.any fun j => !([i] : List ZoneSlot).contains j &&
        decide ((s.zone j).state = .retiring ∧ (t.zone j).state = .free)) =
        zoneSlots.any fun j => !([i] : List ZoneSlot).contains j &&
          decide ((s.zone j).state = .retiring ∧ (((t.withZones zs).withStrategies ks).zone j).state = .free) := by
      congr 1
      funext j
      by_cases hj : j = i
      · simp [hj]
      · rw [apart j hj]
    rw [freed]

end

/-! ### The hand-off of a change (R15, R32) -/

section
variable {s : State} {i : ZoneSlot} {z : Zone}

/-- The slot of the level computer's target is edited: the computation is made again from the edited descriptor. -/
theorem setZone_handOn_handedOn (s : State) (i : ZoneSlot) (z : Zone) : HandedOn i s ((s.setZone i z).handOn i) := by
  have inputs : ∀ g, ((s.setZone i z).handOn i).levelInputs g = (s.setZone i z).levelInputs g :=
    levelInputs_congr (handOn_zones ..) (handOn_laser ..)
  refine ⟨fun g l target slot ready => ?_, fun g c target slot computing => ?_, fun other => ?_⟩
  · rw [inputs]
    simp [State.handOn, target, slot, ready]
  · rw [inputs]
    simp [State.handOn, target, slot, computing]
  · unfold State.handOn
    rw [setZone_queue]
    cases target : targetOf s.queue with
    | none => rfl
    | some g => simp [other g target]

theorem setZone_handOn_frame (s : State) (i : ZoneSlot) (z : Zone) : (s.setZone i z).handOn i =
    (s.withZones ((s.setZone i z).handOn i).zones).withLevels ((s.setZone i z).handOn i).levels := by
  unfold State.handOn
  split
  · split
    · split <;> rfl
    · rfl
  · rfl

theorem setZone_handOn_zone (s : State) (i : ZoneSlot) (z : Zone) :
    ((s.setZone i z).handOn i).zone i = z ∧ ∀ j, j ≠ i → ((s.setZone i z).handOn i).zone j = s.zone j := by
  have zone : ∀ j, ((s.setZone i z).handOn i).zone j = (s.setZone i z).zone j := zone_congr (handOn_zones ..)
  exact ⟨(zone i).trans (setZone_zone_self ..), fun j hj => (zone j).trans (setZone_zone_ne _ _ _ _ hj.symm)⟩

end

/-! ### What each zone command answers (R11, R12, R16, R18, R20) -/

section
variable {l : Level} {ps : List Byte} {s : State} {i : ZoneSlot}

theorem not_inUse_iff {z : Zone} : ¬ z.inUse = true ↔ z.state = .free ∨ z.state = .retiring := by
  rw [inUse_iff]
  tauto

theorem setPowers_range (h : 127 < u8At ps 0 ∨ ¬ (powersAt ps 1).inRange = true) : setPowers l ps s = refuseWith s .range := by
  unfold setPowers
  dsimp only
  split
  · rfl
  · next i hi =>
    refine if_pos (h.resolve_left fun beyond => ?_)
    rw [zoneSlotOf_eq_none_iff.2 beyond] at hi
    cases hi

theorem setPowers_wrongState (hi : i.val = u8At ps 0) (range : (powersAt ps 1).inRange = true) (h : ¬ (s.zone i).inUse = true) :
    setPowers l ps s = refuseWith s .wrongState := by
  simp [setPowers, zoneSlotOf_eq_some_iff.2 hi, range, h]

theorem setPowers_done (hi : i.val = u8At ps 0) (range : (powersAt ps 1).inRange = true) (h : (s.zone i).inUse = true) :
    setPowers l ps s = done ((s.setZone i { s.zone i with powers := powersAt ps 1 }).handOn i) := by
  simp [setPowers, zoneSlotOf_eq_some_iff.2 hi, range, h]

section
variable {value : Int → Int}

theorem setTrimTo_range (h : 127 < u8At ps 0) : setTrimTo ps s value = refuseWith s .range := by
  simp [setTrimTo, zoneSlotOf_eq_none_iff.2 h]

theorem setTrimTo_wrongState (hi : i.val = u8At ps 0) (h : ¬ (s.zone i).inUse = true) :
    setTrimTo ps s value = refuseWith s .wrongState := by
  simp [setTrimTo, zoneSlotOf_eq_some_iff.2 hi, h]

theorem setTrimTo_done (hi : i.val = u8At ps 0) (h : (s.zone i).inUse = true) : setTrimTo ps s value =
    done ((s.setZone i { s.zone i with trim := clampInt (-128) 127 (value (s.zone i).trim), trimLimit := false }).handOn i)
      [sbyte1 (clampInt (-128) 127 (value (s.zone i).trim))] := by
  simp [setTrimTo, zoneSlotOf_eq_some_iff.2 hi, h]

end

theorem markAbsent_range (h : 127 < u8At ps 0) : markAbsent l ps s = refuseWith s .range := by
  simp [markAbsent, zoneSlotOf_eq_none_iff.2 h]

theorem markAbsent_wrongState (hi : i.val = u8At ps 0) (h : (s.zone i).state ≠ .loaded) :
    markAbsent l ps s = refuseWith s .wrongState := by
  simp [markAbsent, zoneSlotOf_eq_some_iff.2 hi, h]

theorem markAbsent_done (hi : i.val = u8At ps 0) (h : (s.zone i).state = .loaded) : markAbsent l ps s =
    done ((s.setZone i { s.zone i with state := .absent }).zoneTrigger i .absent fun _ => true) := by
  simp [markAbsent, zoneSlotOf_eq_some_iff.2 hi, h, State.setZoneState]

theorem closable_iff {k : ZoneKind} : k.closable = true ↔ k = .once ∨ k = .rewrite := by
  cases k <;> simp [ZoneKind.closable]

theorem closeZone_range (h : 127 < u8At ps 0) : closeZone l ps s = refuseWith s .range := by
  simp [closeZone, zoneSlotOf_eq_none_iff.2 h]

theorem closeZone_wrongState (hi : i.val = u8At ps 0) (h : (s.zone i).state ≠ .loaded ∨ ¬ (s.zone i).kind.closable = true) :
    closeZone l ps s = refuseWith s .wrongState := by
  unfold closeZone
  rw [zoneSlotOf_eq_some_iff.2 hi]
  dsimp only
  split
  · rfl
  · next loaded => exact if_pos (h.resolve_left loaded)

theorem closeZone_denied (hi : i.val = u8At ps 0) (h : (s.zone i).state = .loaded) (closable : (s.zone i).kind.closable = true)
    (above : (s.zone i).level < l.val) : closeZone l ps s = refuseWith s .denied := by
  simp [closeZone, zoneSlotOf_eq_some_iff.2 hi, h, closable, above]

theorem closeZone_done (hi : i.val = u8At ps 0) (h : (s.zone i).state = .loaded) (closable : (s.zone i).kind.closable = true)
    (level : l.val ≤ (s.zone i).level) : closeZone l ps s =
    done ((s.setZone i { s.zone i with state := .closed }).zoneTrigger i .closed Entry.writes) := by
  simp [closeZone, zoneSlotOf_eq_some_iff.2 hi, h, closable, Nat.not_lt.2 level, State.setZoneState]

theorem releaseZone_range (h : 127 < u8At ps 0) : releaseZone l ps s = refuseWith s .range := by
  simp [releaseZone, zoneSlotOf_eq_none_iff.2 h]

theorem releaseZone_wrongState (hi : i.val = u8At ps 0) (h : ¬ (s.zone i).inUse = true) :
    releaseZone l ps s = refuseWith s .wrongState := by
  simp [releaseZone, zoneSlotOf_eq_some_iff.2 hi, h]

theorem releaseZone_free (hi : i.val = u8At ps 0) (h : (s.zone i).inUse = true)
    (unpinned : ((s.zoneTrigger i .released fun _ => true).zone i).pins = 0) : releaseZone l ps s =
    done ((s.zoneTrigger i .released fun _ => true).freeZone i) [0x00#8, 0x00#8] := by
  simp [releaseZone, zoneSlotOf_eq_some_iff.2 hi, h, unpinned, ZoneState.byte]

theorem releaseZone_retiring (hi : i.val = u8At ps 0) (h : (s.zone i).inUse = true)
    (pinned : ((s.zoneTrigger i .released fun _ => true).zone i).pins ≠ 0) : releaseZone l ps s =
    done ((s.zoneTrigger i .released fun _ => true).setZone i
      { (s.zoneTrigger i .released fun _ => true).zone i with state := .retiring })
      [0x04#8, byte1 ((s.zoneTrigger i .released fun _ => true).zone i).pins] := by
  simp [releaseZone, zoneSlotOf_eq_some_iff.2 hi, h, pinned, ZoneState.byte, State.setZoneState]

end

/-! ### The whole of a trigger on an edited slot -/

/-- A slot in use takes another state in use and its runs are cut (R7, R16, R18). -/
theorem editedTrigger {s : State} {i : ZoneSlot} {st : ZoneState} {reason : RevokeReason} {considered : Entry → Bool}
    (ordered : s.QueueOrdered) (used : st ≠ .free ∧ st ≠ .retiring)
    (runless : ∀ e a, considered { e with accepted := a } = considered e) :
    let t := (s.setZone i { s.zone i with state := st }).zoneTrigger i reason considered
    t.zone i = { s.zone i with state := st, pins := (t.zone i).pins } ∧ ZoneCut i reason (slotNaming i considered) s t ∧
      TriggerFrame [i] (s.cutRevokes reason (s.zone i).first (s.zone i).last (slotNaming i considered)) s t := by
  intro t
  let s' := s.setZone i { s.zone i with state := st }
  have self : s'.zone i = { s.zone i with state := st } := setZone_zone_self ..
  have inUse : (s'.zone i).inUse = true := by rw [self]; exact inUse_iff.2 used
  have ordered' : s'.QueueOrdered := queueOrdered_frame ordered rfl rfl
  have kept := (inUse_iff.1 inUse).2
  have frame := zoneTrigger_triggerFrame (reason := reason) (considered := considered) ordered' kept
  refine ⟨?_, zoneCut_of_setZone (z := { s.zone i with state := st }) rfl rfl (zoneTrigger_zoneCut ordered' kept runless), ?_⟩
  · rw [show t.zone i = _ from zoneTrigger_zone_state s' i reason considered i inUse, self]
  · rw [self] at frame
    exact triggerFrame_of_setZone frame

theorem freeZone_eq (t : State) (i : ZoneSlot) :
    t.freeZone i = (t.withZones (t.freeZone i).zones).withStrategies (t.freeZone i).strategies := by
  unfold State.freeZone State.dropRef
  split <;> rfl

section
variable {s t : State} {i : ZoneSlot} {told : List Reply}

theorem freeZone_triggerFrame (h : TriggerFrame [i] told s t) (present : t.zone i ≠ Zone.freeContent) :
    TriggerFrame [i] told s (t.freeZone i) := by
  have self : (t.freeZone i).zone i = Zone.freeContent := (freeZone_zone ..).trans (if_pos rfl)
  refine triggerFrame_of_named h present (freeZone_eq t i) (fun j hj => ?_) (fun still => absurd self still) fun k => ?_
  · rw [freeZone_zone, if_neg hj.symm]
  · exact dropRef_strategy t (t.zone i).strategy k

theorem retire_triggerFrame (h : TriggerFrame [i] told s t) (present : t.zone i ≠ Zone.freeContent) :
    TriggerFrame [i] told s (t.setZone i { t.zone i with state := .retiring }) := by
  refine triggerFrame_of_named h present (zs := t.zones.set i.val { t.zone i with state := .retiring }) (ks := t.strategies) rfl
    (fun j hj => setZone_zone_ne _ _ _ _ hj.symm) (fun _ => ?_) fun k => ⟨rfl, le_rfl⟩
  rw [setZone_zone_self]
  exact ⟨rfl, rfl, rfl, rfl⟩

end

end Sys2Proof.Laws

/-!
PROOFS. The statements settled on the zone table's hand-offs and triggers.
-/

namespace Sys2Proof.Settled

open Sys2Proof Sys2Proof.Machine Sys2Proof.Laws

/-- Settles O15, from the equations of SET POWERS. -/
theorem setPowersReplaces : Obligations.SetPowersReplaces := by
  unfold Obligations.SetPowersReplaces
  intro s ps
  refine ⟨deniedAbove_of_arm fun _ => rfl, fun he => ⟨fun bad => ?_, fun i hi good => ⟨fun state => ?_, fun notFree notRetiring => ?_⟩⟩⟩
  · refine exec_of_refuseWith (fun _ => rfl) he le_rfl (setPowers_range (bad.imp_right ?_))
    rintro ⟨p, hp, beyond⟩ range
    exact absurd ((powersAt_inRange_iff 1).1 range p hp) (by omega)
  · exact exec_of_refuseWith (fun _ => rfl) he le_rfl
      (setPowers_wrongState hi ((powersAt_inRange_iff 1).2 good) (not_inUse_iff.2 state))
  · obtain ⟨self, others⟩ := setZone_handOn_zone s i { s.zone i with powers := powersAt ps 1 }
    exact ⟨_, exec_of_done (fun _ => rfl) he le_rfl
      (setPowers_done hi ((powersAt_inRange_iff 1).2 good) (inUse_iff.2 ⟨notFree, notRetiring⟩)) (handOn_port ..),
      setZone_handOn_frame .., self, others, setZone_handOn_handedOn ..⟩

/-- Settles O16: both forms are one rule with their own value. -/
theorem setTrimSaturates : Obligations.SetTrimSaturates := by
  unfold Obligations.SetTrimSaturates
  refine ⟨fun s ps => ⟨deniedAbove_of_arm fun _ => rfl, deniedAbove_of_arm fun _ => rfl⟩, fun s ps c code i v form he => ?_⟩
  dsimp only
  have row : ∃ value : List Byte → Int → Int, v = value ps (s.zone i).trim ∧
      ∀ s, exec c s = s.execute code 0 fun _ ps s => setTrimTo ps s (value ps) := by
    rcases form with ⟨rfl, rfl, rfl⟩ | ⟨rfl, rfl, rfl⟩
    · exact ⟨fun ps _ => s16At ps 1, rfl, fun _ => rfl⟩
    · exact ⟨fun ps trim => trim + s8At ps 1, rfl, fun _ => rfl⟩
  obtain ⟨value, rfl, arm⟩ := row
  refine ⟨fun bad => ?_, fun hi state => ?_, fun hi notFree notRetiring => ?_⟩
  · exact exec_of_refuseWith arm he le_rfl (setTrimTo_range bad)
  · exact exec_of_refuseWith arm he le_rfl (setTrimTo_wrongState hi (not_inUse_iff.2 state))
  · rw [← clampInt_eq_ite (by decide)]
    obtain ⟨self, others⟩ := setZone_handOn_zone s i
      { s.zone i with trim := clampInt (-128) 127 (value ps (s.zone i).trim), trimLimit := false }
    exact ⟨_, exec_of_done arm he le_rfl (setTrimTo_done hi (inUse_iff.2 ⟨notFree, notRetiring⟩)) (handOn_port ..),
      setZone_handOn_frame .., self, others, setZone_handOn_handedOn ..⟩

/-- Settles O19, refusal by refusal. -/
theorem zoneTriggersRefused : Obligations.ZoneTriggersRefused := by
  unfold Obligations.ZoneTriggersRefused
  intro s l ps i
  refine ⟨fun he => ⟨fun bad => ?_, fun hi state => ?_⟩,
    fun he hl => ⟨fun bad => ?_, fun hi => ⟨fun state => ?_, fun loaded kind above => ?_⟩⟩,
    fun he => ⟨fun bad => ?_, fun hi state => ?_⟩⟩
  · exact exec_of_refuseWith (fun _ => rfl) he le_rfl (markAbsent_range bad)
  · exact exec_of_refuseWith (fun _ => rfl) he le_rfl (markAbsent_wrongState hi state)
  · exact exec_of_refuseWith (fun _ => rfl) he hl (closeZone_range bad)
  · refine exec_of_refuseWith (fun _ => rfl) he hl (closeZone_wrongState hi (state.imp_right fun kind => ?_))
    rw [closable_iff]
    rcases kind with kind | kind | kind <;> simp [kind]
  · exact exec_of_refuseWith (fun _ => rfl) he hl (closeZone_denied hi loaded (closable_iff.2 kind) above)
  · exact exec_of_refuseWith (fun _ => rfl) he le_rfl (releaseZone_range bad)
  · exact exec_of_refuseWith (fun _ => rfl) he le_rfl (releaseZone_wrongState hi (not_inUse_iff.2 state))

/-- Settles O20: both commands edit the slot's state and trigger. -/
theorem markAbsentAndCloseZoneCut : Obligations.MarkAbsentAndCloseZoneCut := by
  unfold Obligations.MarkAbsentAndCloseZoneCut
  refine ⟨fun s ps i ordered he hi loaded => ?_, fun s l ps i ordered he hl hi loaded kind level => ?_⟩
  · exact ⟨_, exec_of_done (fun _ => rfl) he le_rfl (markAbsent_done hi loaded) (zoneTrigger_port ..),
      editedTrigger ordered (by decide) fun _ _ => rfl⟩
  · exact ⟨_, exec_of_done (fun _ => rfl) he hl (closeZone_done hi loaded (closable_iff.2 kind) level) (zoneTrigger_port ..),
      editedTrigger ordered (by decide) fun _ _ => rfl⟩

/-- Settles O21: the trigger, then Free or Retiring by the pins left. -/
theorem releaseZoneFrees : Obligations.ReleaseZoneFrees := by
  unfold Obligations.ReleaseZoneFrees
  intro s ps i ordered he hi inUse
  have kept := (inUse_iff.1 inUse).2
  have zone := zoneTrigger_zone_state s i .released (fun _ => true) i inUse
  have cut := zoneTrigger_zoneCut (reason := .released) (considered := fun _ => true) ordered kept fun _ _ => rfl
  have frame := zoneTrigger_triggerFrame (reason := .released) (considered := fun _ => true) ordered kept
  have le := zoneTrigger_pins_le (s := s) (i := i) (reason := .released) (considered := fun _ => true)
  generalize ht : s.zoneTrigger i .released (fun _ => true) = t at zone cut frame le
  have present : t.zone i ≠ Zone.freeContent := fun free => (inUse_iff.1 inUse).1 (by
    have state := congrArg Zone.state zone
    rw [free] at state
    exact state.symm)
  by_cases pins : (t.zone i).pins = 0
  · have freed := releaseZone_free (l := 0) hi inUse (by rw [ht]; exact pins)
    rw [ht] at freed
    have self : (t.freeZone i).zone i = Zone.freeContent := (freeZone_zone ..).trans (if_pos rfl)
    refine ⟨_, _, exec_of_done (fun _ => rfl) he le_rfl freed ?_, .inl ⟨self, rfl⟩, fun _ => self, ?_, ?_⟩
    · rw [freeZone_port, ← ht, zoneTrigger_port]
    · exact zoneCut_congr cut (freeZone_queue ..) (freeZone_gate ..) (freeZone_link ..) (freeZone_alert ..)
    · exact freeZone_triggerFrame frame present
  · have retires := releaseZone_retiring (l := 0) hi inUse (by rw [ht]; exact pins)
    rw [ht] at retires
    have self : (t.setZone i { t.zone i with state := .retiring }).zone i = { t.zone i with state := .retiring } :=
      setZone_zone_self ..
    refine ⟨_, _, exec_of_done (fun _ => rfl) he le_rfl retires ?_, .inr ⟨?_, ?_, ?_⟩, fun unpinned => absurd ?_ pins, ?_, ?_⟩
    · rw [setZone_port, ← ht, zoneTrigger_port]
    · rw [self, zone]
    · rw [self]
      exact Nat.pos_of_ne_zero pins
    · rw [self]
    · exact Nat.le_zero.1 (unpinned ▸ le)
    · exact zoneCut_congr cut rfl rfl rfl rfl
    · exact retire_triggerFrame frame present

end Sys2Proof.Settled

/-!
PROOFS. The commands that only read, byte by byte (section 12.3), the ALERT line (R168 to R173), and UNMOUNT (R177).
-/

namespace Sys2Proof.Laws

open Sys2Proof Sys2Proof.Machine

/-! ### Fields of the records -/

theorem sbytes2_eq (i : Int) : sbytes2 i = [BitVec.ofInt 8 (i / 256), BitVec.ofInt 8 i] := by
  have high : (BitVec.ofInt 16 i).extractLsb' 8 8 = BitVec.ofInt 8 (i / 256) := by
    refine BitVec.eq_of_toNat_eq ?_
    simp [Nat.shiftRight_eq_div_pow, BitVec.toNat_ofInt]
    omega
  have low : (BitVec.ofInt 16 i).extractLsb' 0 8 = BitVec.ofInt 8 i := by
    refine BitVec.eq_of_toNat_eq ?_
    simp [BitVec.toNat_ofInt]
    omega
  simp only [sbytes2, high, low]

theorem flagByte_eq (b : Bool) : flagByte b = BitVec.ofNat 8 (if b then 1 else 0) := by
  cases b <;> rfl

theorem flags3_eq (b0 b1 b2 : Bool) : flags3 b0 b1 b2 =
    BitVec.ofNat 8 ((if b0 then 1 else 0) + (if b1 then 2 else 0) + (if b2 then 4 else 0)) := by
  cases b0 <;> cases b1 <;> cases b2 <;> rfl

theorem ite_eq_mul_toNat (b : Bool) (n : Nat) : (if b then n else 0) = n * b.toNat := by
  cases b <;> simp

theorem max_one_eq (n : Nat) : max 1 n = if n = 0 then 1 else n := by
  split <;> omega

theorem toList_four {α : Type} (v : Vector α 4) : v.toList = [v[0], v[1], v[2], v[3]] := by
  obtain ⟨⟨l⟩, h⟩ := v
  match l, h with
  | [_, _, _, _], _ => rfl

theorem level_le (l : Level) : l ≤ 2 := Fin.le_last l

theorem laserStatus_eq (l : Laser) : laserStatus l = BitVec.ofNat 8 ((if l.overLimit then 1 else 0) + (if l.warnArmed then 2 else 0) +
    (if l.loff then 4 else 0) + (if decide (l.clock = .locked) then 8 else 0) + (if l.modelLoaded then 16 else 0) +
    (if l.ceilingsLoaded then 32 else 0)) := by
  simp only [laserStatus, ite_eq_mul_toNat, Nat.one_mul]

/-- A command that only reads answers its data from every level. -/
theorem exec_of_read {c : Instr} {code : Byte} {f : Level → List Byte → State → Answered} {l : Level} {ps : List Byte} {s : State}
    (arm : ∀ s, exec c s = s.execute code 2 f) (he : s.executing l code ps) {data data' : List Byte} (hf : f l ps s = done s data)
    (same : data = data') : exec c s = .next (s.withResult ⟨.done, data'⟩) :=
  exec_of_done arm he (level_le l) (same ▸ hf) rfl

/-! ### The ALERT line (R172) -/

/-- The requests, in the order of their bits. -/
def requestFlags : List RequestFlag :=
  [.fault, .unlock, .skip, .refuse, .revoke, .trimlim, .pclamp, .iclamp, .twarn, .busto, .freed, .linkerr, .ready]

/-- Every flag that has a use is the mask of some request: two sets of flags without the unused ones meet in a flag or not at all. -/
theorem exists_mask_of_and_ne_zero {x y : BitVec 16} (unused : y &&& unusedFlags = 0#16) (h : x &&& y ≠ 0#16) :
    ∃ g : RequestFlag, x &&& g.mask ≠ 0#16 ∧ y &&& g.mask ≠ 0#16 := by
  by_contra none
  have apart : ∀ g : RequestFlag, x &&& y &&& g.mask = 0#16 := fun g => by
    by_cases hx : x &&& g.mask = 0#16
    · rw [BitVec.and_comm x y, BitVec.and_assoc, hx, BitVec.and_zero]
    · have hy : y &&& g.mask = 0#16 := by
        by_contra hy
        exact none ⟨g, hx, hy⟩
      rw [BitVec.and_assoc, hy, BitVec.and_zero]
  have rest : x &&& y &&& unusedFlags = 0#16 := by rw [BitVec.and_assoc, unused, BitVec.and_zero]
  have every : requestFlags.foldr (fun g m => g.mask ||| m) unusedFlags = BitVec.allOnes 16 := by decide
  have meets : ∀ gs : List RequestFlag, x &&& y &&& gs.foldr (fun g m => g.mask ||| m) unusedFlags = 0#16 := by
    intro gs
    induction gs with
    | nil => exact rest
    | cons g gs ih => rw [List.foldr_cons, BitVec.and_or_distrib_left, apart g, ih, BitVec.or_zero]
  refine h ?_
  rw [← BitVec.and_allOnes (x := x &&& y), ← every]
  exact meets requestFlags

theorem and_mask_of_ne_zero {x : BitVec 16} {g : RequestFlag} (h : x &&& g.mask ≠ 0#16) : x &&& g.mask = g.mask := by
  have power : g.mask = BitVec.twoPow 16 g.ctorIdx := by cases g <;> decide
  rw [power, BitVec.and_twoPow] at h ⊢
  split
  · rfl
  · next clear => simp [clear] at h

theorem active_level {a : Alert} (level : a.mode = .level) (unused : a.permissions &&& unusedFlags = 0#16) :
    a.active = true ↔ ∃ g, a.isSet g = true ∧ a.isGranted g = true := by
  simp only [Alert.active, level, Alert.isSet, Alert.isGranted, bne_iff_ne]
  refine ⟨exists_mask_of_and_ne_zero unused, ?_⟩
  rintro ⟨g, set, granted⟩ none
  refine set ?_
  rw [← and_mask_of_ne_zero granted, ← BitVec.and_assoc, none, BitVec.zero_and]

/-! ### UNMOUNT (R177) -/

/-- A flush of a state whose queue, gate, link and alerts are those of another is a flush of that other. -/
theorem flushed_congr {reason : RevokeReason} {d s t : State} (h : Flushed reason d t) (queue : d.queue = s.queue)
    (gate : d.gate = s.gate) (link : d.link = s.link) (alert : d.alert = s.alert) : Flushed reason s t := by
  have awaits : d.awaitsFall = s.awaitsFall := by
    funext e
    simp only [State.awaitsFall, gate]
  have revokes : d.flushRevokes reason = s.flushRevokes reason := by simp only [State.flushRevokes, awaits, queue]
  refine ⟨h.queue, ?_, ?_, ?_⟩
  · rw [← gate, ← queue]
    exact h.entry
  · rw [← revokes]
    exact stored_congr h.replies link.symm
  · rw [h.request, alert, awaits, queue]

section
variable (s : State)

theorem tablesCleared_gate : (tablesCleared s).gate = s.gate := by
  unfold tablesCleared
  dsimp only
  split <;> simp

theorem tablesCleared_queue : (tablesCleared s).queue = s.queue := by
  unfold tablesCleared
  dsimp only
  split <;> simp

theorem tablesCleared_link : (tablesCleared s).link = s.link := by
  unfold tablesCleared
  dsimp only
  split <;> simp

theorem tablesCleared_alert : (tablesCleared s).alert = s.alert := by
  unfold tablesCleared
  dsimp only
  split <;> simp

theorem tablesCleared_kept : (tablesCleared s).inReset = s.inReset ∧ (tablesCleared s).pending = s.pending ∧
    (tablesCleared s).pickup = s.pickup ∧ (tablesCleared s).port = s.port ∧
    (tablesCleared s).monitor.apc = s.monitor.apc ∧ (tablesCleared s).monitor.mismatch = s.monitor.mismatch := by
  unfold tablesCleared
  dsimp only
  split <;> simp [State.darken, Monitor.killSamples]

end

end Sys2Proof.Laws

namespace Sys2Proof.Settled

open Sys2Proof Sys2Proof.Machine Sys2Proof.Laws

/-- Settles O23, command by command. -/
theorem readCommandsReport : Obligations.ReadCommandsReport := by
  unfold Obligations.ReadCommandsReport
  intro byte word long signed signedWord bit zoneState zoneType streamMode laserState cause layerAndBlock widths s l ps
  have two : ∀ n, bytes2 n = word n := bytes2_eq
  have four : ∀ n, bytes4 n = long n := bytes4_eq
  have stwo : ∀ i, sbytes2 i = signedWord i := sbytes2_eq
  have flag : ∀ b, flagByte b = byte (bit b 1) := flagByte_eq
  have flags : ∀ b c d, flags3 b c d = byte (bit b 1 + bit c 2 + bit d 4) := flags3_eq
  have zoneStates : ∀ x : ZoneState, x.byte = byte (zoneState x) := by rintro ⟨⟩ <;> rfl
  have kinds : ∀ x : ZoneKind, x.byte = byte (zoneType x) := by rintro ⟨⟩ <;> rfl
  have modes : ∀ x : StreamMode, x.byte = byte (streamMode x) := by rintro ⟨⟩ <;> rfl
  have states : ∀ x : LaserState, x.byte = byte (laserState x) := by rintro ⟨⟩ <;> rfl
  have causes : ∀ x : FaultCause, x.byte = byte (cause x) := by rintro ⟨⟩ <;> rfl
  refine ⟨fun he => ⟨fun bad => ?_, fun i hi => ?_⟩, fun he => ⟨fun bad => ?_, fun k hk => ?_⟩,
    fun he => ⟨fun bad => ?_, fun n hn => ?_⟩,
    fun he => ?_, fun he => ?_, fun he => ?_, fun he => ?_, fun he => ?_⟩
  · exact exec_of_refuseWith (fun _ => rfl) he (level_le l) (by simp [readZone, zoneSlotOf_eq_none_iff.2 bad])
  · intro z
    refine exec_of_read (fun _ => rfl) he (data := zoneRecord i z) (by simp [readZone, zoneSlotOf_eq_some_iff.2 hi, z]) ?_
    have named : ∀ o : Option StrategySlot, strategyByte o = byte (match o with | some k => k.val | none => 255) := by
      rintro (_ | k) <;> rfl
    simp only [zoneRecord, Powers.bytes, zoneStates, kinds, two, four, flags, List.append_assoc]
    rw [named]
    rfl
  · exact exec_of_refuseWith (fun _ => rfl) he (level_le l) (by simp [readStrategy, strategySlotOf, below_eq_none_iff.2 bad])
  · intro t
    refine exec_of_read (fun _ => rfl) he (data := strategyData t) (by simp [readStrategy, strategySlotOf, below_eq_some_iff.2 hk, t]) ?_
    simp only [strategyData, StrategyRecord.bytes, flag, List.append_assoc]
    rfl
  · exact exec_of_refuseWith (fun _ => rfl) he (level_le l) (by simp [readStream, streamNoOf, below_eq_none_iff.2 bad])
  · intro t
    refine exec_of_read (fun _ => rfl) he (data := streamData t) (by simp [readStream, streamNoOf, below_eq_some_iff.2 hn, t]) ?_
    simp only [streamData, modes, four, List.append_assoc]
    rcases t.lastServed with _ | ⟨layer, block⟩ <;> rfl
  · refine exec_of_read (fun _ => rfl) he (data := guardsData s.guards) rfl ?_
    have entry : ∀ g : Guard, g.bytes = [byte g.layer.val] ++ long g.first ++ long g.last ++ [byte g.setBy] := fun g => by
      simp only [Guard.bytes, four]
      rfl
    simp only [guardsData, funext entry]
    rfl
  · intro motion high record
    refine exec_of_read (fun _ => rfl) he (data := pickupRecord s.pickup) rfl ?_
    have layer : ∀ n, (s.layerRecord n).bytes = record n := fun n => by
      simp only [LayerRecord.bytes, flag, two, stwo]
      rfl
    have layers : s.pickup.layers.toList.flatMap LayerRecord.bytes = record 0 ++ record 1 ++ record 2 ++ record 3 := by
      rw [toList_four]
      simp only [← layer, List.flatMap_cons, List.flatMap_nil, List.append_nil, List.append_assoc]
      rfl
    have moves : [s.pickup.motion.byte] ++ s.pickup.motion.bytes = motion := by
      cases hm : s.pickup.motion with
      | settled layer => simp only [motion, hm, Motion.byte, Motion.bytes, two]; rfl
      | moving source target left => simp only [motion, hm, Motion.byte, Motion.bytes, two, max_one_eq]; rfl
    have ready : s.pickup.lrdy = high := by
      cases hm : s.pickup.motion <;> simp only [Pickup.lrdy, high, hm]
    simp only [pickupRecord, moves, ready, two, stwo, flag, layers, List.append_assoc]
  · intro r warmUp
    refine exec_of_read (fun _ => rfl) he (data := laserRecord s.laser s.monitor) rfl ?_
    have status : laserStatus s.laser = byte (bit s.laser.overLimit 1 + bit s.laser.warnArmed 2 + bit s.laser.loff 4 +
        bit (decide (s.laser.clock = .locked)) 8 + bit s.laser.modelLoaded 16 + bit s.laser.ceilingsLoaded 32) :=
      laserStatus_eq s.laser
    have warm : warmUpRemaining s.laser = warmUp := by
      have atLeastOne : ∀ us : Nat, max 1 ((us + 999) / 1000) = if us = 0 then 1 else (us + 999) / 1000 := fun us => by
        split <;> omega
      unfold warmUpRemaining
      dsimp only [warmUp]
      cases s.laser.state with
      | standby =>
        cases s.laser.warmUp with
        | none => rfl
        | some us => exact atLeastOne us
      | off | idle | reading | writing | fault => rfl
    have record : ∀ r : FaultRecord, r.bytes = [byte (cause r.cause),
        byte (match r.left with | some state => laserState state | none => 0), byte (bit r.block.isSome 1 + bit r.further 2)] ++
        layerAndBlock r.block := by
      rintro ⟨_, left, block, _⟩
      rcases left with _ | state <;> rcases block with _ | ⟨layer, place⟩ <;>
        simp only [FaultRecord.bytes, causes, states, flags, four] <;> rfl
    simp only [laserRecord, states, status, warm, record]
    rfl
  · refine exec_of_read (fun _ => rfl) he rfl ?_
    have mode : ∀ m : AlertMode, m.byte = byte (if m = .pulse then 1 else 0) := by rintro ⟨⟩ <;> rfl
    simp only [two, flag, mode]
  · by_cases first : u8At ps 0 = 0
    · rw [if_pos first]
      refine exec_of_read (fun _ => rfl) he (data := 0x01#8 :: bytes2 Config.vendorCode) (by simp [inquire, inquirePage, first]) ?_
      rw [two]
      rfl
    · by_cases second : u8At ps 0 = 1
      · rw [if_neg first, if_pos second]
        exact exec_of_read (fun _ => rfl) he (by simp [inquire, inquirePage, second]; rfl) rfl
      · rw [if_neg first, if_neg second]
        exact exec_of_refuseWith (fun _ => rfl) he (level_le l) (by simp [inquire, inquirePage, first, second])

/-- Settles O38: the raise's own rules, and the one fact that a set and granted bit is some request's flag. -/
theorem alertLineFollows : Obligations.AlertLineFollows := by
  unfold Obligations.AlertLineFollows
  intro a f
  refine ⟨by simp [raise_isSet], fun g hg => by simp [raise_isSet, hg], by simp, by simp, raise_pulse a f, active_level,
    fun pulse => by simp [Alert.active, pulse]⟩

/-- Settles O39: the flush of the state whose tables the command has cleared. -/
theorem unmountFrees : Obligations.UnmountFrees := by
  unfold Obligations.UnmountFrees
  intro s ps he
  have frame := flush_triggerFrame (tablesCleared s) .unmount
  have flushed := flush_flushed (tablesCleared s) .unmount
  rw [← unmounted_eq] at frame flushed
  obtain ⟨zones, strategies⟩ := unmounted_tables s
  obtain ⟨inReset, guards, streams, writePath, laser, monitor, port, pending⟩ := frame.others
  refine ⟨unmounted s, exec_of_done (fun _ => rfl) he (Fin.zero_le _) (unmount_state ..) (unmount_port 0 ps s), zones, strategies, ?_,
    unmounted_streams s,
    flushed_congr flushed (tablesCleared_queue s) (tablesCleared_gate s) (tablesCleared_link s) (tablesCleared_alert s), ?_⟩
  · rw [guards]
    rfl
  · have cleared := flushed.queue.2.2
    have levels := frame.levels
    rw [cleared] at levels
    have kept : (unmounted s).pickup = (tablesCleared s).pickup := frame.pickup.stays (by simp [flushed.queue.1])
    have raised := tablesCleared_alert s ▸ frame.alert
    rw [laser, writePath, monitor, levels, inReset, pending, kept, port]
    refine ⟨?_, fun on => ?_, fun dark => ?_, ?_⟩
    · unfold tablesCleared
      dsimp only
      split <;> rfl
    · simp [tablesCleared, on, State.darken]
    · simp [tablesCleared, dark]
    · obtain ⟨heldReset, heldPending, heldPickup, heldPort, apc, mismatch⟩ := tablesCleared_kept s
      refine ⟨heldReset, heldPending, apc, mismatch, heldPickup, heldPort, alertRaised_congr raised fun f => ?_⟩
      have free : ∀ i, (tablesCleared s).zone i = Zone.freeContent := fun i => zone_of_replicate rfl i
      have told : (tablesCleared s).flushRevokes .unmount = s.flushRevokes .unmount := by
        simp only [State.flushRevokes, State.awaitsFall, tablesCleared_queue, tablesCleared_gate]
      have none : (zoneSlots.any fun _ => false) = false := by simp
      simp [flushRevokes_any, told, free, Zone.freeContent, State.drops, tablesCleared_link, none]

end Sys2Proof.Settled

/-!
PROOFS. The block announce link (04_block_announce_link_and_announce_queue.md, R57 to R59): its frames and their encoding, the replies
byte by byte, and QUALITY (R153, R154).
-/

namespace Sys2Proof.Laws

open Sys2Proof Sys2Proof.Machine

/-! ### Fields of the frames (R178) -/

theorem be32_toNat (a b c d : Byte) :
    (be32 a b c d).toNat = ((a.toNat * 256 + b.toNat) * 256 + c.toNat) * 256 + d.toNat := by
  have append : ∀ {n : Nat} (x : BitVec n) (y : Byte), (x ++ y).toNat = x.toNat * 256 + y.toNat := fun x y => by
    rw [BitVec.toNat_append, ← Nat.shiftLeft_add_eq_or_of_lt y.isLt, Nat.shiftLeft_eq]
  rw [be32, append, append, append]

theorem be32_encodeBlock (w : BitVec 32) :
    be32 (w.extractLsb' 24 8) (w.extractLsb' 16 8) (w.extractLsb' 8 8) (w.extractLsb' 0 8) = w := by
  refine BitVec.eq_of_toNat_eq ?_
  rw [be32_toNat]
  simp only [BitVec.extractLsb'_toNat, Nat.shiftRight_eq_div_pow]
  omega

theorem decodeBlock_encoded {b : Nat} (h : b ≤ Config.maxBlock) : decodeBlock (BitVec.ofNat 32 b) = some b := by
  have small : (BitVec.ofNat 32 b).toNat = b := by
    rw [BitVec.toNat_ofNat, Nat.mod_eq_of_lt]
    exact lt_of_le_of_lt h (by decide)
  rw [decodeBlock, small, if_pos h]

theorem decodeBlock_beyond {a b c d : Byte} (h : 64 ≤ a.toNat) : decodeBlock (be32 a b c d) = none := by
  rw [decodeBlock, if_neg]
  rw [be32_toNat, Config.maxBlock]
  omega

theorem packAnnounce_fields (a : Announcement) :
    (packAnnounce a).extractLsb' 6 2 = BitVec.ofFin (w := 2) a.stream ∧
    (packAnnounce a).extractLsb' 4 2 = BitVec.ofFin (w := 2) a.layer ∧
    (packAnnounce a).extractLsb' 2 2 = encodeIntent a.intent := by
  have fields : ∀ p q r : BitVec 2, ((p ++ q ++ r ++ 0#2 : BitVec 8).extractLsb' 6 2 = p) ∧
      ((p ++ q ++ r ++ 0#2 : BitVec 8).extractLsb' 4 2 = q) ∧ ((p ++ q ++ r ++ 0#2 : BitVec 8).extractLsb' 2 2 = r) := by decide
  exact fields _ _ _

theorem decodeIntent_encodeIntent (i : Intent) : decodeIntent (encodeIntent i) = some i := by
  cases i <;> rfl

/-- The calibrate step of a frame, five bits in two's complement. -/
theorem step_encoded {i : Int} (low : -16 ≤ i) (high : i ≤ 15) :
    ((0#3 ++ BitVec.ofInt 5 i : BitVec 8).extractLsb' 0 5).toInt = i := by
  have lowBits : ∀ x : BitVec 5, (0#3 ++ x : BitVec 8).extractLsb' 0 5 = x := by decide
  rw [lowBits, BitVec.toInt_ofInt_eq_self (by decide) (by omega) (by omega)]

theorem layer_encoded (layer : LayerNo) : ((0#6 ++ BitVec.ofFin (w := 2) layer : BitVec 8).extractLsb' 0 2).toFin = layer := by
  have lowBits : ∀ x : BitVec 2, (0#6 ++ x : BitVec 8).extractLsb' 0 2 = x := by decide
  rw [lowBits]

theorem decodeAbort_encoded (n : StreamNo) : decodeAbort (BitVec.ofNat 8 n.val) = some (some n) := by
  revert n
  decide

theorem decodeAnnounce_encoded {a : Announcement} (low : -16 ≤ a.step) (high : a.step ≤ 15) (start : a.start ≤ Config.maxBlock)
    (run : a.run ≤ 255) : decodeAnnounce a.tag (packAnnounce a) (0#3 ++ BitVec.ofInt 5 a.step) (BitVec.ofNat 32 a.start)
      (BitVec.ofNat 8 a.run) = some a := by
  obtain ⟨stream, layer, intent⟩ := packAnnounce_fields a
  simp only [decodeAnnounce, intent, decodeIntent_encodeIntent, decodeBlock_encoded start, stream, layer, step_encoded low high,
    BitVec.toNat_ofNat]
  rw [Nat.mod_eq_of_lt (by omega)]

theorem decodeQuality_encoded {block : Nat} {beta : Int} (layer : LayerNo) (within : block ≤ Config.maxBlock) (low : -128 ≤ beta)
    (high : beta ≤ 127) : decodeQuality (0#6 ++ BitVec.ofFin (w := 2) layer) (BitVec.ofNat 32 block) (BitVec.ofInt 8 beta) =
      some (.quality layer block beta) := by
  have value : (BitVec.ofInt 8 beta).toInt = beta := BitVec.toInt_ofInt_eq_self (by decide) (by omega) (by omega)
  rw [decodeQuality, decodeBlock_encoded within, layer_encoded, value, Option.map_some]

/-! ### Malformed frames (R58) -/

/-- A frame of none of the three types, of a wrong length or with a field outside its range decodes to nothing. -/
theorem decodeFrame_malformed {bytes : List Byte} {whole : Bool} (h : whole = false ∨
    (bytes.head? ≠ some 0x11#8 ∧ bytes.head? ≠ some 0x12#8 ∧ bytes.head? ≠ some 0x13#8) ∨
    (bytes.head? = some 0x11#8 ∧ (bytes.length ≠ 9 ∨ (bytes.getD 2 0#8).extractLsb' 2 2 = 3#2 ∨ 64 ≤ (bytes.getD 4 0#8).toNat)) ∨
    (bytes.head? = some 0x12#8 ∧ (bytes.length ≠ 2 ∨ (4 ≤ (bytes.getD 1 0#8).toNat ∧ bytes.getD 1 0#8 ≠ 0xFF#8))) ∨
    (bytes.head? = some 0x13#8 ∧ (bytes.length ≠ 7 ∨ 64 ≤ (bytes.getD 2 0#8).toNat))) : decodeFrame bytes whole = none := by
  cases hw : whole with
  | false => rfl
  | true =>
    unfold decodeFrame
    rw [if_pos rfl]
    split
    · next t tag packed step s3 s2 s1 s0 run =>
      split_ifs with announce
      · subst announce
        have bad : packed.extractLsb' 2 2 = 3#2 ∨ 64 ≤ s3.toNat := by simpa [hw, announceType, abortType, qualityType] using h
        rw [AnnounceQueue.decodeAnnounce_malformed (bad.imp_right fun beyond =>
          AnnounceQueue.decodeBlock_eq_none_iff.1 (decodeBlock_beyond beyond))]
        rfl
      · rfl
    · next t scope =>
      split_ifs with abort
      · subst abort
        obtain ⟨beyond, notAll⟩ : 4 ≤ scope.toNat ∧ scope ≠ 0xFF#8 := by simpa [hw, announceType, abortType, qualityType] using h
        rw [StreamsAndGuards.decodeAbort_malformed beyond notAll]
        rfl
      · rfl
    · next t layer b3 b2 b1 b0 beta =>
      split_ifs with quality
      · subst quality
        have beyond : 64 ≤ b3.toNat := by simpa [hw, announceType, abortType, qualityType] using h
        rw [decodeQuality, decodeBlock_beyond beyond]
        rfl
      · rfl
    · rfl

/-! ### The rows (R57 to R59) -/

section
variable {s : State}

theorem endFrame_stale {m : Option LinkMessage} (stale : s.link.staleFrame = true) :
    s.endFrame m = s.withLink { s.link with staleFrame := false } := if_pos stale

theorem endFrame_malformed (fresh : s.link.staleFrame = false) : s.endFrame none = s.raise .linkerr := by
  simp [State.endFrame, fresh, State.malformed]

theorem endFrame_taken {m : LinkMessage} (fresh : s.link.staleFrame = false) : s.endFrame (some m) = s.take m := by
  simp [State.endFrame, fresh]

variable (running : s.inReset = false)
include running

theorem exec_linkFrame_stale {c : Instr} (stale : s.link.staleFrame = true)
    (h : (∃ tag packed stp start run, c = .announce tag packed stp start run) ∨ (∃ scope, c = .abort scope) ∨
      (∃ layer block beta, c = .quality layer block beta) ∨ (∃ bytes whole, c = .malformedMessage bytes whole)) :
    exec c s = .next (s.withLink { s.link with staleFrame := false }) := by
  rcases h with ⟨tag, packed, stp, start, run, rfl⟩ | ⟨scope, rfl⟩ | ⟨layer, block, beta, rfl⟩ | ⟨bytes, whole, rfl⟩ <;>
    exact (exec_running running rfl).trans (congrArg _ (endFrame_stale stale))

theorem exec_malformedMessage {bytes : List Byte} {whole : Bool} (fresh : s.link.staleFrame = false)
    (h : decodeFrame bytes whole = none) : exec (.malformedMessage bytes whole) s = .next (s.raise .linkerr) := by
  have row : exec (.malformedMessage bytes whole) s = .next (s.endFrame (decodeFrame bytes whole)) := exec_running running rfl
  rw [row, h, endFrame_malformed fresh]

theorem exec_replySend : exec .replySend s = .next (s.withLink s.link.nextByte) := exec_running running rfl

end

theorem replyBytes_eq (tag : Byte) (n m block : Nat) (split : Bool) (refusal : RefuseReason) (skip : SkipReason)
    (revocation : RevokeReason) :
    let place := [BitVec.ofNat 8 (block / 16777216), BitVec.ofNat 8 (block / 65536), BitVec.ofNat 8 (block / 256),
      BitVec.ofNat 8 block]
    (Reply.accept tag n split).bytes = [0x21#8, tag, BitVec.ofNat 8 n, if split then 1#8 else 0#8] ∧
    (Reply.refuse tag refusal).bytes = [0x22#8, tag, refusal.byte] ∧
    (Reply.skip none block skip).bytes = [0x23#8, 0#8, 0#8] ++ place ++ [skip.byte] ∧
    (Reply.skip (some tag) block skip).bytes = [0x23#8, 1#8, tag] ++ place ++ [skip.byte] ∧
    (Reply.done tag n m).bytes = [0x24#8, tag, BitVec.ofNat 8 n, BitVec.ofNat 8 m] ∧
    (Reply.revoke tag n revocation).bytes = [0x25#8, tag, BitVec.ofNat 8 n, revocation.byte] := by
  refine ⟨rfl, rfl, ?_, ?_, rfl, rfl⟩ <;> simp only [Reply.bytes, bytes4_eq] <;> rfl

/-! ### QUALITY (R153, R154) -/

section
variable {s : State} {layer : LayerNo} {block : Nat} {beta : Int} {i : ZoneSlot} {d : Int}

theorem quality_uncovered (h : s.lookUp layer block = none) : s.quality layer block beta = s := by
  simp only [State.quality, h]

theorem trimStep_moves (low : -128 ≤ (s.zone i).trim + d) (high : (s.zone i).trim + d ≤ 127) :
    s.trimStep i d = (s.setZone i { s.zone i with trim := (s.zone i).trim + d }).handOn i := if_pos ⟨low, high⟩

theorem trimStep_held (h : (s.zone i).trim + d < -128 ∨ 127 < (s.zone i).trim + d) : s.trimStep i d =
    if (s.zone i).trimLimit then s else (s.setZone i { s.zone i with trimLimit := true }).raise .trimlim :=
  if_neg (by omega)

variable (found : s.lookUp layer block = some i)
include found

theorem quality_ignored (h : (s.zone i).state = .absent ∨ (s.zone i).kind = .lead ∨ (s.zone i).autoTrim = false ∨
    ((s.zone i).target - (s.zone i).deadband ≤ clampInt (-100) 100 beta ∧
      clampInt (-100) 100 beta ≤ (s.zone i).target + (s.zone i).deadband)) : s.quality layer block beta = s := by
  simp only [State.quality, found]
  split
  · rfl
  · next tried =>
    have within : ¬ (clampInt (-100) 100 beta < (s.zone i).target - (s.zone i).deadband) ∧
        ¬ ((s.zone i).target + (s.zone i).deadband < clampInt (-100) 100 beta) := by
      simp only [Bool.not_eq_true, not_or] at tried
      obtain ⟨present, served, auto⟩ := tried
      have range := ((h.resolve_left present).resolve_left served).resolve_left auto
      omega
    rw [if_neg within.1, if_neg within.2]

theorem quality_steps (present : (s.zone i).state ≠ .absent) (served : (s.zone i).kind ≠ .lead) (auto : (s.zone i).autoTrim = true)
    (h : (clampInt (-100) 100 beta < (s.zone i).target - (s.zone i).deadband ∧ d = 1) ∨
      ((s.zone i).target + (s.zone i).deadband < clampInt (-100) 100 beta ∧ d = -1)) :
    s.quality layer block beta = s.trimStep i d := by
  simp only [State.quality, found]
  rw [if_neg (by simp [present, served, auto])]
  rcases h with ⟨below, rfl⟩ | ⟨above, rfl⟩
  · rw [if_pos below]
  · rw [if_neg (by omega), if_pos above]

end

section
variable {s : State} {layer beta : Byte} {block : BitVec 32}

theorem exec_quality_beyond (running : s.inReset = false) (fresh : s.link.staleFrame = false) (h : 1073741823 < block.toNat) :
    exec (.quality layer block beta) s = .next (s.raise .linkerr) := by
  have row : exec (.quality layer block beta) s = .next (s.endFrame (decodeQuality layer block beta)) := exec_running running rfl
  rw [row, decodeQuality, AnnounceQueue.decodeBlock_eq_none_iff.2 h]
  exact congrArg _ (endFrame_malformed fresh)

theorem exec_quality_within (running : s.inReset = false) (fresh : s.link.staleFrame = false) (h : block.toNat ≤ 1073741823) :
    exec (.quality layer block beta) s = .next (s.quality (layer.extractLsb' 0 2).toFin block.toNat beta.toInt) := by
  have row : exec (.quality layer block beta) s = .next (s.endFrame (decodeQuality layer block beta)) := exec_running running rfl
  rw [row, decodeQuality, AnnounceQueue.decodeBlock_eq_some h]
  exact congrArg _ (endFrame_taken fresh)

end

end Sys2Proof.Laws

namespace Sys2Proof.Settled

open Sys2Proof Sys2Proof.Machine Sys2Proof.Laws

/-- Settles O45, message by message: each field is read back from the bytes that carry it. -/
theorem framesDecode : Obligations.FramesDecode := by
  unfold Obligations.FramesDecode
  rintro (a | (_ | n) | ⟨layer, block, beta⟩) wf
  · obtain ⟨low, high, start, run⟩ := of_decide_eq_true wf
    simp only [encodeMessage, encodeBlock, List.cons_append, List.nil_append, decodeFrame, be32_encodeBlock, if_true,
      decodeAnnounce_encoded low high start run, Option.map_some]
  · rfl
  · simp [encodeMessage, decodeFrame, decodeAbort_encoded]
  · obtain ⟨within, low, high⟩ := of_decide_eq_true wf
    simp only [encodeMessage, encodeBlock, List.cons_append, List.nil_append, decodeFrame, be32_encodeBlock, if_true,
      decodeQuality_encoded layer within low high]

/-- Settles O42: the frame is stale, or it decodes to nothing; the next byte by the part-way reply and the store. -/
theorem malformedDiscardedAndRepliesSent : Obligations.MalformedDiscardedAndRepliesSent := by
  unfold Obligations.MalformedDiscardedAndRepliesSent
  refine ⟨fun s c running stale h => exec_linkFrame_stale running stale h,
    fun s bytes whole running fresh h => exec_malformedMessage running fresh (decodeFrame_malformed h), fun s running => ?_,
    replyBytes_eq, rfl, rfl, rfl⟩
  rw [exec_replySend running]
  refine ⟨fun b left partWay => ?_, fun r rest idle stored => ?_, fun idle empty => ?_⟩
  · simp [Link.nextByte, partWay]
  · obtain ⟨b, left, bytes, -⟩ := reply_bytes r
    exact ⟨b, left, bytes, by simp [Link.nextByte, idle, stored, bytes]⟩
  · simp [Link.nextByte, idle, empty, ldoIdle]

/-- Settles O41: the covering slot, then R154's table and the trim's limits. -/
theorem qualitySteps : Obligations.QualitySteps := by
  unfold Obligations.QualitySteps
  intro s layer block beta running fresh disjoint b covers
  have hb : clampInt (-100) 100 beta.toInt = b := clampInt_eq_ite (by decide) _
  refine ⟨exec_quality_beyond running fresh, fun within uncovered => ?_, fun i within covered => ?_⟩
  · rw [exec_quality_within running fresh within, quality_uncovered]
    exact lookUp_eq_none_iff.2 fun i => by
      rw [Bool.eq_false_iff, Ne, covers_iff]
      exact uncovered i
  · intro z
    have found := lookUp_of_covers disjoint (covers_iff.2 covered)
    rw [exec_quality_within running fresh within]
    refine ⟨fun idle => ?_, fun d present served auto away => ?_⟩
    · rw [quality_ignored found (by rw [hb]; exact idle)]
    · rw [quality_steps found present served auto (by rw [hb]; exact away)]
      refine ⟨fun low high => ?_, fun limit => ?_⟩
      · rw [trimStep_moves low high]
        obtain ⟨self, others⟩ := setZone_handOn_zone s i { s.zone i with trim := (s.zone i).trim + d }
        exact ⟨_, rfl, setZone_handOn_frame .., self, others, setZone_handOn_handedOn ..⟩
      · rw [trimStep_held limit]

end Sys2Proof.Settled

/-!
PROOFS. The translation of an entry (R63 to R68): its checks, its cuts, and what its completion does to the queue and the pins.
-/

namespace Sys2Proof.Laws

open Sys2Proof Sys2Proof.Machine

/-! ### The first check that holds -/

/-- The outcome of checks taken in their order: that of the first whose condition holds, if any. -/
inductive Decides {α : Type} : List (Prop × α) → Option α → Prop where
  | holds {c : Prop} {a : α} {rest : List (Prop × α)} : c → Decides ((c, a) :: rest) (some a)
  | passes {c : Prop} {a : α} {rest : List (Prop × α)} {r : Option α} : ¬ c → Decides rest r → Decides ((c, a) :: rest) r
  | none : Decides [] none

section
variable {α : Type} {checks : List (Prop × α)} {r r' : Option α}

theorem Decides.unique (h : Decides checks r) (h' : Decides checks r') : r = r' := by
  induction h with
  | holds c =>
    cases h' with
    | holds _ => rfl
    | passes c' _ => exact absurd c c'
  | passes c _ ih =>
    cases h' with
    | holds c' => exact absurd c' c
    | passes _ rest => exact ih rest
  | none => cases h'; rfl

theorem decides_first {earlier later : List (Prop × α)} {c : Prop} {a : α} (split : checks = earlier ++ (c, a) :: later)
    (before : ∀ p ∈ earlier, ¬ p.1) (h : c) : Decides checks (some a) := by
  subst split
  induction earlier with
  | nil => exact .holds h
  | cons p earlier ih =>
    exact .passes (before p (List.mem_cons_self ..)) (ih fun q hq => before q (List.mem_cons_of_mem _ hq))

theorem decides_none (h : ∀ p ∈ checks, ¬ p.1) : Decides checks none := by
  induction checks with
  | nil => exact .none
  | cons p checks ih => exact .passes (h p (List.mem_cons_self ..)) (ih fun q hq => h q (List.mem_cons_of_mem _ hq))

end

/-- The error of a check, if any. -/
def refusal {ε α : Type} : Except ε α → Option ε
  | .error e => some e
  | .ok _ => none

/-! ### The eight checks (R64) -/

section
variable {s : State} {e : Entry}

theorem writes_iff : e.writes = true ↔ e.intent ≠ .read := by simp [Entry.writes]

theorem writeDenied_iff {z : Zone} {intent : Intent} : writeDenied intent z = true ↔
    (intent = .write ∧ (z.kind = .lead ∨ z.kind = .test ∨ z.state = .closed)) ∨ (intent = .calibrate ∧ z.kind ≠ .test) := by
  cases intent <;> simp [writeDenied]

theorem anyGuard_iff {layer : LayerNo} {b : Nat} : (s.guards.any fun g => g.holds layer b) = true ↔
    ∃ g ∈ s.guards, g.layer = layer ∧ g.first ≤ b ∧ b ≤ g.last := by
  simp [Guard.holds]

/-- A condition of the slot that covers the block. -/
theorem exists_covers_iff (disjoint : s.ZonesDisjoint) {layer : LayerNo} {b : Nat} {i : ZoneSlot} (found : s.lookUp layer b = some i)
    {p : ZoneSlot → Prop} :
    (∃ j, ((s.zone j).inUse = true ∧ (s.zone j).layer = layer ∧ (s.zone j).first ≤ b ∧ b ≤ (s.zone j).last) ∧ p j) ↔ p i := by
  have covers := covers_of_lookUp found
  refine ⟨fun ⟨j, hj, hp⟩ => ?_, fun hp => ⟨i, covers_iff.1 covers, hp⟩⟩
  rw [covers_unique disjoint covers (covers_iff.2 hj)]
  exact hp

theorem none_covers_iff {layer : LayerNo} {b : Nat} : (∀ j, ¬ ((s.zone j).inUse = true ∧ (s.zone j).layer = layer ∧
    (s.zone j).first ≤ b ∧ b ≤ (s.zone j).last)) ↔ s.lookUp layer b = none := by
  rw [lookUp_eq_none_iff]
  refine forall_congr' fun i => ?_
  rw [Bool.eq_false_iff, Ne, covers_iff]

end

/-- The checks of R64 in their order. -/
def translationChecks (s : State) (e : Entry) : List (Prop × RefuseReason) :=
  let covers := fun (b : Nat) (i : ZoneSlot) => (s.zone i).inUse = true ∧ (s.zone i).layer = e.layer ∧
    (s.zone i).first ≤ b ∧ b ≤ (s.zone i).last
  [((s.stream e.stream).mode = .closed, .streamClosed),
   (e.intent ≠ .read ∧ (s.stream e.stream).mode = .playback, .streamMode),
   ((s.layerRecord e.layer).loaded = false, .layerMissing),
   (∀ i, ¬ covers e.start i, .zoneMissing),
   (∃ i, covers e.start i ∧ (s.zone i).state = .absent, .zoneAbsent),
   (∃ i, covers e.start i ∧ ((e.intent = .write ∧
       ((s.zone i).kind = .lead ∨ (s.zone i).kind = .test ∨ (s.zone i).state = .closed)) ∨
     (e.intent = .calibrate ∧ (s.zone i).kind ≠ .test)), .writeDenied),
   (∃ i, covers e.start i ∧ e.intent ≠ .read ∧ (s.zone i).level < (s.stream e.stream).owner, .levelDenied),
   (e.intent ≠ .read ∧ ∃ g ∈ s.guards, g.layer = e.layer ∧ g.first ≤ e.start ∧ e.start ≤ g.last, .guarded)]

theorem translationCheck_decides {s : State} (disjoint : s.ZonesDisjoint) (e : Entry) :
    Decides (translationChecks s e) (refusal (s.translationCheck e)) := by
  unfold State.translationCheck translationChecks
  simp only [writes_iff, Bool.not_eq_true, anyGuard_iff]
  split
  · next h => exact .holds h
  · next h =>
    refine .passes h ?_
    split
    · next h => exact .holds h
    · next h =>
      refine .passes h ?_
      split
      · next h => exact .holds h
      · next h =>
        refine .passes h ?_
        split
        · next found => exact .holds (none_covers_iff.2 found)
        · next i found =>
          refine .passes (by rw [none_covers_iff, found]; nofun) ?_
          simp only [exists_covers_iff disjoint found]
          rw [← writeDenied_iff]
          split
          · next h => exact .holds h
          · next h =>
            refine .passes h ?_
            split
            · next h => exact .holds h
            · next h =>
              refine .passes h ?_
              split
              · next h => exact .holds h
              · next h =>
                refine .passes h ?_
                split
                · next h => exact .holds h
                · next h => exact .passes h .none

/-! ### The cuts (R65 to R67) -/

/-- A listed guard range holds the block. -/
def GuardedBlock (guards : List Guard) (layer : LayerNo) (b : Nat) : Prop :=
  ∃ g ∈ guards, g.layer = layer ∧ g.first ≤ b ∧ b ≤ g.last

/-- The outcome of a search for the first guarded block from a to b. -/
structure FirstGuarded (guards : List Guard) (layer : LayerNo) (a b : Nat) (found : Option Nat) : Prop where
  guarded : ∀ c, found = some c → GuardedBlock guards layer c ∧ a ≤ c ∧ c ≤ b
  first : ∀ b', a ≤ b' → b' ≤ b → GuardedBlock guards layer b' → ∃ c, found = some c ∧ c ≤ b'

section
variable {guards : List Guard} {layer : LayerNo} {a b b' : Nat} {found : Option Nat} {g : Guard}

theorem guardedBlock_snoc : GuardedBlock (guards ++ [g]) layer b ↔
    GuardedBlock guards layer b ∨ (g.layer = layer ∧ g.first ≤ b ∧ b ≤ g.last) := by
  simp [GuardedBlock, or_and_right, exists_or]

/-- A guard range that does not meet the run leaves the search as it was. -/
theorem FirstGuarded.pass (h : FirstGuarded guards layer a b found) (apart : ¬ (g.layer = layer ∧ max a g.first ≤ min b g.last)) :
    FirstGuarded (guards ++ [g]) layer a b found where
  guarded c hc := ⟨guardedBlock_snoc.2 (.inl (h.guarded c hc).1), (h.guarded c hc).2⟩
  first b' above below inside := by
    rcases guardedBlock_snoc.1 inside with before | ⟨onLayer, first, last⟩
    · exact h.first b' above below before
    · exact absurd ⟨onLayer, by omega⟩ apart

/-- A guard range that meets the run is met first at its first block in it. -/
theorem FirstGuarded.meet (h : FirstGuarded guards layer a b found) (onLayer : g.layer = layer)
    (meets : max a g.first ≤ min b g.last) {c : Nat} (sooner : ∀ d, found = some d → c = min d (max a g.first))
    (only : found = none → c = max a g.first) : FirstGuarded (guards ++ [g]) layer a b (some c) := by
  have here : GuardedBlock (guards ++ [g]) layer (max a g.first) ∧ a ≤ max a g.first ∧ max a g.first ≤ b :=
    ⟨guardedBlock_snoc.2 (.inr ⟨onLayer, by omega, by omega⟩), by omega, by omega⟩
  cases found with
  | none =>
    obtain rfl := only rfl
    refine ⟨fun c hc => Option.some.inj hc ▸ here, fun b' above below held => ⟨_, rfl, ?_⟩⟩
    rcases guardedBlock_snoc.1 held with before | ⟨-, first, last⟩
    · obtain ⟨c, hc, -⟩ := h.first b' above below before
      cases hc
    · omega
  | some d =>
    obtain rfl := sooner d rfl
    obtain ⟨before, low, high⟩ := h.guarded d rfl
    refine ⟨fun c hc => ?_, fun b' above below held => ⟨_, rfl, ?_⟩⟩
    · obtain rfl := Option.some.inj hc
      rcases min_choice d (max a g.first) with least | least <;> rw [least]
      · exact ⟨guardedBlock_snoc.2 (.inl before), low, high⟩
      · exact here
    · rcases guardedBlock_snoc.1 held with seen | ⟨-, first, last⟩
      · obtain ⟨c, hc, le⟩ := h.first b' above below seen
        obtain rfl := Option.some.inj hc
        omega
      · omega

theorem firstGuarded_spec (guards : List Guard) (layer : LayerNo) (a b : Nat) :
    FirstGuarded guards layer a b (firstGuarded guards layer a b) := by
  induction guards using List.reverseRecOn with
  | nil => exact ⟨nofun, fun _ _ _ ⟨_, hg, _⟩ => by cases hg⟩
  | append_singleton guards g ih =>
    unfold firstGuarded at ih ⊢
    rw [List.foldl_append, List.foldl_cons, List.foldl_nil]
    split
    · next meets => exact ih.meet meets.1 meets.2 (fun d hd => by rw [hd]) (fun h => by rw [h])
    · next apart => exact ih.pass apart

end

/-- The slot may serve the blocks of the entry that follow its primary zone (R66). -/
def Follows (s : State) (e : Entry) (split : Nat) (j : ZoneSlot) : Prop :=
  ((s.zone j).inUse = true ∧ (s.zone j).layer = e.layer ∧ (s.zone j).first ≤ split ∧ split ≤ (s.zone j).last) ∧
    (s.zone j).state ≠ .absent ∧
    ¬ ((e.intent = .write ∧ ((s.zone j).kind = .lead ∨ (s.zone j).kind = .test ∨ (s.zone j).state = .closed)) ∨
      (e.intent = .calibrate ∧ (s.zone j).kind ≠ .test)) ∧
    ¬ (e.intent ≠ .read ∧ (s.zone j).level < (s.stream e.stream).owner)

section
variable {s : State} {e : Entry} {i : ZoneSlot}

theorem secondaryFor_eq_some_iff (disjoint : s.ZonesDisjoint) {split : Nat} {j : ZoneSlot} :
    s.secondaryFor e split = some j ↔ Follows s e split j := by
  unfold State.secondaryFor
  rw [Option.filter_eq_some_iff]
  dsimp only
  have serves : (decide ((s.zone j).state ≠ .absent) && !writeDenied e.intent (s.zone j) &&
      (!e.writes || decide ((s.stream e.stream).owner ≤ (s.zone j).level))) = true ↔ (s.zone j).state ≠ .absent ∧
      ¬ writeDenied e.intent (s.zone j) = true ∧ ¬ (e.writes = true ∧ (s.zone j).level < (s.stream e.stream).owner) := by
    cases e.writes <;> simp [and_assoc]
  rw [serves, writeDenied_iff, writes_iff]
  refine and_congr_left' ⟨fun found => covers_iff.1 (covers_of_lookUp found),
    fun covers => lookUp_of_covers disjoint (covers_iff.2 covers)⟩

/-- The run goes past its primary zone, and no descriptor may serve what follows (R66). -/
def CutAtZone (s : State) (e : Entry) (i : ZoneSlot) : Prop :=
  (s.zone i).last + 1 < e.start + min e.requested (1073741824 - e.start) ∧ ¬ ∃ j, Follows s e ((s.zone i).last + 1) j

/-- What the cuts leave of a run, whose length within the block space and the zones is `toZone` (R65 to R67). -/
structure RunCut (s : State) (e : Entry) (i : ZoneSlot) (toZone : Nat) (m : Translated) : Prop where
  primary : m.primary = i
  within : m.run ≤ toZone
  unguarded : e.intent ≠ .read → ∀ b, e.start ≤ b → b < e.start + m.run → ¬ GuardedBlock s.guards e.layer b
  guarded : m.run < toZone → e.intent ≠ .read ∧ GuardedBlock s.guards e.layer (e.start + m.run)
  secondary : ∀ j b, m.secondary = some (j, b) ↔
    b = (s.zone i).last + 1 ∧ Follows s e ((s.zone i).last + 1) j ∧ (s.zone i).last + 1 < e.start + m.run

/-- The run within the block space and the zones, before the guards are looked at (R65, R66). -/
def zoneRun (s : State) (e : Entry) (i : ZoneSlot) : Translated :=
  let run1 := min e.requested (Config.maxBlock + 1 - e.start)
  let last := (s.zone i).last
  if e.start + run1 ≤ last + 1 then ⟨run1, i, none⟩
  else match s.secondaryFor e (last + 1) with
    | some j => ⟨run1, i, some (j, last + 1)⟩
    | none => ⟨last + 1 - e.start, i, none⟩

theorem zoneRun_spec (disjoint : s.ZonesDisjoint) (covered : e.start ≤ (s.zone i).last) :
    (zoneRun s e i).primary = i ∧
    (CutAtZone s e i → (zoneRun s e i).run = (s.zone i).last + 1 - e.start) ∧
    (¬ CutAtZone s e i → (zoneRun s e i).run = min e.requested (1073741824 - e.start)) ∧
    ∀ j b, (zoneRun s e i).secondary = some (j, b) ↔
      b = (s.zone i).last + 1 ∧ Follows s e ((s.zone i).last + 1) j ∧ (s.zone i).last + 1 < e.start + (zoneRun s e i).run := by
  unfold CutAtZone
  simp only [← secondaryFor_eq_some_iff disjoint]
  unfold zoneRun
  have space : min e.requested (Config.maxBlock + 1 - e.start) = min e.requested (1073741824 - e.start) := rfl
  rw [space]
  generalize min e.requested (1073741824 - e.start) = within
  dsimp only
  split
  · next fits => simp [Nat.not_lt.2 fits]
  · next longer =>
    have long : (s.zone i).last + 1 < e.start + within := Nat.not_le.1 longer
    split
    · next j found => simp [found, long, and_comm, eq_comm]
    · next found =>
      have toEnd : e.start + ((s.zone i).last + 1 - e.start) = (s.zone i).last + 1 := by omega
      simp [found, long]

theorem cutRun_eq (s : State) (e : Entry) (i : ZoneSlot) : s.cutRun e i =
    if e.writes then
      match firstGuarded s.guards e.layer e.start (e.start + (zoneRun s e i).run - 1) with
      | some g => ⟨g - e.start, i, (zoneRun s e i).secondary.filter fun p => p.2 < g⟩
      | none => zoneRun s e i
    else zoneRun s e i := rfl

theorem cutRun_cut (disjoint : s.ZonesDisjoint) (covered : e.start ≤ (s.zone i).last) {toZone : Nat}
    (cut : CutAtZone s e i → toZone = (s.zone i).last + 1 - e.start)
    (whole : ¬ CutAtZone s e i → toZone = min e.requested (1073741824 - e.start)) : RunCut s e i toZone (s.cutRun e i) := by
  obtain ⟨primary, atZone, inZone, secondary⟩ := zoneRun_spec (e := e) disjoint covered
  obtain rfl : toZone = (zoneRun s e i).run := by
    by_cases h : CutAtZone s e i
    · rw [cut h, atZone h]
    · rw [whole h, inZone h]
  have kept (reads : e.intent ≠ .read →
      ∀ b, e.start ≤ b → b < e.start + (zoneRun s e i).run → ¬ GuardedBlock s.guards e.layer b) :
      RunCut s e i (zoneRun s e i).run (zoneRun s e i) :=
    ⟨primary, le_rfl, reads, fun short => absurd short (lt_irrefl _), secondary⟩
  rw [cutRun_eq]
  split
  · next writes =>
    have search := firstGuarded_spec s.guards e.layer e.start (e.start + (zoneRun s e i).run - 1)
    split
    · next g found =>
      obtain ⟨guarded, low, high⟩ := search.guarded g found
      have atGuard : e.start + (g - e.start) = g := by omega
      refine ⟨rfl, by dsimp only; omega, fun _ b above below held => ?_, fun _ => ⟨writes_iff.1 writes, ?_⟩, fun j b => ?_⟩
      · dsimp only at below
        obtain ⟨c, hc, le⟩ := search.first b above (by omega) held
        obtain rfl := Option.some.inj (found.symm.trans hc)
        omega
      · dsimp only
        rw [atGuard]
        exact guarded
      · dsimp only
        rw [Option.filter_eq_some_iff, secondary, atGuard, decide_eq_true_iff]
        constructor
        · rintro ⟨⟨rfl, follows, -⟩, before⟩
          exact ⟨rfl, follows, before⟩
        · rintro ⟨rfl, follows, before⟩
          exact ⟨⟨rfl, follows, by omega⟩, before⟩
    · next found =>
      refine kept fun _ b above below held => ?_
      obtain ⟨c, hc, -⟩ := search.first b above (by omega) held
      rw [found] at hc
      cases hc
  · next reads => exact kept fun writes => absurd (writes_iff.2 writes) reads

end

end Sys2Proof.Laws

/-!
PROOFS. What the completion of a translation does (R63, R64, R68, R85).
-/

namespace Sys2Proof.Laws

open Sys2Proof Sys2Proof.Machine

/-! ### One more part of a change of the queue -/

section
variable {named : List ZoneSlot} {told : List Reply} {s u v : State} {r : Reply} {p : Entry → Bool}

theorem after_congr_queue {u' : State} (queue : u'.queue = u.queue) (r : BlockRecord) : r.after s u' = r.after s u := by
  unfold BlockRecord.after
  rw [queue]

/-- The block in service is as it was when its entry has not left, and is untouched if Current. -/
theorem after_of_stays {r : BlockRecord} (stays : ∀ e ∈ s.queue, r.isOf e = true → ∃ f ∈ u.queue, f.tag = e.tag)
    (current : ∀ e ∈ s.queue, r.isOf e = true → e.state = .current → e ∈ u.queue) : r.after s u = r := by
  have present : (s.queue.any fun e => r.isOf e && !(u.queue.any fun f => f.tag == e.tag)) = false :=
    List.any_eq_false.2 fun e he held => by
      simp only [Bool.and_eq_true, Bool.not_eq_true', List.any_eq_false] at held
      obtain ⟨mine, gone⟩ := held
      obtain ⟨f, hf, tag⟩ := stays e he mine
      exact gone f hf (by simp [tag])
  have uncut : (s.queue.any fun e => r.isOf e && decide (e.state = .current ∧ e.next < e.stop) && !u.queue.contains e &&
      u.queue.any fun f => f.tag == e.tag && decide (f.stop ≤ f.next)) = false :=
    List.any_eq_false.2 fun e he held => by
      simp only [Bool.and_eq_true, Bool.not_eq_true', decide_eq_true_eq] at held
      obtain ⟨⟨⟨mine, isCurrent, -⟩, absent⟩, -⟩ := held
      have mem : u.queue.contains e = true := List.contains_iff_mem.2 (current e he mine isCurrent)
      rw [absent] at mem
      cases mem
  unfold BlockRecord.after
  rw [present, uncut]
  simp

theorem Trimmed.produce (h : Trimmed named told s u) (quiet : r.isRevoke = false) : Trimmed named (told ++ [r]) s (u.produce r) where
  zones j hj := by rw [zone_congr (produce_zones ..)]; exact h.zones j hj
  strategies k := by rw [strategy_congr (produce_strategies ..)]; exact h.strategies k
  levels := (produce_levels ..).trans h.levels
  pickup := (produce_pickup ..).trans h.pickup
  gate := by
    rw [produce_gate, h.gate]
    simp only [after_congr_queue (produce_queue u r)]
  replies := stored_trans h.replies (produce_told u r).1
  alert := by
    refine alertRaised_congr (alertRaised_trans h.alert (produce_told u r).2) fun f => ?_
    simp only [zone_congr (produce_zones u r), drops_append [r] h.replies, List.any_append, List.any_cons, quiet, List.any_nil,
      Bool.or_false, Bool.and_or_distrib_left, Bool.or_assoc]
  others := by simpa using h.others

theorem Trimmed.after_raise (h : Trimmed named told s u) (f : RequestFlag) : Trimmed named told (s.raise f) (u.raise f) where
  zones := h.zones
  strategies := h.strategies
  levels := h.levels
  pickup := h.pickup
  gate := h.gate
  replies := h.replies
  alert := alertRaised_after_raise h.alert f
  others := h.others

/-- The slots freed by two changes, one after the other. -/
theorem anyFreed_trans
    (first : ∀ j, (u.zone j).state = (s.zone j).state ∨ (s.zone j).state = .retiring ∧ (u.zone j).state = .free)
    (second : ∀ j, (v.zone j).state = (u.zone j).state ∨ (u.zone j).state = .retiring ∧ (v.zone j).state = .free) :
    ((zoneSlots.any fun j => decide ((s.zone j).state = .retiring ∧ (u.zone j).state = .free)) ||
      zoneSlots.any fun j => decide ((u.zone j).state = .retiring ∧ (v.zone j).state = .free)) =
    zoneSlots.any fun j => decide ((s.zone j).state = .retiring ∧ (v.zone j).state = .free) := by
  rw [Bool.eq_iff_iff, Bool.or_eq_true, anyFreed_iff, anyFreed_iff, anyFreed_iff, ← exists_or]
  refine exists_congr fun j => ?_
  have atFirst := first j
  have atSecond := second j
  constructor
  · rintro (⟨retiring, free⟩ | ⟨retiring, free⟩)
    · exact ⟨retiring, by simpa [free] using atSecond⟩
    · exact ⟨atFirst.elim (fun same => same.symm.trans retiring) And.left, free⟩
  · rintro ⟨retiring, free⟩
    rcases atFirst with same | ⟨-, freed⟩
    · exact .inr ⟨same.trans retiring, free⟩
    · exact .inl ⟨retiring, freed⟩

theorem Trimmed.state (h : Trimmed [] told s u) (j : ZoneSlot) :
    (u.zone j).state = (s.zone j).state ∨ (s.zone j).state = .retiring ∧ (u.zone j).state = .free := by
  rcases (h.zones j (List.not_mem_nil)).2 with kept | ⟨retiring, freed⟩
  · exact .inl (by rw [kept])
  · exact .inr ⟨retiring, by rw [freed]; rfl⟩

/-- Translations are removed after what a change has done so far. -/
theorem Trimmed.dropped (h : Trimmed [] told s u) (d : PinsDropped u v) (levels : v.levels = u.levels) (pickup : v.pickup = u.pickup)
    (link : v.link = u.link)
    (gate : v.gate = { s.gate with record := s.gate.record.map fun r => r.after s v })
    (others : v.inReset = u.inReset ∧ v.guards = u.guards ∧ v.streams = u.streams ∧ v.writePath = u.writePath ∧
      v.laser = u.laser ∧ v.monitor = u.monitor ∧ v.port = u.port ∧ v.pending = u.pending) : Trimmed [] told s v := by
  refine ⟨fun j hj => ?_, fun k => ?_, levels.trans h.levels, pickup.trans h.pickup, gate, ?_, ?_, ?_⟩
  · obtain ⟨le₁, cases₁⟩ := h.zones j hj
    obtain ⟨le₂, cases₂⟩ := d.zones j
    refine ⟨le₂.trans le₁, ?_⟩
    rcases cases₁ with kept₁ | ⟨retiring, freed₁⟩
    · rcases cases₂ with kept₂ | ⟨retiring, freed₂⟩
      · exact .inl (by rw [kept₂, kept₁])
      · exact .inr ⟨by rw [kept₁] at retiring; exact retiring, freed₂⟩
    · rcases cases₂ with kept₂ | ⟨-, freed₂⟩
      · have noPins : (v.zone j).pins = 0 := by simpa [freed₁, Zone.freeContent] using le₂
        exact .inr ⟨retiring, by rw [kept₂, noPins, freed₁]; rfl⟩
      · exact .inr ⟨retiring, freed₂⟩
  · obtain ⟨kept₁, le₁⟩ := h.strategies k
    obtain ⟨kept₂, le₂⟩ := d.strategies k
    exact ⟨by rw [kept₂, kept₁], le₂.trans le₁⟩
  · unfold Stored
    rw [link]
    exact h.replies
  · refine alertRaised_congr (alertRaised_trans h.alert d.alert) fun f => ?_
    simp only [List.contains_nil, Bool.not_false, Bool.true_and]
    rw [← anyFreed_trans h.state d.state, Bool.and_or_distrib_left, Bool.or_right_comm, Bool.or_assoc (decide (f = .revoke) && _)]
  · obtain ⟨inReset, guards, streams, writePath, laser, monitor, port, pending⟩ := h.others
    obtain ⟨inReset', guards', streams', writePath', laser', monitor', port', pending'⟩ := others
    exact ⟨inReset'.trans inReset, guards'.trans guards, streams'.trans streams, writePath'.trans writePath, laser'.trans laser,
      monitor'.trans monitor, port'.trans port, pending'.trans pending⟩

/-- Entries leave after what a change has done so far. -/
theorem Trimmed.removeEntries (h : Trimmed [] told s u)
    (gate : (u.removeEntries p).gate = { s.gate with record := s.gate.record.map fun r => r.after s (u.removeEntries p) }) :
    Trimmed [] told s (u.removeEntries p) :=
  h.dropped (removeEntries_pinsDropped u p) (removeEntries_levels ..) (removeEntries_pickup ..) (removeEntries_link ..) gate (by simp)

/-- Entries leave with no reply. -/
theorem removeEntries_trimmed (s : State) (tags : ∀ e f : Entry, e.tag = f.tag → p e = p f) : Trimmed [] [] s (s.removeEntries p) := by
  have trimmed := removal_trimmed s (rs := []) nofun tags
  have quiet : s.produceRevokes [] = s := rfl
  rwa [quiet] at trimmed

end

/-! ### Pins of an accepted entry (R5, R68) -/

section
variable (s : State) (is : List ZoneSlot)

theorem pins_eq : is.foldl State.pin s = s.withZones (is.foldl State.pin s).zones := by
  induction is generalizing s with
  | nil => rfl
  | cons i is ih => exact ih (s.pin i)

theorem pins_zone (j : ZoneSlot) :
    (is.foldl State.pin s).zone j = { s.zone j with pins := (s.zone j).pins + is.count j } := by
  induction is generalizing s with
  | nil => rfl
  | cons i is ih =>
    rw [List.foldl_cons, ih, List.count_cons, State.pin, setZone_zone]
    by_cases same : j = i
    · subst same
      simp
      omega
    · simp [Ne.symm same]

end

/-! ### The completion (R64, R68, R85) -/

section
variable {s : State} {e : Entry}

theorem exec_translationComplete (running : s.inReset = false) (ordered : s.QueueOrdered)
    (oldest : s.queue.find? (fun f => decide (f.state = .waiting)) = some e) :
    exec .translationComplete s = .next (s.completeTranslation e) := by
  obtain ⟨mem, waiting⟩ := waiting_of_oldest oldest
  have inFlight : s.translating = some e.tag := by rw [ordered.translator, oldest]; rfl
  refine (exec_running running rfl).trans ?_
  simp only [inFlight]
  split
  · next f found =>
    obtain ⟨tag, -⟩ : f.tag = e.tag ∧ f.state = .waiting := by simpa using List.find?_some found
    rw [eq_of_tag ordered.tags (List.mem_of_find?_eq_some found) mem tag]
  · next none =>
    have absent := List.find?_eq_none.1 none e mem
    simp [waiting] at absent

theorem completeTranslation_refused {reason : RefuseReason} (h : s.translationCheck e = .error reason) :
    (s.completeTranslation e).queue = (s.queue.filter fun f => f.tag != e.tag) ∧
    TriggerFrame [] [.refuse e.tag reason] (s.raise .refuse) (s.completeTranslation e) := by
  have eq : s.completeTranslation e =
      (((s.removeEntries fun f => f.tag == e.tag).produce (.refuse e.tag reason)).raise .refuse).queueChanged := by
    simp only [State.completeTranslation, State.translate, h]
    rfl
  have tags : ∀ f g : Entry, f.tag = g.tag → (f.tag == e.tag) = (g.tag == e.tag) := fun f g same => by rw [same]
  rw [eq]
  refine ⟨?_, (((removeEntries_trimmed s tags).produce rfl).after_raise .refuse).triggerFrame⟩
  simp
  rfl

/-- The entry as an accepted translation leaves it, and its reply. -/
def acceptedState (s : State) (e : Entry) (m : Translated) : State :=
  (((e.accept m).slots.foldl State.pin s).replaceEntry (e.accept m)).produce (.accept e.tag m.run m.secondary.isSome)

theorem acceptEntry_eq (s : State) (e : Entry) (m : Translated) : s.acceptEntry e m =
    if (e.accept m).remaining = 0 ∧ ¬ s.inService e = true then (acceptedState s e m).complete (e.accept m)
    else acceptedState s e m := by
  have service : (acceptedState s e m).inService (e.accept m) = s.inService e := by
    simp [State.inService, acceptedState, BlockRecord.isOf, Entry.accept]
  rw [← service]
  rfl

/-- A replaced entry keeps its tag; a Current entry is not the one replaced. -/
theorem after_replaceEntry {e' : Entry} (tags : (s.queue.map Entry.tag).Nodup) (mem : e ∈ s.queue) (waiting : e.state = .waiting)
    (tag : e'.tag = e.tag) (r : BlockRecord) : r.after s (s.replaceEntry e') = r := by
  refine after_of_stays (fun f hf _ => ?_) fun f hf _ current => ?_
  · refine ⟨_, List.mem_map.2 ⟨f, hf, rfl⟩, ?_⟩
    split
    · next same => exact same.symm
    · rfl
  · refine List.mem_map.2 ⟨f, hf, if_neg fun same => ?_⟩
    rw [eq_of_tag tags hf mem (same.trans tag), waiting] at current
    cases current

theorem replaceEntry_trimmed {e' : Entry} (tags : (s.queue.map Entry.tag).Nodup) (mem : e ∈ s.queue) (waiting : e.state = .waiting)
    (tag : e'.tag = e.tag) : Trimmed [] [] s (s.replaceEntry e') :=
  { trimmed_refl s with
    gate := by
      simp only [replaceEntry_gate, after_replaceEntry tags mem waiting tag]
      simp }

theorem acceptedState_trimmed (ordered : s.QueueOrdered) (mem : e ∈ s.queue) (waiting : e.state = .waiting) (m : Translated) :
    Trimmed [] [.accept e.tag m.run m.secondary.isSome] ((e.accept m).slots.foldl State.pin s) (acceptedState s e m) := by
  have tags : (((e.accept m).slots.foldl State.pin s).queue.map Entry.tag).Nodup := by
    rw [pins_queue]
    exact ordered.tags
  exact (replaceEntry_trimmed (e' := e.accept m) tags (by rw [pins_queue]; exact mem) waiting rfl).produce
    (r := .accept e.tag m.run m.secondary.isSome) rfl

theorem acceptedState_queue (s : State) (e : Entry) (m : Translated) :
    (acceptedState s e m).queue = s.queue.map fun f => if f.tag = e.tag then e.accept m else f := by
  simp only [acceptedState, State.replaceEntry, produce_queue, withQueue_queue, pins_queue]
  rfl

theorem filter_replaced (q : List Entry) {tag : Byte} {e' : Entry} (h : e'.tag = tag) :
    ((q.map fun f => if f.tag = tag then e' else f).filter fun f => f.tag != tag) = q.filter fun f => f.tag != tag := by
  induction q with
  | nil => rfl
  | cons f q ih =>
    by_cases same : f.tag = tag
    · simp [same, h, ih]
    · simp [same, ih]

theorem complete_accepted_queue (s : State) (e : Entry) (m : Translated) :
    ((acceptedState s e m).complete (e.accept m)).queue = s.queue.filter fun f => f.tag != e.tag := by
  rw [complete_queue, acceptedState_queue]
  exact filter_replaced s.queue rfl

/-- The block in service when an entry that is not in service has completed. -/
theorem complete_accepted_gate (idle : s.inService e = false) (m : Translated) :
    ((acceptedState s e m).complete (e.accept m)).gate = { s.gate with
      record := s.gate.record.map fun r => r.after ((e.accept m).slots.foldl State.pin s)
        ((acceptedState s e m).complete (e.accept m)) } := by
  have gate : (acceptedState s e m).gate = s.gate := by simp [acceptedState]
  cases hr : s.gate.record with
  | none =>
    rw [State.complete, removeEntries_gate, produce_gate, gate, hr]
    rfl
  | some r =>
    have other : ∀ f : Entry, r.isOf f = true → f.tag ≠ e.tag := fun f mine same => by
      have notMine : r.isOf e = false := by rw [← idle, inService_of_record hr]
      rw [BlockRecord.isOf, ← same] at notMine
      rw [BlockRecord.isOf, notMine] at mine
      cases mine
    have stays : ∀ f ∈ s.queue, r.isOf f = true → f ∈ ((acceptedState s e m).complete (e.accept m)).queue := fun f hf mine => by
      rw [complete_accepted_queue]
      exact List.mem_filter.2 ⟨hf, by simpa using other f mine⟩
    have kept : r.after ((e.accept m).slots.foldl State.pin s) ((acceptedState s e m).complete (e.accept m)) = r :=
      after_of_stays (fun f hf mine => ⟨f, stays f (pins_queue s _ ▸ hf) mine, rfl⟩)
        fun f hf mine _ => stays f (pins_queue s _ ▸ hf) mine
    have noneGone : ∀ q : List Entry, (q.any fun f => f.tag == (e.accept m).tag && r.isOf f) = false := fun q =>
      List.any_eq_false.2 fun f _ held => by
        obtain ⟨tag, mine⟩ := Bool.and_eq_true_iff.1 held
        exact other f mine (beq_iff_eq.1 tag)
    rw [Option.map_some, kept, State.complete, removeEntries_gate, produce_gate, gate, hr, Option.map_some, noneGone]
    simp

/-- An accepted entry that is used up and not in service leaves at once (R85). -/
theorem acceptedState_leaves (ordered : s.QueueOrdered) (mem : e ∈ s.queue) (waiting : e.state = .waiting)
    (idle : s.inService e = false) (m : Translated) :
    Trimmed [] [.accept e.tag m.run m.secondary.isSome, .done e.tag e.served e.skipped]
      ((e.accept m).slots.foldl State.pin s) ((acceptedState s e m).complete (e.accept m)) := by
  have told := (acceptedState_trimmed ordered mem waiting m).produce (r := .done e.tag e.served e.skipped) rfl
  refine told.removeEntries ?_
  rw [pins_gate]
  exact complete_accepted_gate idle m

theorem error_of_refusal {ε α : Type} {x : Except ε α} {a : ε} (h : refusal x = some a) : x = .error a := by
  cases x with
  | error b => rw [Option.some.inj h]
  | ok b => cases h

theorem ok_of_refusal {ε α : Type} {x : Except ε α} (h : refusal x = none) : ∃ a, x = .ok a := by
  cases x with
  | error b => cases h
  | ok b => exact ⟨b, rfl⟩

theorem completeTranslation_accepted {i : ZoneSlot} (h : s.translationCheck e = .ok i) :
    s.completeTranslation e = (s.acceptEntry e (s.cutRun e i)).queueChanged := by
  simp only [State.completeTranslation, State.translate, h]

/-- The secondary slot covers a block beyond the primary one's last, so the two differ. -/
theorem accept_slots_nodup {i : ZoneSlot} {toZone : Nat} {m : Translated} (cut : RunCut s e i toZone m) :
    (e.accept m).slots.Nodup := by
  have primary := cut.primary
  cases second : m.secondary with
  | none => simp [Entry.slots, Entry.accept, second]
  | some p =>
    obtain ⟨-, ⟨covers, -⟩, -⟩ := (cut.secondary p.1 p.2).1 second
    obtain ⟨-, -, -, last⟩ := covers
    have differ : i ≠ p.1 := fun same => by
      rw [← same] at last
      omega
    simpa [Entry.slots, Entry.accept, second, primary] using differ

theorem pins_zone_of_nodup {is : List ZoneSlot} (distinct : is.Nodup) (j : ZoneSlot) :
    (is.foldl State.pin s).zone j = { s.zone j with pins := (s.zone j).pins + if is.contains j then 1 else 0 } := by
  rw [pins_zone, List.Nodup.count distinct]
  simp only [List.contains_iff_mem]

end

end Sys2Proof.Laws

namespace Sys2Proof.Settled

open Sys2Proof Sys2Proof.Machine Sys2Proof.Laws

/-- Settles O43: the first failing check refuses; else the cuts, the pins, and the entry stays or leaves with DONE. -/
theorem translationDecides : Obligations.TranslationDecides := by
  unfold Obligations.TranslationDecides
  intro s e running ordered disjoint oldest covers writes unwritable above guarded checks
  have row := exec_translationComplete running ordered oldest
  obtain ⟨mem, waiting⟩ := waiting_of_oldest oldest
  have decided := translationCheck_decides disjoint e
  refine ⟨fun earlier c reason later split before holds => ?_, fun passes => ?_⟩
  · have refused := decided.unique (decides_first (checks := translationChecks s e) split before holds)
    exact ⟨_, row, completeTranslation_refused (error_of_refusal refused)⟩
  · obtain ⟨i, ok⟩ := ok_of_refusal (decided.unique (decides_none (checks := translationChecks s e) passes))
    have covered : covers e.start i := covers_iff.1 (covers_of_lookUp (Pins.translationCheck_lookUp ok))
    have cut := fun toZone => cutRun_cut (toZone := toZone) disjoint covered.2.2.2
    have primary := (Pins.cutRun_slots s e i).1
    rw [completeTranslation_accepted ok, acceptEntry_eq] at row
    generalize s.cutRun e i = m at row cut primary
    obtain ⟨run, slot, second⟩ := m
    obtain rfl : slot = i := primary
    refine ⟨_, (e.accept ⟨run, slot, second⟩).slots.foldl State.pin s, slot, second, run, row, covered, ?_, ?_⟩
    · intro within split follows toZone
      obtain ⟨-, inZone, unguarded, cutByGuard, secondary⟩ := cut toZone (fun h => if_pos h) fun h => if_neg h
      exact ⟨inZone, unguarded, cutByGuard, secondary⟩
    · intro e'
      have distinct : (e.accept ⟨run, slot, second⟩).slots.Nodup := by
        by_cases h : CutAtZone s e slot
        · exact accept_slots_nodup (cut _ (fun _ => rfl) fun n => absurd h n)
        · exact accept_slots_nodup (cut _ (fun y => absurd y h) fun _ => rfl)
      have usedUp : (e.accept ⟨run, slot, second⟩).remaining = 0 ↔ e.start + run ≤ e.next := Nat.sub_eq_zero_iff_le
      refine ⟨pins_eq .., pins_zone_of_nodup distinct, fun stays => ?_, fun used idle => ?_⟩
      · rw [if_neg (by rw [usedUp]; rcases stays with left | held <;> simp [*])]
        refine ⟨?_, ?_, (acceptedState_trimmed ordered mem waiting ⟨run, slot, second⟩).triggerFrame⟩
        · rw [queueChanged_queue, acceptedState_queue]
          rfl
        · simp [acceptedState]
      · rw [if_pos ⟨usedUp.2 used, by simp [idle]⟩, queueChanged_queue, complete_accepted_queue]
        exact ⟨rfl, (acceptedState_leaves ordered mem waiting idle ⟨run, slot, second⟩).triggerFrame⟩

end Sys2Proof.Settled

/-!
PROOFS. The completions of the level computer's two computations (R33, R41, R42, R44), the write path (R52 to R55) and the output
monitor's samples (R144 to R147).
-/

namespace Sys2Proof.Laws

open Sys2Proof Sys2Proof.Machine

/-! ### The two computations -/

section
variable {s : State} {i : IdleInputs}

/-- The state after an idle computation, before its set is used. -/
def idleComputed (s : State) (i : IdleInputs) : State :=
  s.withLevels { s.levels with idleSet := some (idleSetOf i), idleComp := s.nextIdleComputation, idleAgain := false }

theorem exec_idleComputationComplete (running : s.inReset = false) (h : s.levels.idleComp = some i) :
    exec .idleComputationComplete s = .next ((idleComputed s i).useIdleSet (idleSetOf i)) := by
  refine (exec_running running rfl).trans ?_
  simp only [h]
  rfl

theorem nextIdleComputation_early (again : s.levels.idleAgain = true)
    (early : s.laser.state = .standby ∨ (s.laser.state = .idle ∧ s.levels.servedSinceOn = false)) :
    s.nextIdleComputation = some s.idleInputs := if_pos (by simpa [again] using early)

theorem nextIdleComputation_none (h : s.levels.idleAgain = false ∨
    ¬ (s.laser.state = .standby ∨ (s.laser.state = .idle ∧ s.levels.servedSinceOn = false))) : s.nextIdleComputation = none := by
  refine if_neg fun ⟨again, early⟩ => ?_
  rcases h with quiet | late
  · simp [quiet] at again
  · exact late (by simpa using early)

theorem useIdleSet_standby (set : IdleSet) (standby : s.laser.state = .standby) :
    s.useIdleSet set = (s.drive set.standby .read).raiseIf set.standbyClamp .iclamp := if_pos standby

theorem useIdleSet_idle (set : IdleSet) (idle : s.laser.state = .idle) (early : s.levels.servedSinceOn = false) :
    s.useIdleSet set = s.formReadDrive := by
  simp [State.useIdleSet, idle, early]

theorem useIdleSet_late (set : IdleSet)
    (late : ¬ (s.laser.state = .standby ∨ (s.laser.state = .idle ∧ s.levels.servedSinceOn = false))) : s.useIdleSet set = s := by
  rw [not_or] at late
  rw [State.useIdleSet, if_neg late.1, if_neg (by simpa using late.2)]

theorem readInUse_idleSet {set : IdleSet} (idle : s.laser.state ≠ .reading) (early : s.levels.servedSinceOn = false)
    (h : s.levels.idleSet = some set) : s.readInUse = some (set.readCurrent, set.power) := by
  simp [State.readInUse, idle, early, h]

end

/-! ### The write path (R52 to R55, R146) -/

section
variable {w : WritePath} {s : State} {fmon : MonitorCode} {marks : List (Option Nat)} {n : Nat}

theorem shapedLength_eq (n : Nat) : shapedLength n = if n < 2 then 2 else if 9 < n then 9 else n := by
  unfold shapedLength
  split_ifs <;> omega

theorem classifyLast_open (older : List (Option Nat)) (n : Nat) :
    classifyLast (older ++ [none]) n = older ++ [some (shapedLength n)] := by
  simp [classifyLast]

theorem classifyLast_closed (h : marks.getLast? ≠ some none) (n : Nat) : classifyLast marks n = marks := by
  unfold classifyLast
  split
  · next rest reversed =>
    rw [List.getLast?_eq_head?_reverse, reversed] at h
    exact absurd rfl h
  · rfl

theorem patternSteps_eq (r : StrategyRecord) (low : 2 ≤ n) :
    patternSteps r n =
      (let c := if n = 2 then r.c2 else if n = 3 then r.c3 else if n = 4 then r.c4 else r.c5
       let pulses := if n ≤ 3 then 0 else if n = 4 then 1 else n - 3
       let pattern : List PatternStep := [⟨.bottom, c.dF⟩, ⟨.peak, c.wF⟩] ++
         (List.replicate pulses [PatternStep.mk .peak c.wM, ⟨.bottom, 16 - c.wM⟩]).flatten ++
         (if 3 ≤ n then [⟨.peak, c.wL⟩] else []) ++ [⟨.bottom, c.wC⟩]
       pattern.filter fun step => step.width != 0) := by
  have two : n ≤ 2 ↔ n = 2 := by omega
  unfold patternSteps
  simp only [StrategyRecord.classFor, two]
  refine List.filter_congr fun step _ => ?_
  by_cases zero : step.width = 0 <;> simp [zero]

theorem currentOf_eq (w : WritePath) (level : LevelCode) : w.currentOf level =
    if level = .peak then w.peak else if level = .bottom then w.bottom else if level = .bias then w.bias else 0 := by
  cases level <;> rfl

theorem observePeak_of (h : s.writePath = some w) :
    s.observePeak fmon = s.withMonitor { s.monitor with peakHold := holdPeak s.monitor.peakHold w fmon } := by
  simp only [State.observePeak, h]

theorem observePeak_none (h : s.writePath = none) : s.observePeak fmon = s := by
  simp only [State.observePeak, h]

theorem holdPeak_eq (hold : Option Nat) (w : WritePath) (fmon : MonitorCode) : holdPeak hold w fmon =
    if w.level = .peak then some (match hold with
      | some h => if h < fmon.toNat then fmon.toNat else h
      | none => fmon.toNat) else hold := by
  cases hold <;> simp [holdPeak, max_def_lt]

theorem holdPeak_bias (h : w.steps = []) (hold : Option Nat) (fmon : MonitorCode) : holdPeak hold w fmon = hold :=
  if_neg (by simp [WritePath.level, h])

theorem startMark_of {mark : Option Nat} {rest : List (Option Nat)} (h : s.writePath = some w) (hm : w.marks = mark :: rest) :
    s.startMark = s.driveWrite (w.startMark (mark.getD 9) rest) := by
  simp only [State.startMark, h, hm]

theorem startMark_idle (h : s.writePath = some w) (hm : w.marks = []) : s.startMark = s := by
  simp only [State.startMark, h, hm]

theorem endStep_of {step : PatternStep} {rest : List PatternStep} (h : s.writePath = some w) (hs : w.steps = step :: rest) :
    s.endStep = s.driveWrite { w with steps := rest } := by
  simp only [State.endStep, h, hs]

theorem endStep_idle (h : s.writePath = some w) (hs : w.steps = []) : s.endStep = s := by
  simp only [State.endStep, h, hs]

theorem transition_opens (h : w.inMark = false) (periods : Nat) :
    w.transition periods = { w with inMark := true, marks := w.marks ++ [none] } := if_neg (by simp [h])

theorem transition_closes (h : w.inMark = true) (periods : Nat) :
    w.transition periods = { w with inMark := false, marks := classifyLast w.marks periods } := if_pos h

end

/-! ### Samples (R144 to R147) -/

section
variable {s : State} {fmon : MonitorCode} {d : BlockSampleDue} {rest : List BlockSampleDue} {l : LevelSet} {w : WriteLevels}

/-- The write path drives a peak step. -/
def DrivesPeak (s : State) : Prop := ∃ w, s.writePath = some w ∧ (w.steps.head?.map PatternStep.level) = some LevelCode.peak

theorem level_eq_peak_iff {w : WritePath} : w.level = .peak ↔ (w.steps.head?.map PatternStep.level) = some LevelCode.peak := by
  unfold WritePath.level
  cases w.steps <;> simp

/-- What the peak hold is after a row that carries FMON's code (R146). -/
theorem observePeak_eq {hold : Option Nat}
    (peak : DrivesPeak s → hold = some (match s.monitor.peakHold with
      | some h => if h < fmon.toNat then fmon.toNat else h
      | none => fmon.toNat))
    (other : ¬ DrivesPeak s → hold = s.monitor.peakHold) :
    s.observePeak fmon = s.withMonitor { s.monitor with peakHold := hold } := by
  cases h : s.writePath with
  | none =>
    have idle : ¬ DrivesPeak s := by rintro ⟨w, hw, -⟩; rw [h] at hw; cases hw
    rw [observePeak_none h, other idle]
    rfl
  | some w =>
    have drives : DrivesPeak s ↔ w.level = .peak := by simp [DrivesPeak, h, level_eq_peak_iff]
    rw [observePeak_of h, holdPeak_eq]
    split
    · next level => rw [peak (drives.2 level)]
    · next level => rw [other (mt drives.1 level)]

theorem dueBlockSample_none (h : s.monitor.blockSamples = []) : s.dueBlockSample fmon = s := by
  simp only [State.dueBlockSample, h]

theorem dueBlockSample_of (h : s.monitor.blockSamples = d :: rest) : s.dueBlockSample fmon =
    (s.withMonitor { s.monitor with blockSamples := rest }).takeBlockSample d fmon := by
  simp only [State.dueBlockSample, h]

theorem takeBlockSample_dropped (h : d.live = false ∨ s.laser.state ≠ d.state) : s.takeBlockSample d fmon = s := by
  refine if_neg fun ⟨live, state⟩ => ?_
  rcases h with dead | left
  · simp [dead] at live
  · exact left state

theorem takeBlockSample_read (live : d.live = true) (state : s.laser.state = .reading) (rise : d.state = .reading)
    (h : s.levels.handedOff = some l) : s.takeBlockSample d fmon = s.startConversion .readBlock fmon.toNat l.read.power := by
  rw [State.takeBlockSample, if_pos ⟨live, state.trans rise.symm⟩, if_neg (by rw [rise]; nofun), State.sampleRead, h]

theorem takeBlockSample_write (live : d.live = true) (state : s.laser.state = .writing) (rise : d.state = .writing) :
    s.takeBlockSample d fmon = s.sampleWrite := by
  rw [State.takeBlockSample, if_pos ⟨live, state.trans rise.symm⟩, if_pos rise]

theorem sampleWrite_of {code : Nat} (h : s.levels.handedOff = some l) (hw : l.write = some w) (held : s.monitor.peakHold = some code) :
    s.sampleWrite = s.startConversion .write code w.peak.power := by
  simp [State.sampleWrite, h, hw, held]

theorem sampleWrite_empty (empty : s.monitor.peakHold = none) : s.sampleWrite = s := by
  simp only [State.sampleWrite, empty]

theorem dueIdleSample_none (h : s.laser.state ≠ .idle ∨ s.monitor.idleTimer = none) : s.dueIdleSample fmon = s := by
  refine if_neg fun ⟨idle, timed⟩ => ?_
  rcases h with left | stopped
  · exact left idle
  · simp [stopped] at timed

theorem dueIdleSample_of (idle : s.laser.state = .idle) (timed : s.monitor.idleTimer.isSome = true) {current power : Nat}
    (h : s.readInUse = some (current, power)) :
    s.dueIdleSample fmon = (s.withMonitor { s.monitor with idleTimer := some 100 }).startConversion .idle fmon.toNat power := by
  have inUse : (s.withMonitor { s.monitor with idleTimer := some 100 }).readInUse = some (current, power) := h
  rw [State.dueIdleSample, if_pos ⟨idle, timed⟩, Config.idleSampleMicros, State.sampleIdle, inUse]

end

end Sys2Proof.Laws

namespace Sys2Proof.Settled

open Sys2Proof Sys2Proof.Machine Sys2Proof.Laws

/-- Settles O47: the block computation by what is in flight, the idle one by the laser's state. -/
theorem levelComputationsComplete : Obligations.LevelComputationsComplete := by
  unfold Obligations.LevelComputationsComplete
  intro s running
  have block : exec .levelComputationComplete s = .next (match s.levels.prepared with
      | .computing i => s.withLevels (s.levels.complete i)
      | .absent => s
      | .ready _ => s) := exec_running running rfl
  refine ⟨fun i computing => ?_, fun idle => ?_, fun idle => ?_, fun i computing => ?_⟩
  · rw [block, computing]
    rfl
  · rw [block]
    cases h : s.levels.prepared with
    | computing i => exact absurd h (idle i)
    | absent => rfl
    | ready l => rfl
  · refine (exec_running running rfl).trans ?_
    simp only [idle]
  · intro early set drive
    refine ⟨idleComputed s i, rfl, rfl, nextIdleComputation_early, nextIdleComputation_none, fun standby => ?_, fun idle first => ?_,
      fun late => ?_⟩ <;> rw [exec_idleComputationComplete running computing]
    · rw [useIdleSet_standby (s := idleComputed s i) _ standby]
      rfl
    · have inUse := readInUse_idleSet (s := idleComputed s i) (ne_of_eq_of_ne idle nofun) first rfl
      rw [useIdleSet_idle (s := idleComputed s i) _ idle first, formReadDrive_of inUse]
      rfl
    · rw [useIdleSet_late (s := idleComputed s i) _ late]

/-- Settles O51: the transition, the mark start and the step end, each by what the write path holds. -/
theorem writePathFollows : Obligations.WritePathFollows := by
  unfold Obligations.WritePathFollows
  intro s fmon periods running
  have transition : exec (.wdataTransition periods) s = .next (match s.writePath with
      | some w => s.withWritePath (some (w.transition periods))
      | none => s) := exec_running running rfl
  have start : exec (.markStart fmon) s = .next (s.observePeak fmon).startMark := exec_running running rfl
  have ends : exec (.patternStepEnd fmon) s = .next (s.observePeak fmon).endStep := exec_running running rfl
  refine ⟨fun none => ?_, fun w active => ?_⟩
  · rw [transition, start, ends, observePeak_none none, none]
    simp [State.startMark, State.endStep, none]
  · intro levelOf currentAt hold seen driven shaped
    have observed : s.observePeak fmon = s.withMonitor seen := by
      rw [observePeak_of active, holdPeak_eq]
      rfl
    have path : (s.withMonitor seen).writePath = some w := active
    have drives : ∀ v : WritePath, (s.withMonitor seen).driveWrite v = ((s.withWritePath (some v)).withLaser
        { s.laser with lsel := v.level, current := v.currentOf v.level }).withMonitor seen := fun _ => rfl
    rw [observed] at start ends
    refine ⟨fun space => ?_, fun older mark marks => ?_, fun mark closed => ?_, fun empty => ?_,
      fun mark rest n marks length low high => ?_, fun bias => ?_, fun step rest steps => ?_⟩
    · rw [transition, active]
      simp only [transition_opens space]
    · rw [transition, active]
      simp only [transition_closes mark, marks, classifyLast_open, shapedLength_eq]
      rfl
    · rw [transition, active]
      simp only [transition_closes mark, classifyLast_closed closed]
    · rw [start, startMark_idle path empty]
    · intro c pulses pattern
      have given : mark.getD 9 = n := by rcases length with rfl | ⟨rfl, rfl⟩ <;> rfl
      rw [start, startMark_of path marks, given, drives, currentOf_eq]
      simp only [WritePath.startMark, patternSteps_eq w.record low]
      rfl
    · have kept : s.withMonitor seen = s := by rw [← observed, observePeak_of active, holdPeak_bias bias]; rfl
      rw [ends, endStep_idle path bias, kept]
    · rw [ends, endStep_of path steps, drives, currentOf_eq]
      rfl

/-- Settles O52: the peak hold first, then the sample due, if any. -/
theorem samplesStart : Obligations.SamplesStart := by
  unfold Obligations.SamplesStart
  intro s fmon running drivesPeak hold peak other seen started
  have observed := observePeak_eq (s := s) (fmon := fmon) peak other
  have block : exec (.blockSample fmon) s = .next ((s.withMonitor seen).dueBlockSample fmon) :=
    observed ▸ exec_running running rfl
  have timer : exec (.idleSampleTimerExpiry fmon) s = .next ((s.withMonitor seen).dueIdleSample fmon) :=
    observed ▸ exec_running running rfl
  refine ⟨fun none => ?_, fun d rest due => ?_, fun idle => ?_, fun idle timed => ?_⟩
  · rw [block, dueBlockSample_none (s := s.withMonitor seen) none]
  · intro base
    have taken : exec (.blockSample fmon) s = .next ((s.withMonitor base).takeBlockSample d fmon) := by
      rw [block, dueBlockSample_of (s := s.withMonitor seen) due]
      rfl
    rw [taken]
    refine ⟨fun dropped => ?_, fun l live state rise set => ?_,
      fun l w live state rise set write => ⟨fun code held => ?_, fun empty => ?_⟩⟩
    · rw [takeBlockSample_dropped (s := s.withMonitor base) dropped]
    · rw [takeBlockSample_read (s := s.withMonitor base) live state rise set]
      rfl
    · rw [takeBlockSample_write (s := s.withMonitor base) live state rise, sampleWrite_of (s := s.withMonitor base) set write held]
      rfl
    · rw [takeBlockSample_write (s := s.withMonitor base) live state rise, sampleWrite_empty (s := s.withMonitor base) empty]
  · rw [timer, dueIdleSample_none (s := s.withMonitor seen) idle]
  · intro next
    rw [timer]
    refine ⟨fun l since set => ?_, fun i early set => ?_⟩
    · rw [dueIdleSample_of (s := s.withMonitor seen) idle timed (readInUse_served (s := s.withMonitor seen) since set)]
      rfl
    · rw [dueIdleSample_of (s := s.withMonitor seen) idle timed
        (readInUse_idleSet (s := s.withMonitor seen) (ne_of_eq_of_ne idle nofun) early set)]
      rfl

end Sys2Proof.Settled

/-!
PROOFS. The completion of a conversion (R144, R148 to R151).
-/

namespace Sys2Proof.Laws

open Sys2Proof Sys2Proof.Machine

/-! ### Comparison and step -/

theorem measuredPower_eq (code gain : Nat) : (measuredPower code gain : Int) = roundHalfUp ((code : ℚ) * gain / 1024) := by
  have rounded := LevelComputation.roundHalfUp_div (code * gain) (d := 1024) (by decide)
  push_cast at rounded
  rw [rounded, measuredPower]
  push_cast
  ring_nf

theorem good_iff (c : Conversion) : c.good = true ↔
    |(measuredPower c.code c.gain : Int) - c.target| ≤ ⌊(c.tolerance : ℚ) * c.target / 100⌋ := by
  have allowed : ⌊(c.tolerance : ℚ) * c.target / 100⌋ = ((c.tolerance * c.target / 100 : Nat) : Int) := by
    have floor := Rat.floor_intCast_div_natCast (c.tolerance * c.target) 100
    push_cast at floor ⊢
    exact floor
  rw [allowed, Conversion.good, sampleGood, decide_eq_true_iff, allowance, abs_le]
  omega

theorem stepApc_eq (apc : Int) (measured target : Nat) : stepApc apc measured target =
    if (measured : Int) < target then (if apc < 63 then apc + 1 else 63)
    else if (target : Int) < measured then (if -64 < apc then apc - 1 else -64) else apc := by
  unfold stepApc
  split_ifs <;> omega

theorem countAfter_good (emits : Bool) (count : Nat) : countAfter true emits count = if emits then 0 else count := rfl

theorem countAfter_bad (emits : Bool) (count : Nat) : countAfter false emits count = if 8 ≤ count then 8 else count + 1 := by
  rw [countAfter, if_neg (by simp), Config.mismatchLimit]
  split <;> omega

theorem reachesLimit_iff {good : Bool} {count : Nat} : reachesLimit good count = true ↔ good = false ∧ count = 7 := by
  cases good <;> simp [reachesLimit, Config.mismatchLimit]

section
variable {s : State} {c : Conversion} {apc : Int}

/-- The state after the comparison, before a fault is reported. -/
def counted (s : State) (c : Conversion) : State :=
  s.withMonitor { s.monitor with mismatch := countAfter c.good s.laser.state.emits s.monitor.mismatch }

theorem compare_below (h : ¬ (c.good = false ∧ s.monitor.mismatch = 7)) : s.compare c = counted s c :=
  if_neg (mt reachesLimit_iff.1 h)

theorem compare_limit (bad : c.good = false) (seven : s.monitor.mismatch = 7) :
    s.compare c = (counted s c).faultCondition .monitorMismatch := if_pos (reachesLimit_iff.2 ⟨bad, seven⟩)

theorem faultCondition_on (on : s.laser.state.on = true) (cause : FaultCause) : s.faultCondition cause = s.enterFault cause :=
  if_pos on

theorem faultCondition_fault (fault : s.laser.state = .fault) (cause : FaultCause) : s.faultCondition cause = s.furtherFault := by
  simp [State.faultCondition, fault, LaserState.on]

theorem setApc_same (h : apc = s.monitor.apc) : s.setApc apc = s := if_pos h

theorem setApc_stored (changed : apc ≠ s.monitor.apc) (undriven : ¬ (s.laser.state = .reading ∨ s.laser.state = .idle)) :
    s.setApc apc = s.withMonitor { s.monitor with apc := apc } := by
  rw [State.setApc, if_neg changed]
  exact if_neg undriven

theorem setApc_undriven (undriven : ¬ (s.laser.state = .reading ∨ s.laser.state = .idle)) :
    s.setApc apc = s.withMonitor { s.monitor with apc := apc } := by
  by_cases same : apc = s.monitor.apc
  · subst same
    exact setApc_same rfl
  · exact setApc_stored same undriven

theorem setApc_driven (changed : apc ≠ s.monitor.apc) (driven : s.laser.state = .reading ∨ s.laser.state = .idle) :
    s.setApc apc = (s.withMonitor { s.monitor with apc := apc }).formReadDrive := by
  rw [State.setApc, if_neg changed]
  exact if_pos driven

/-- The offset after the step of a completing conversion (R151). -/
def steppedApc (apc : Int) (c : Conversion) : Int :=
  if c.kind = .write then apc else stepApc apc (measuredPower c.code c.gain) c.target

theorem apcStep_eq : s.apcStep c = s.setApc (steppedApc s.monitor.apc c) := by
  unfold State.apcStep steppedApc
  by_cases write : c.kind = .write
  · rw [if_neg (not_not.2 write), if_pos write, setApc_same rfl]
  · rw [if_pos write, if_neg write]

theorem completeConversion_emitting (emits : s.laser.state.emits = true) : s.completeConversion c =
    ((s.withMonitor { s.monitor with conversion := none }).compare c).setApc
      (steppedApc ((s.withMonitor { s.monitor with conversion := none }).compare c).monitor.apc c) := by
  rw [← apcStep_eq]
  exact if_pos emits

theorem completeConversion_fault (fault : s.laser.state = .fault) : s.completeConversion c =
    (s.withMonitor { s.monitor with conversion := none }).compare c := by
  have dark : ¬ s.laser.state.emits = true := by simp [fault, LaserState.emits]
  exact (if_neg dark).trans (if_pos fault)

theorem completeConversion_dark (dark : s.laser.state = .off ∨ s.laser.state = .standby) : s.completeConversion c =
    s.withMonitor { s.monitor with conversion := none } := by
  have silent : ¬ s.laser.state.emits = true := by rcases dark with h | h <;> simp [h, LaserState.emits]
  have sound : ¬ s.laser.state = .fault := by rcases dark with h | h <;> simp [h]
  exact (if_neg silent).trans (if_neg sound)

theorem exec_conversionComplete (running : s.inReset = false) (h : s.monitor.conversion = some c) :
    exec .conversionComplete s = .next (s.completeConversion c) := by
  refine (exec_running running rfl).trans ?_
  simp only [h]

theorem exec_conversionComplete_none (running : s.inReset = false) (h : s.monitor.conversion = none) :
    exec .conversionComplete s = .next s := by
  refine (exec_running running rfl).trans ?_
  simp only [h]

end

/-! ### The APC offset after a fault (assumption log 15) -/

theorem triggerFrame_withMonitor {named : List ZoneSlot} {told : List Reply} {s t : State} (h : TriggerFrame named told s t)
    (m : Monitor) : TriggerFrame named told (s.withMonitor m) (t.withMonitor m) where
  zones := h.zones
  strategies := h.strategies
  levels := h.levels
  target hg := ⟨(h.target hg).same, (h.target hg).other, (h.target hg).none⟩
  translator := h.translator
  pickup := ⟨h.pickup.starts, h.pickup.stays⟩
  gate := h.gate
  replies := h.replies
  alert := h.alert
  others := by
    obtain ⟨inReset, guards, streams, writePath, laser, -, port, pending⟩ := h.others
    exact ⟨inReset, guards, streams, writePath, laser, rfl, port, pending⟩

/-- The fault does not read the APC offset, so an offset set after it is as one set before it. -/
theorem faulted_withApc {cause : FaultCause} {s t : State} (h : Faulted cause s t) (apc : Int) :
    Faulted cause (s.withMonitor { s.monitor with apc := apc }) (t.withMonitor { t.monitor with apc := apc }) where
  frame := triggerFrame_withMonitor h.frame _
  record := h.record
  block := h.block
  monitor := by
    have monitor := h.monitor
    exact congrArg (fun m : Monitor => { m with apc := apc }) monitor
  samples := h.samples
  flushed := ⟨h.flushed.queue, h.flushed.entry, h.flushed.replies, h.flushed.request⟩

end Sys2Proof.Laws

namespace Sys2Proof.Settled

open Sys2Proof Sys2Proof.Machine Sys2Proof.Laws

/-- Settles O53: the comparison and the step as the laser's state allows them, the fault at the eighth mismatch. -/
theorem conversionCompletes : Obligations.ConversionCompletes := by
  unfold Obligations.ConversionCompletes
  intro s running
  refine ⟨exec_conversionComplete_none running, fun c inFlight => ?_⟩
  intro measured good emits m
  have power : (measuredPower c.code c.gain : Int) = measured := measuredPower_eq ..
  have judged : c.good = true ↔ good := by rw [good_iff, power]
  have bad : c.good = false ↔ ¬ good := by rw [← judged, Bool.not_eq_true]
  have row := exec_conversionComplete running inFlight
  set taken := s.withMonitor { m with conversion := none } with htaken
  have compared : ∀ count, countAfter c.good s.laser.state.emits m.mismatch = count →
      counted taken c = s.withMonitor { m with conversion := none, mismatch := count } := by
    rintro _ rfl
    rfl
  have offset : ∀ apc : Int, apc = (if c.kind = .write then m.apc
      else if measured < c.target then (if m.apc < 63 then m.apc + 1 else 63)
      else if (c.target : Int) < measured then (if -64 < m.apc then m.apc - 1 else -64) else m.apc) → steppedApc m.apc c = apc := by
    rintro _ rfl
    rw [steppedApc, stepApc_eq, power]
  refine ⟨fun dark => ?_, fun fault => ⟨fun isGood => ?_, fun isBad below => ?_, fun isBad seven => ?_⟩, fun apc emitting stepped =>
    ⟨fun count below counts => ?_, fun isBad seven => ?_⟩⟩
  · rw [row, completeConversion_dark dark]
  · have quiet : s.laser.state.emits = false := by rw [fault]; rfl
    rw [row, completeConversion_fault fault, compare_below (s := taken) (by simp [judged.2 isGood]),
      compared m.mismatch (by rw [judged.2 isGood, countAfter_good, quiet]; rfl)]
  · rw [row, completeConversion_fault fault, compare_below (s := taken) fun limit => below limit.2,
      compared _ (by rw [bad.2 isBad, countAfter_bad])]
  · rw [row, completeConversion_fault fault, compare_limit (s := taken) (bad.2 isBad) seven,
      faultCondition_fault (s := counted taken c) fault, compared 8 (by rw [bad.2 isBad, countAfter_bad, seven]; rfl), furtherFault_eq]
    rfl
  · intro next
    have lit : s.laser.state.emits = true := AnnounceQueue.emits_iff.2 emitting
    have counting : counted taken c = s.withMonitor { m with conversion := none, mismatch := count } := by
      refine compared count ?_
      rw [counts]
      by_cases hg : good
      · rw [if_pos hg, judged.2 hg, countAfter_good, lit]
        rfl
      · rw [if_neg hg, bad.2 hg, countAfter_bad]
    have stored : exec .conversionComplete s =
        .next ((s.withMonitor { m with conversion := none, mismatch := count }).setApc apc) := by
      rw [row, completeConversion_emitting lit, compare_below (s := taken) (by rw [bad]; exact below), counting, ← offset apc stepped]
      rfl
    rw [stored]
    refine ⟨fun kept => ?_, fun read changed driven since early => ?_⟩
    · by_cases same : apc = m.apc
      · rw [setApc_same (s := s.withMonitor { m with conversion := none, mismatch := count }) same]
        simp only [next, same]
      · have writing : s.laser.state = .writing := kept.resolve_left same
        rw [setApc_stored (s := s.withMonitor { m with conversion := none, mismatch := count }) same (by simp [writing])]
        rfl
    · intro drive
      have inUse : ∃ power, next.readInUse = some (read, power) := by
        by_cases served : s.laser.state = .reading ∨ s.levels.servedSinceOn = true
        · obtain ⟨l, set, rfl⟩ := since served
          exact ⟨l.read.power, by simp [State.readInUse, next, served, set]⟩
        · obtain ⟨notReading, first⟩ := not_or.1 served
          obtain ⟨i, set, rfl⟩ := early (driven.resolve_left notReading) (by simpa using first)
          exact ⟨i.power, by simp [State.readInUse, next, served, set]⟩
      obtain ⟨power, inUse⟩ := inUse
      rw [setApc_driven (s := s.withMonitor { m with conversion := none, mismatch := count }) changed driven]
      exact congrArg _ (formReadDrive_of (s := next) inUse)
  · have lit : s.laser.state.emits = true := AnnounceQueue.emits_iff.2 emitting
    have on : s.laser.state.on = true := by rcases emitting with h | h | h <;> rw [h] <;> rfl
    have faulted := enterFault_faulted (counted taken c) .monitorMismatch
    have dark := enterFault_state (counted taken c) .monitorMismatch
    have compares : taken.compare c = (counted taken c).enterFault .monitorMismatch := by
      rw [compare_limit (s := taken) (bad.2 isBad) seven, faultCondition_on (s := counted taken c) on]
    have kept : ((counted taken c).enterFault .monitorMismatch).monitor.apc = m.apc := by rw [faulted.monitor]; rfl
    rw [compared 8 (by rw [bad.2 isBad, countAfter_bad, seven]; rfl)] at faulted dark compares kept
    refine ⟨_, row, ?_⟩
    rw [completeConversion_emitting lit, compares, kept, offset apc stepped, setApc_undriven (by rw [dark]; simp)]
    exact faulted_withApc faulted apc

end Sys2Proof.Settled

/-!
PROOFS. The rise of the gate (05_block_service.md, R80 to R90): the skip checks, the skipped block and the served one.
-/

namespace Sys2Proof.Laws

open Sys2Proof Sys2Proof.Machine

/-! ### The level computer looks for its target (R30, R31) -/

section
variable {s u : State}

theorem retarget_levels_same (h : (targetOf u.queue).map (fun g => (g.tag, g.block)) = u.levels.prepared.key) : u.retarget = u := if_pos h

theorem retarget_levels_other (h : (targetOf u.queue).map (fun g => (g.tag, g.block)) ≠ u.levels.prepared.key) :
    u.retarget.levels = { u.levels with
      prepared := match targetOf u.queue with
        | some g => .computing (u.retarget.levelInputs g)
        | none => .absent
      standIn := none } := by
  simp only [levelInputs_congr (retarget_zones u) (retarget_laser u)]
  rw [State.retarget, if_neg h]
  rfl

theorem retarget_targetFollowed (prepared : u.levels.prepared = s.levels.prepared) (standIn : u.levels.standIn = s.levels.standIn) :
    TargetFollowed s u.retarget := by
  constructor <;> rw [retarget_queue, ← prepared]
  · intro h
    rw [retarget_levels_same h]
    exact ⟨rfl, standIn⟩
  · intro g hg h
    rw [retarget_levels_other (by rw [hg]; exact h.symm), hg]
    exact ⟨rfl, rfl⟩
  · intro hg h
    rw [retarget_levels_other (by rw [hg]; exact h.symm), hg]
    exact ⟨rfl, rfl⟩

theorem retarget_levels_frame (u : State) : u.retarget.levels =
    { u.levels with prepared := u.retarget.levels.prepared, standIn := u.retarget.levels.standIn } := by
  by_cases h : (targetOf u.queue).map (fun g => (g.tag, g.block)) = u.levels.prepared.key
  · rw [retarget_levels_same h]
  · rw [retarget_levels_other h]

/-- With the queue empty no set is prepared. -/
theorem retarget_absent (empty : u.queue = []) : u.retarget.levels.prepared = .absent := by
  have target : targetOf u.queue = none := by rw [empty]; rfl
  exact key_eq_none_iff.1 (by rw [retarget_key, target]; rfl)

end

/-! ### SKIP replies (R83, R84) -/

section
variable {s u : State}

theorem produceSkip_told (s : State) (tag : Option Byte) (block : Nat) (reason : SkipReason) :
    Told [.skip tag block reason] .skip s (s.produceSkip tag block reason) := by
  obtain ⟨store, alert⟩ := produce_told s (.skip tag block reason)
  refine ⟨by simpa [Stored, State.produceSkip] using store, ?_⟩
  exact alertRaised_congr (alertRaised_trans alert (alertRaised_raise _ .skip)) fun f => Bool.or_comm ..

/-- What is told depends on the link and the alert unit alone. -/
theorem told_congr {told : List Reply} {flag : RequestFlag} {s' t' t : State} (h : Told told flag s' t')
    (link : s'.link = s.link) (alert : s'.alert = s.alert) (link' : t.link = t'.link) (alert' : t.alert = t'.alert) :
    Told told flag s t := by
  obtain ⟨store, raised⟩ := h
  refine ⟨?_, ?_⟩
  · unfold Stored at store ⊢
    rw [link', store, link]
  · unfold State.drops at raised ⊢
    rw [alert', ← alert, ← link]
    exact raised

end

/-! ### The skip checks (R82) -/

section
variable {s : State} {e : Entry}

/-- The set is for the entry's next block (R34). -/
def Fits (e : Entry) (l : LevelSet) : Prop := l.tag = e.tag ∧ l.block = e.next

/-- The skip checks in their order. -/
def skipChecks (s : State) (e : Entry) : List (Prop × SkipReason) := [
  (e.state = .waiting, .notReady),
  (s.pickup.motion ≠ .settled e.layer, .layerMoving),
  ((∀ l, s.levels.prepared = .ready l → ¬ Fits e l) ∧ (∀ l, s.levels.standIn = some l → ¬ Fits e l), .notReady),
  (e.intent ≠ .read ∧ s.laser.clock = .unlocked, .unlocked)]

theorem settledOn_iff {p : Pickup} {layer : LayerNo} : p.settledOn layer = true ↔ p.motion = .settled layer := by
  unfold Pickup.settledOn
  split
  · next h => simp [h]
  · next h => simp [h]

theorem answer_eq_ready {l : LevelSet} (fits : Fits e l) (ready : s.levels.prepared = .ready l) :
    s.levels.answer e.tag e.next = some l := by
  simp only [LevelComputer.answer, ready]
  exact if_pos fits

theorem answer_eq_standIn {l : LevelSet} (fits : Fits e l) (unready : ∀ p, s.levels.prepared = .ready p → ¬ Fits e p)
    (standIn : s.levels.standIn = some l) : s.levels.answer e.tag e.next = some l := by
  have filtered : (s.levels.standIn.filter fun set => decide (set.tag = e.tag ∧ set.block = e.next)) = some l := by
    rw [standIn]
    exact Option.filter_some_pos (decide_eq_true fits)
  unfold LevelComputer.answer
  dsimp only
  split
  · next p ready =>
    have other : ¬ (p.tag = e.tag ∧ p.block = e.next) := unready p ready
    rw [if_neg other, filtered]
  · exact filtered

theorem answer_eq_none_iff : s.levels.answer e.tag e.next = none ↔
    (∀ l, s.levels.prepared = .ready l → ¬ Fits e l) ∧ (∀ l, s.levels.standIn = some l → ¬ Fits e l) := by
  constructor
  · intro none
    have unready : ∀ p, s.levels.prepared = .ready p → ¬ Fits e p := fun p ready fits => by
      rw [answer_eq_ready fits ready] at none
      cases none
    exact ⟨unready, fun l standIn fits => by rw [answer_eq_standIn fits unready standIn] at none; cases none⟩
  · rintro ⟨unready, unfit⟩
    have filtered : (s.levels.standIn.filter fun set => decide (set.tag = e.tag ∧ set.block = e.next)) = none := by
      rw [Option.filter_eq_none_iff]
      exact fun l hl => by simpa [Fits] using unfit l hl
    unfold LevelComputer.answer
    dsimp only
    split
    · next p ready =>
      have other : ¬ (p.tag = e.tag ∧ p.block = e.next) := unready p ready
      rw [if_neg other, filtered]
    · exact filtered

theorem riseCheck_decides (s : State) (e : Entry) : Decides (skipChecks s e) (refusal (s.riseCheck e)) := by
  unfold State.riseCheck skipChecks
  simp only [settledOn_iff, writes_iff, ← answer_eq_none_iff]
  split
  · next h => exact .holds h
  · next h =>
    refine .passes h ?_
    split
    · next h => exact .holds h
    · next h =>
      refine .passes h ?_
      split
      · next h => exact .holds h
      · next l h =>
        refine .passes (by simp [h]) ?_
        split
        · next h => exact .holds h
        · next h => exact .passes h .none

theorem riseCheck_serves {l : LevelSet} (translated : e.state ≠ .waiting) (settled : s.pickup.motion = .settled e.layer)
    (answered : s.levels.answer e.tag e.next = some l) (locked : e.intent = .read ∨ s.laser.clock = .locked) :
    s.riseCheck e = .ok l := by
  have clear : ¬ (e.writes = true ∧ s.laser.clock = .unlocked) := by
    rintro ⟨writes, unlocked⟩
    rcases locked with read | clock
    · exact writes_iff.1 writes read
    · rw [clock] at unlocked
      cases unlocked
  rw [State.riseCheck, if_neg translated, if_neg (by simp [settledOn_iff.2 settled]), answered]
  exact if_neg clear

end

/-! ### The skipped block (R83, R84) -/

section
variable {s : State} {e : Entry} {rest : List Entry}

theorem countUp_eq (n : Nat) : countUp n = if n < 4294967295 then n + 1 else 4294967295 := by
  unfold countUp Config.counterMax
  split <;> omega

theorem exec_rise_high (running : s.inReset = false) (high : s.gate.high = true) : exec .bgateRise s = .next s := by
  refine (exec_running running rfl).trans ?_
  dsimp only
  rw [if_pos high]

theorem exec_rise_empty (running : s.inReset = false) (low : s.gate.high = false) (empty : s.queue = []) :
    exec .bgateRise s = .next s.riseEmpty := by
  refine (exec_running running rfl).trans ?_
  dsimp only
  rw [if_neg (by simp [low])]
  simp [State.takenEntry, empty]

theorem exec_rise (running : s.inReset = false) (low : s.gate.high = false) (ordered : s.QueueOrdered) (hq : s.queue = e :: rest) :
    exec .bgateRise s = .next (s.riseOn e) := by
  refine (exec_running running rfl).trans ?_
  dsimp only
  rw [if_neg (by simp [low]), takenEntry_eq_head (queueOrdered_iff.1 ordered).1, hq]
  rfl

/-- The queue when the entry at its head has been replaced. -/
theorem replaceEntry_head (ordered : s.QueueOrdered) (hq : s.queue = e :: rest) {u : State} (queue : u.queue = s.queue) {e' : Entry}
    (tag : e'.tag = e.tag) : (u.replaceEntry e').queue = e' :: rest := by
  have order := (queueOrdered_iff.1 ordered).1
  rw [hq] at order
  rw [State.replaceEntry, withQueue_queue, queue, hq, replace_head order tag]

/-- What a skipped block leaves unchanged. -/
theorem skip_frame {t : State} (inReset : t.inReset = s.inReset) (zones : t.zones = s.zones) (strategies : t.strategies = s.strategies)
    (guards : t.guards = s.guards) (translating : t.translating = s.translating) (writePath : t.writePath = s.writePath)
    (pickup : t.pickup = s.pickup) (laser : t.laser = s.laser) (monitor : t.monitor = s.monitor) (port : t.port = s.port)
    (pending : t.pending = s.pending) :
    t = (((((s.withGate t.gate).withQueue t.queue).withStreams t.streams).withLevels t.levels).withLink t.link).withAlert t.alert := by
  obtain ⟨⟩ := s
  obtain ⟨⟩ := t
  dsimp only at *
  subst_vars
  rfl

/-- What a rise with no entry leaves unchanged. -/
theorem empty_frame {t : State} (gate : t.gate = ⟨true, none⟩) (inReset : t.inReset = s.inReset) (zones : t.zones = s.zones)
    (strategies : t.strategies = s.strategies) (guards : t.guards = s.guards) (streams : t.streams = s.streams)
    (queue : t.queue = s.queue) (translating : t.translating = s.translating) (writePath : t.writePath = s.writePath)
    (pickup : t.pickup = s.pickup) (laser : t.laser = s.laser) (monitor : t.monitor = s.monitor) (port : t.port = s.port)
    (pending : t.pending = s.pending) :
    t = (((s.withGate ⟨true, none⟩).withLink t.link).withAlert t.alert).withLevels t.levels := by
  obtain ⟨⟩ := s
  obtain ⟨⟩ := t
  dsimp only at *
  subst_vars
  rfl

theorem riseEmpty_gate (s : State) : s.riseEmpty.gate = ⟨true, none⟩ := by
  simp [State.riseEmpty]

theorem riseEmpty_told (s : State) : Told [.skip none 0 .noEntry] .skip s s.riseEmpty :=
  told_congr (produceSkip_told (s.withGate ⟨true, none⟩) none 0 .noEntry) rfl rfl (retarget_link _) (retarget_alert _)

theorem riseEmpty_levels (empty : s.queue = []) :
    s.riseEmpty.levels = { s.levels with prepared := .absent, standIn := s.riseEmpty.levels.standIn } := by
  unfold State.riseEmpty
  conv_lhs => rw [retarget_levels_frame, retarget_absent (by simpa using empty), produceSkip_levels]
  rfl

theorem skipBlock_gate (s : State) (e : Entry) (reason : SkipReason) :
    (s.skipBlock e reason).gate = { high := true, record := some (e.record none (.skipped reason)) } := by
  simp [State.skipBlock]

theorem skipBlock_queue (ordered : s.QueueOrdered) (hq : s.queue = e :: rest) (reason : SkipReason) :
    (s.skipBlock e reason).queue = { e.taken with skipped := e.skipped + 1 } :: rest := by
  unfold State.skipBlock
  dsimp only
  rw [produceSkip_queue, setStream_queue]
  exact replaceEntry_head ordered hq rfl rfl

theorem skipBlock_stream (s : State) (e : Entry) (reason : SkipReason) (n : StreamNo) :
    (s.skipBlock e reason).stream n = if n = e.stream then (s.stream e.stream).countSkip else s.stream n := by
  unfold State.skipBlock
  dsimp only
  rw [stream_congr (produceSkip_streams ..), setStream_stream]
  simp [State.stream, eq_comm]

theorem skipBlock_told (s : State) (e : Entry) (reason : SkipReason) :
    Told [.skip (some e.tag) e.next reason] .skip s (s.skipBlock e reason) :=
  told_congr (produceSkip_told _ (some e.tag) e.next reason) (by simp) (by simp) rfl rfl

theorem taken_eq (e : Entry) : e.taken = { e with next := e.next + 1, state := if e.state = .waiting then .waiting else .current } := by
  have state : (if e.state = .accepted then EntryState.current else e.state) = if e.state = .waiting then .waiting else .current := by
    cases e.state <;> rfl
  rw [Entry.taken, state]

theorem riseOn_skips {reason : SkipReason} (h : s.riseCheck e = .error reason) : s.riseOn e = (s.skipBlock e reason).retarget := by
  simp only [State.riseOn, h]

theorem stream_skipped (st : Stream) : st.countSkip =
    if st.mode = .closed then st else { st with skipped := if st.skipped < 4294967295 then st.skipped + 1 else 4294967295 } := by
  rw [Stream.countSkip, countUp_eq]

end

end Sys2Proof.Laws

namespace Sys2Proof.Settled

open Sys2Proof Sys2Proof.Machine Sys2Proof.Laws

/-- Settles O49: no rise at a High gate, a SKIP alone with no entry, else the first skip check that holds. -/
theorem riseSkips : Obligations.RiseSkips := by
  unfold Obligations.RiseSkips
  intro s running
  refine ⟨exec_rise_high running, fun low empty => ?_, fun e rest low ordered hq => ?_⟩
  · refine ⟨s.riseEmpty, exec_rise_empty running low empty, ?_, ?_, ?_⟩
    · exact empty_frame (riseEmpty_gate s) (riseEmpty_inReset ..) (riseEmpty_zones ..) (riseEmpty_strategies ..) (riseEmpty_guards ..)
        (riseEmpty_streams ..) (riseEmpty_queue ..) (riseEmpty_translating ..) (riseEmpty_writePath ..) (riseEmpty_pickup ..)
        (riseEmpty_laser ..) (riseEmpty_monitor ..) (riseEmpty_port ..) (riseEmpty_pending ..)
    · exact riseEmpty_told s
    · exact riseEmpty_levels empty
  · intro fits checks st earlier c reason later split before holds
    have refused := (riseCheck_decides s e).unique (decides_first (checks := skipChecks s e) split before holds)
    have row := exec_rise running low ordered hq
    rw [riseOn_skips (error_of_refusal refused)] at row
    refine ⟨_, row, skip_frame ?_ ?_ ?_ ?_ ?_ ?_ ?_ ?_ ?_ ?_ ?_, ?_, ?_, ?_, ?_, fun n other => ?_, ?_, ?_, ?_⟩
    iterate 11 · simp
    · rw [retarget_gate, skipBlock_gate]
    · rw [retarget_gate, skipBlock_gate]
      rfl
    · rw [retarget_queue, skipBlock_queue ordered hq, taken_eq]
    · rw [stream_congr (retarget_streams _), skipBlock_stream, if_pos rfl, stream_skipped]
    · rw [stream_congr (retarget_streams _), skipBlock_stream, if_neg other]
    · conv_lhs => rw [retarget_levels_frame, skipBlock_levels]
    · exact retarget_targetFollowed (by simp) (by simp)
    · exact told_congr (skipBlock_told s e reason) rfl rfl (retarget_link _) (retarget_alert _)

end Sys2Proof.Settled

/-!
PROOFS. The served block (R34, R52, R81, R86 to R90, R101, R134, R145).
-/

namespace Sys2Proof.Laws

open Sys2Proof Sys2Proof.Machine

/-! ### What every served block does -/

section
variable {s : State} {e : Entry} {rest : List Entry} {l : LevelSet}

/-- What the laser's part of a service changes, the rest being as the rise left it. -/
theorem serveBlock_risen (s : State) (e : Entry) (l : LevelSet) : (s.serveBlock e l).gate = (risen s e l).gate ∧
    (s.serveBlock e l).queue = (risen s e l).queue ∧ (s.serveBlock e l).streams = (risen s e l).streams ∧
    (s.serveBlock e l).levels = (risen s e l).levels ∧ (s.serveBlock e l).link = (risen s e l).link := by
  rw [serveBlock_eq]
  split <;> simp [clampsRaised]

theorem serveBlock_gate (s : State) (e : Entry) (l : LevelSet) :
    (s.serveBlock e l).gate = { high := true, record := some (e.record (e.slotFor e.next) .served) } := by
  rw [(serveBlock_risen s e l).1]
  simp [risen]

theorem serveBlock_queue (ordered : s.QueueOrdered) (hq : s.queue = e :: rest) (l : LevelSet) :
    (s.serveBlock e l).queue = { e.taken with served := e.served + 1 } :: rest := by
  rw [(serveBlock_risen s e l).2.1]
  unfold risen
  dsimp only
  rw [withLevels_queue, setStream_queue]
  exact replaceEntry_head ordered hq rfl rfl

theorem serveBlock_stream (s : State) (e : Entry) (l : LevelSet) (n : StreamNo) :
    (s.serveBlock e l).stream n = if n = e.stream then (s.stream e.stream).countServe e.layer e.next else s.stream n := by
  rw [stream_congr (serveBlock_risen s e l).2.2.1]
  unfold risen
  dsimp only
  rw [stream_congr (withLevels_streams ..), setStream_stream]
  simp [State.stream, eq_comm]

theorem serveBlock_levels (s : State) (e : Entry) (l : LevelSet) : (s.serveBlock e l).levels = s.levels.handOff l := by
  rw [(serveBlock_risen s e l).2.2.2.1]
  simp [risen]

theorem serveBlock_link (s : State) (e : Entry) (l : LevelSet) : (s.serveBlock e l).link = s.link := by
  rw [(serveBlock_risen s e l).2.2.2.2]
  simp [risen]

theorem stream_served (st : Stream) (layer : LayerNo) (block : Nat) : st.countServe layer block =
    if st.mode = .closed then st else
      { st with served := if st.served < 4294967295 then st.served + 1 else 4294967295, lastServed := some (layer, block) } := by
  rw [Stream.countServe, countUp_eq]

theorem slotFor_eq (e : Entry) (block : Nat) : e.slotFor block = match e.secondary with
    | some (j, split) => if split ≤ block then some j else e.primary
    | none => e.primary := by
  unfold Entry.slotFor
  rcases e.secondary with _ | ⟨j, split⟩
  · rfl
  · by_cases h : split ≤ block
    · simp [h, Nat.not_lt.2 h]
    · simp [h, Nat.not_le.1 h]

/-- What a served block leaves unchanged. -/
theorem serve_frame {t : State} (inReset : t.inReset = s.inReset) (strategies : t.strategies = s.strategies)
    (guards : t.guards = s.guards) (translating : t.translating = s.translating) (link : t.link = s.link)
    (pickup : t.pickup = s.pickup) (port : t.port = s.port) (pending : t.pending = s.pending) :
    t = (((((((s.withGate t.gate).withQueue t.queue).withStreams t.streams).withLevels t.levels).withLaser t.laser).withMonitor
      t.monitor).withAlert t.alert |>.withZones t.zones).withWritePath t.writePath := by
  obtain ⟨⟩ := s
  obtain ⟨⟩ := t
  dsimp only at *
  subst_vars
  rfl

theorem riseOn_serves (h : s.riseCheck e = .ok l) : s.riseOn e = (s.serveBlock e l).retarget := by
  simp only [State.riseOn, h]

/-! ### A Read block (R87) -/

/-- The state of a Read rise in which the read drive is to be formed. -/
def readRisen (s : State) (e : Entry) (l : LevelSet) : State :=
  (((risen s e l).raiseIf l.read.powerClamp .pclamp).withMonitor (s.monitor.atServe .reading)).withLaser
    { s.laser with state := .reading }

theorem serveBlock_read (reads : e.intent = .read) (noLevels : l.write = none) :
    s.serveBlock e l = (readRisen s e l).formReadDrive := by
  have power : l.powerClamped = l.read.powerClamp := by simp [LevelSet.powerClamped, noLevels]
  have current : l.currentClamped = false := by simp [LevelSet.currentClamped, noLevels]
  have notWrites : ¬ e.writes = true := fun writes => writes_iff.1 writes reads
  have laser : ((risen s e l).raiseIf l.read.powerClamp .pclamp).laser = s.laser := by simp [risen]
  rw [serveBlock_eq, if_neg notWrites, clampsRaised, power, current, readRisen, ← laser]
  rfl

theorem readRisen_readInUse : (readRisen s e l).readInUse = some (l.read.current, l.read.power) := by
  have levels : (readRisen s e l).levels = s.levels.handOff l := by simp [readRisen, risen]
  simp [State.readInUse, levels, LevelComputer.handOff]

theorem readRisen_monitor : (readRisen s e l).monitor = s.monitor.atServe .reading := rfl

/-- A request whose condition holds is set in the alert unit alone. -/
theorem raiseIf_alert_congr {t u : State} (h : t.alert = u.alert) (c : Bool) (f : RequestFlag) :
    (t.raiseIf c f).alert = (u.raiseIf c f).alert := by
  cases c
  · exact h
  · exact congrArg (fun a => Alert.raise a f) h

theorem risen_alert : (risen s e l).alert = s.alert := by simp [risen]

theorem readRisen_alert : (readRisen s e l).alert = (s.raiseIf l.read.powerClamp .pclamp).alert := by
  rw [readRisen, withLaser_alert, withMonitor_alert]
  exact raiseIf_alert_congr risen_alert _ _

theorem serveBlock_read_fields (reads : e.intent = .read) (noLevels : l.write = none) :
    (s.serveBlock e l).zones = s.zones ∧ (s.serveBlock e l).writePath = s.writePath ∧
    (s.serveBlock e l).laser = { s.laser with
      state := .reading, lsel := .read,
      current := if (l.read.current : Int) + s.monitor.apc < 0 then 0
                 else if (s.laser.ceilings.imax : Int) < l.read.current + s.monitor.apc then s.laser.ceilings.imax
                 else ((l.read.current : Int) + s.monitor.apc).toNat } ∧
    (s.serveBlock e l).monitor = s.monitor.atServe .reading ∧
    (s.serveBlock e l).alert = ((s.raiseIf l.read.powerClamp .pclamp).raiseIf
      (decide ((s.laser.ceilings.imax : Int) < l.read.current + s.monitor.apc)) .iclamp).alert := by
  rw [serveBlock_read reads noLevels]
  refine ⟨?_, ?_, ?_, ?_, ?_⟩
  · simp [readRisen, risen]
  · simp [readRisen, risen]
  · rw [formReadDrive_of readRisen_readInUse, raiseIf_laser]
    rfl
  · rw [formReadDrive_monitor, readRisen_monitor]
  · rw [formReadDrive_of readRisen_readInUse]
    exact raiseIf_alert_congr ((withLaser_alert ..).trans readRisen_alert) _ _

/-! ### A Write or Calibrate block (R88, R89) -/

theorem startWriting_zone (u : State) (i j : ZoneSlot) (w : WriteLevels) :
    (u.startWriting (some i) w).zone j = if i = j then { u.zone i with written := true } else u.zone j := by
  rw [State.startWriting, State.markWritten, setZone_zone]
  rfl

theorem serveBlock_write_fields (writes : e.intent ≠ .read) {w : WriteLevels} (levels : l.write = some w) {i : ZoneSlot}
    {k : StrategySlot} (slot : e.slotFor e.next = some i) (strategy : (s.zone i).strategy = some k) :
    (s.serveBlock e l).zone i = { s.zone i with written := true } ∧
    (∀ j, j ≠ i → (s.serveBlock e l).zone j = s.zone j) ∧
    (s.serveBlock e l).writePath = some (startWritePath (s.strategy k).record w) ∧
    (s.serveBlock e l).laser = { s.laser with
      state := .writing, gateTimer := some (s.laser.ceilings.gateSteps * 10), current := w.bias.current, lsel := .bias } ∧
    (s.serveBlock e l).monitor = s.monitor.atServe .writing ∧
    (s.serveBlock e l).alert = (clampsRaised s l).alert := by
  rw [serveBlock_eq, if_pos (writes_iff.2 writes), slot]
  have given : l.writeLevels = w := by simp [LevelSet.writeLevels, levels]
  rw [given]
  have laser : (clampsRaised (risen s e l) l).laser = s.laser := by simp [clampsRaised, risen]
  have zones : (clampsRaised (risen s e l) l).zones = s.zones := by simp [clampsRaised, risen]
  have strategies : (clampsRaised (risen s e l) l).strategies = s.strategies := by simp [clampsRaised, risen]
  have same : ∀ j, ((clampsRaised (risen s e l) l).withMonitor (s.monitor.atServe .writing)).zone j = s.zone j :=
    zone_congr ((withMonitor_zones ..).trans zones)
  refine ⟨?_, fun j other => ?_, ?_, ?_, ?_, ?_⟩
  · rw [startWriting_zone, if_pos rfl, same]
  · rw [startWriting_zone, if_neg other.symm, same]
  · rw [startWriting_writePath, State.servingStrategy, Option.bind_some, same, strategy]
    dsimp only
    rw [strategy_congr ((withMonitor_strategies ..).trans strategies)]
  · rw [startWriting_laser, withMonitor_laser, laser]
  · rw [startWriting_monitor]
    rfl
  · rw [startWriting_alert]
    exact raiseIf_alert_congr (raiseIf_alert_congr risen_alert _ _) _ _

end

end Sys2Proof.Laws

namespace Sys2Proof.Settled

open Sys2Proof Sys2Proof.Machine Sys2Proof.Laws

/-- Settles O48: the checks pass, so the rise serves; then the fields of a Read and of a written block. -/
theorem riseServesBlock : Obligations.RiseServesBlock := by
  unfold Obligations.RiseServesBlock
  intro s e rest l running low ordered hq translated settled answers slot st common
  obtain ⟨fits, found⟩ := answers
  have answered : s.levels.answer e.tag e.next = some l := by
    rcases found with ready | ⟨unready, standIn⟩
    · exact answer_eq_ready fits ready
    · exact answer_eq_standIn fits unready standIn
  have row : (e.intent = .read ∨ s.laser.clock = .locked) → exec .bgateRise s = .next (s.serveBlock e l).retarget := fun locked => by
    rw [exec_rise running low ordered hq, riseOn_serves (riseCheck_serves translated settled answered locked)]
  have shared : common (s.serveBlock e l).retarget := by
    refine ⟨serve_frame ?_ ?_ ?_ ?_ ?_ ?_ ?_ ?_, ?_, ?_, ?_, ?_, fun n other => ?_, ?_, ?_⟩
    · simp
    · simp
    · simp
    · simp
    · rw [retarget_link, serveBlock_link]
    · simp
    · simp
    · simp
    · rw [retarget_gate, serveBlock_gate]
    · rw [retarget_gate, serveBlock_gate]
      simp only [slotFor_eq]
      rfl
    · rw [retarget_queue, serveBlock_queue ordered hq, taken_eq, if_neg translated]
    · rw [stream_congr (retarget_streams _), serveBlock_stream, if_pos rfl, stream_served]
    · rw [stream_congr (retarget_streams _), serveBlock_stream, if_neg other]
    · conv_lhs => rw [retarget_levels_frame, serveBlock_levels]
      rfl
    · exact retarget_targetFollowed (by rw [serveBlock_levels]; rfl) (by rw [serveBlock_levels]; rfl)
  refine ⟨fun reads noLevels => ?_, fun w i k writes locked levels serving strategy => ?_⟩
  · intro drive
    obtain ⟨zones, writePath, laser, monitor, alert⟩ := serveBlock_read_fields (s := s) reads noLevels
    refine ⟨_, row (.inl reads), shared, ?_⟩
    rw [retarget_zones, retarget_writePath, retarget_laser, retarget_monitor, retarget_alert]
    exact ⟨zones, writePath, laser, monitor, alert⟩
  · obtain ⟨zone, others, writePath, laser, monitor, alert⟩ :=
      serveBlock_write_fields (s := s) (l := l) writes levels ((slotFor_eq e e.next).trans serving) strategy
    refine ⟨_, row (.inr locked), shared, ?_⟩
    simp only [zone_congr (retarget_zones _), retarget_writePath, retarget_laser, retarget_monitor, retarget_alert]
    refine ⟨zone, others, writePath, laser, monitor, ?_⟩
    rw [alert, clampsRaised, LevelSet.powerClamped, LevelSet.currentClamped, levels]
    simp only [Bool.or_assoc]

end Sys2Proof.Settled

/-!
PROOFS. The fall of the gate (05_block_service.md, R80, R91 to R93).
-/

namespace Sys2Proof.Laws

open Sys2Proof Sys2Proof.Machine

/-! ### The removals deferred to the fall (R6, R91) -/

section
variable (s : State) (e : Entry)

/-- The gate is Low with no record, as a fall leaves it. -/
def gateLow (s : State) : State := s.withGate ⟨false, none⟩

theorem produce_gateLow (r : Reply) : (gateLow s).produce r = gateLow (s.produce r) := by
  unfold State.produce gateLow
  rw [withGate_link]
  split <;> rfl

theorem removeDeferred_pinsDropped : PinsDropped (gateLow s) (gateLow (s.removeDeferred e)) := by
  have dropped := unpinAll_pinsDropped (s.replaceEntry (e.deferred.foldl Entry.withoutSlot e)) e.deferred
  exact ⟨dropped.zones, dropped.strategies, dropped.alert⟩

theorem removeDeferred_queue : (s.removeDeferred e).queue =
    s.queue.map fun f => if f.tag = e.tag then e.deferred.foldl Entry.withoutSlot e else f := by
  rw [State.removeDeferred, unpinAll_queue, State.replaceEntry, withQueue_queue, (foldl_withoutSlot_edited e.deferred e).tag]

theorem removeDeferred_trimmed : Trimmed [] [] (gateLow s) (gateLow (s.removeDeferred e)) :=
  (trimmed_refl (gateLow s)).dropped (removeDeferred_pinsDropped s e) (by simp [gateLow]) (by simp [gateLow]) (by simp [gateLow])
    rfl (by simp [gateLow])

variable {s}

theorem removeEntries_gateLow {told : List Reply} {u : State} (h : Trimmed [] told (gateLow s) (gateLow u)) (p : Entry → Bool) :
    Trimmed [] told (gateLow s) (gateLow (u.removeEntries p)) := by
  have dropped := removeEntries_pinsDropped u p
  exact h.dropped ⟨dropped.zones, dropped.strategies, dropped.alert⟩ (by simp [gateLow]) (by simp [gateLow])
    (by simp [gateLow]) rfl (by simp [gateLow])

end

section
variable {s : State} {e : Entry} {i : ZoneSlot}

theorem unpin_zone_of_not_retiring (h : (s.zone i).state ≠ .retiring) (j : ZoneSlot) :
    (s.unpin j).zone i = { s.zone i with pins := (s.zone i).pins - if j = i then 1 else 0 } := by
  by_cases same : j = i
  · subst same
    rw [unpin_of_kept s j fun freed => h freed.1, setZone_zone, if_pos rfl, if_pos rfl]
  · rw [if_neg same]
    by_cases freed : (s.zone j).state = .retiring ∧ (s.zone j).pins ≤ 1
    · rw [unpin_of_freed s j freed]
      exact (freeZone_zone ..).trans (if_neg same)
    · rw [unpin_of_kept s j freed, setZone_zone, if_neg same]
      rfl

theorem unpinAll_zone_of_not_retiring (h : (s.zone i).state ≠ .retiring) (is : List ZoneSlot) :
    (s.unpinAll is).zone i = { s.zone i with pins := (s.zone i).pins - is.count i } := by
  unfold State.unpinAll
  induction is generalizing s with
  | nil => rfl
  | cons j is ih =>
    have kept := unpin_zone_of_not_retiring h j
    rw [List.foldl_cons, ih (by rw [kept]; exact h), kept, List.count_cons]
    by_cases same : j = i
    · simp [same, Nat.sub_sub, Nat.add_comm]
    · simp [same]

/-- Only the translations of an entry change. -/
theorem foldl_withoutSlot_frame (is : List ZoneSlot) (e : Entry) : is.foldl Entry.withoutSlot e =
    { e with
      primary := (is.foldl Entry.withoutSlot e).primary
      secondary := (is.foldl Entry.withoutSlot e).secondary
      deferred := (is.foldl Entry.withoutSlot e).deferred } := by
  induction is generalizing e with
  | nil => rfl
  | cons i is ih => exact ih (e.withoutSlot i)

theorem foldl_withoutSlot_names (is : List ZoneSlot) (e : Entry) (i : ZoneSlot) :
    (is.foldl Entry.withoutSlot e).names i = (e.names i && !is.contains i) := by
  rw [Entry.names, withoutSlots_slots, Entry.names, Bool.eq_iff_iff]
  simp

/-! ### The entry at its fall (R92, R93) -/

theorem exec_fall_low (running : s.inReset = false) (low : s.gate.high = false) : exec .bgateFall s = .next s := by
  refine (exec_running running rfl).trans ?_
  dsimp only
  rw [if_neg (by simp [low])]

theorem exec_fall_empty (running : s.inReset = false) (high : s.gate.high = true) (none : s.gate.record = none) :
    exec .bgateFall s = .next (s.withGate ⟨false, .none⟩) := by
  refine (exec_running running rfl).trans ?_
  dsimp only
  rw [if_pos high, none]

theorem exec_fall {r : BlockRecord} (running : s.inReset = false) (high : s.gate.high = true) (hr : s.gate.record = some r) :
    exec .bgateFall s = .next (gateLow (entryEnded s.returnToIdle r)).queueChanged := by
  refine (exec_running running rfl).trans ?_
  dsimp only
  rw [if_pos high, hr]
  rfl

variable {r : BlockRecord}

theorem entryEnded_none (h : ∀ e ∈ s.queue, r.isOf e = false) : entryEnded s r = s := by
  have absent : s.servedEntry r = none := List.find?_eq_none.2 fun e he => by simp [h e he]
  simp only [entryEnded, absent]

theorem servedEntry_of (tags : (s.queue.map Entry.tag).Nodup) (mem : e ∈ s.queue) (ofE : r.isOf e = true) :
    s.servedEntry r = some e := by
  have tagOf : ∀ f : Entry, r.isOf f = true → r.tag = f.tag := fun f hf => by
    rw [BlockRecord.isOf, Bool.and_eq_true, beq_iff_eq] at hf
    exact hf.2
  cases found : s.servedEntry r with
  | none => simpa [ofE] using List.find?_eq_none.1 found e mem
  | some f =>
    have same : f.tag = e.tag := (tagOf f (by simpa using List.find?_some found)).symm.trans (tagOf e ofE)
    rw [eq_of_tag tags (List.mem_of_find?_eq_some found) mem same]

theorem entryEnded_of (found : s.servedEntry r = some e) : entryEnded s r = (s.removeDeferred e).endEntry e r.ended := by
  simp only [entryEnded, found]

theorem endEntry_ended : s.endEntry e true = s.removeEntries fun f => f.tag == e.tag := if_pos rfl

theorem endEntry_usedUp (translated : e.state ≠ .waiting) (used : e.start + e.accepted ≤ e.next) : s.endEntry e false = s.complete e := by
  rw [State.endEntry, if_neg (by simp), if_pos ⟨translated, Nat.sub_eq_zero_of_le used⟩]

theorem endEntry_stays (h : e.state = .waiting ∨ e.next < e.start + e.accepted) : s.endEntry e false = s := by
  have left : ¬ (e.state ≠ .waiting ∧ e.remaining = 0) := by
    rintro ⟨translated, used⟩
    rcases h with waiting | before
    · exact translated waiting
    · exact absurd (Nat.le_of_sub_eq_zero used) (Nat.not_le.2 before)
  rw [State.endEntry, if_neg (by simp), if_neg left]

/-- Whatever becomes of the entry, its queue and what is told. -/
theorem removed_filter : ((s.removeDeferred e).queue.filter fun f => f.tag != e.tag) = s.queue.filter fun f => f.tag != e.tag := by
  rw [removeDeferred_queue, filter_replaced s.queue (foldl_withoutSlot_edited e.deferred e).tag]

theorem ended_trimmed (s : State) (e : Entry) :
    Trimmed [] [] (gateLow s) (gateLow ((s.removeDeferred e).removeEntries fun f => f.tag == e.tag)) :=
  removeEntries_gateLow (removeDeferred_trimmed s e) _

theorem completed_trimmed (s : State) (e : Entry) :
    Trimmed [] [.done e.tag e.served e.skipped] (gateLow s) (gateLow ((s.removeDeferred e).complete e)) := by
  have told := (removeDeferred_trimmed s e).produce (r := .done e.tag e.served e.skipped) rfl
  rw [produce_gateLow] at told
  exact removeEntries_gateLow told _

/-- The DONE of an entry whose run is used up and that has had no REVOKE (R92). -/
def fallTold (s : State) (r : BlockRecord) : List Reply :=
  match s.servedEntry r with
  | some e =>
    if r.ended = false ∧ e.state ≠ .waiting ∧ e.start + e.accepted ≤ e.next then [.done e.tag e.served e.skipped] else []
  | none => []

theorem fallTold_of (found : s.servedEntry r = some e) : fallTold s r =
    if r.ended = false ∧ e.state ≠ .waiting ∧ e.start + e.accepted ≤ e.next then [.done e.tag e.served e.skipped] else [] := by
  simp only [fallTold, found]

theorem fallTold_none (h : ∀ e ∈ s.queue, r.isOf e = false) : fallTold s r = [] := by
  have absent : s.servedEntry r = none := List.find?_eq_none.2 fun e he => by simp [h e he]
  simp only [fallTold, absent]

theorem entryEnded_trimmed (s : State) (r : BlockRecord) : Trimmed [] (fallTold s r) (gateLow s) (gateLow (entryEnded s r)) := by
  cases found : s.servedEntry r with
  | none =>
    have kept : entryEnded s r = s := by simp only [entryEnded, found]
    have quiet : fallTold s r = [] := by simp only [fallTold, found]
    rw [kept, quiet]
    exact trimmed_refl _
  | some e =>
    rw [entryEnded_of found, fallTold_of found]
    cases ended : r.ended with
    | true =>
      rw [endEntry_ended, if_neg (by simp)]
      exact ended_trimmed s e
    | false =>
      by_cases usedUp : e.state ≠ .waiting ∧ e.start + e.accepted ≤ e.next
      · rw [endEntry_usedUp usedUp.1 usedUp.2, if_pos ⟨rfl, usedUp⟩]
        exact completed_trimmed s e
      · have stays : e.state = .waiting ∨ e.next < e.start + e.accepted := by
          rw [not_and_or, not_not, Nat.not_le] at usedUp
          exact usedUp
        rw [endEntry_stays stays, if_neg fun h => usedUp h.2]
        exact removeDeferred_trimmed s e

/-! ### The laser's return to Idle (R91) -/

theorem returnToIdle_stays (h : ¬ (s.laser.state = .reading ∨ s.laser.state = .writing)) : s.returnToIdle = s := if_neg h

theorem returnToIdle_returns {l : LevelSet} (h : s.laser.state = .reading ∨ s.laser.state = .writing)
    (since : s.levels.servedSinceOn = true) (hl : s.levels.handedOff = some l) :
    s.returnToIdle = ((((s.withWritePath none).withLaser
      { s.laser with
        state := .idle, gateTimer := none, lsel := .read,
        current := if (l.read.current : Int) + s.monitor.apc < 0 then 0
                   else if (s.laser.ceilings.imax : Int) < l.read.current + s.monitor.apc then s.laser.ceilings.imax
                   else ((l.read.current : Int) + s.monitor.apc).toNat }).withMonitor s.returnToIdle.monitor).raiseIf
      (decide ((s.laser.ceilings.imax : Int) < l.read.current + s.monitor.apc)) .iclamp) ∧
    s.returnToIdle.monitor = { s.monitor with
      idleTimer := some 100, peakHold := none, blockSamples := s.returnToIdle.monitor.blockSamples } ∧
    ∀ d ∈ s.returnToIdle.monitor.blockSamples, d.live = false := by
  have enters : s.returnToIdle = s.enterIdle := if_pos h
  rw [enters, enterIdle_monitor]
  refine ⟨?_, rfl, killSamples_dead s.monitor⟩
  rw [enterIdle_eq, formReadDrive_of (readInUse_served (s := idleEntered s) since hl)]
  rfl

end

end Sys2Proof.Laws

namespace Sys2Proof.Settled

open Sys2Proof Sys2Proof.Machine Sys2Proof.Laws

/-- Settles O50: the laser's return first, then the entry of the block in service, if it is still there. -/
theorem fallEnds : Obligations.FallEnds := by
  unfold Obligations.FallEnds
  intro s running
  refine ⟨exec_fall_low running, exec_fall_empty running, fun r l high hr ordered => ?_⟩
  intro returns handed drive
  have row := exec_fall running high hr
  have sameQueue : s.returnToIdle.queue = s.queue := returnToIdle_queue s
  have tags : (s.returnToIdle.queue.map Entry.tag).Nodup := by rw [sameQueue]; exact ordered.tags
  refine ⟨s.returnToIdle, _, fallTold s.returnToIdle r, row, (entryEnded_trimmed s.returnToIdle r).triggerFrame, ?_,
    returnToIdle_stays, fun returning => returnToIdle_returns returning (handed returning).1 (handed returning).2, fun none => ?_,
    fun e mem ofE => ?_⟩
  · rw [queueChanged_gate]
    rfl
  · rw [← sameQueue] at none
    rw [entryEnded_none none, fallTold_none none]
    simp [gateLow]
  · have found := servedEntry_of tags (sameQueue ▸ mem) ofE
    rw [fallTold_of found, entryEnded_of found, queueChanged_queue, ← sameQueue]
    refine ⟨fun ended => ?_, fun unended translated used => ?_, fun unended stays => ?_⟩
    · rw [ended, endEntry_ended, if_neg (by simp)]
      exact ⟨(removeEntries_queue ..).trans removed_filter, rfl⟩
    · rw [unended, endEntry_usedUp translated used, if_pos ⟨rfl, translated, used⟩]
      exact ⟨(complete_queue ..).trans removed_filter, rfl⟩
    · have left : ¬ (r.ended = false ∧ e.state ≠ .waiting ∧ e.start + e.accepted ≤ e.next) := by
        rintro ⟨-, translated, used⟩
        rcases stays with waiting | before
        · exact translated waiting
        · omega
      rw [unended, endEntry_stays stays, if_neg (unended ▸ left)]
      refine ⟨_, removeDeferred_queue .., rfl, foldl_withoutSlot_frame .., foldl_withoutSlot_names _ e, fun i notRetiring => ?_⟩
      have zone : ∀ j, (s.returnToIdle.replaceEntry (e.deferred.foldl Entry.withoutSlot e)).zone j = s.zone j :=
        zone_congr (by simp)
      have unpinned := unpinAll_zone_of_not_retiring (s := s.returnToIdle.replaceEntry (e.deferred.foldl Entry.withoutSlot e))
        (i := i) (by rw [zone]; exact notRetiring) e.deferred
      rw [zone] at unpinned
      rw [queueChanged_zone]
      exact unpinned

end Sys2Proof.Settled
